-- ==== Sys2Proof/Word.lean ====
section
/-! DEFINITION. The words of the VD2440's lines: a character and a pack ID. -/

namespace Sys2Proof

/-- One character of a line, or one byte of the profile memory (R21, R135, R147). -/
abbrev Byte := BitVec 8

/-- A pack ID, 24 bits (00_scope.md, Packs). -/
abbrev PackId := BitVec 24

/-- A seat number, 0 to 127 (R1). -/
abbrev Seat := Fin 128

/-- A receiver port number, 0 to 7, and the number of the receiver card on it. -/
abbrev Port := Fin 8

/-- The 128 seat numbers in ascending order, the order in which an event hands seats on (R59). -/
def allSeats : List Seat := List.finRange 128

end Sys2Proof
end

