-- ==== Sys2Proof/Syntax.lean ====
section
/-! DEFINITION. The commands of the VD2440, one constructor per row of spec/opcode_table.json, and the
types of their operands. -/

namespace Sys2Proof

/-- The three console links CL-A, CL-B and CL-C. -/
inductive LinkId where
  | a | b | c
  deriving DecidableEq, Repr

/-- The seven warning kinds (chapter 4, kind table). -/
inductive Kind where
  | battery | batteryShortfall | mutedSpeech | openNoFloor | signalWeak | dropouts | signalLost
  deriving DecidableEq, Repr

/-- The strap pins sampled at the rising edge of RESET (00_scope.md, strap coding).  A pair is written
with the pin numbered 1 as its high bit. -/
structure Straps where
  roleA : BitVec 2
  roleB : BitVec 2
  roleC : BitVec 2
  store : BitVec 2
  loadBoot : Bool
  deriving DecidableEq, Repr

/-- How far a profile operation had gone when it was cut short (R151, R156).  `taken` is how many of a
save's twenty writes the memory has taken, or how many bytes a load has read; `torn` is what the memory
made of the page of the write then in flight. -/
structure Progress where
  taken : Nat
  torn : List Byte
  deriving DecidableEq, Repr

/-- The order in which the Seat Table and the Condition Monitor take one quarter tick (R61, R119): the
whole table first, the whole monitor first, or an order for each seat, the monitor first at the seats whose bit
is set. -/
inductive TickOrder where
  | seatTableFirst
  | monitorFirst
  | seatBySeat (monitorFirstAt : BitVec 128)
  deriving DecidableEq, Repr

/-- The order in which the dropout window (w), the escalation timers (e) and the sitting clock (c) take
one second tick (R119). -/
inductive SecondOrder where
  | cwe | cew | wce | wec | ecw | ewc
  deriving DecidableEq, Repr

/-- The commands.  A request command is a complete good request frame of its CODE reaching the link
(R137, R138); `payload` is the frame's payload, laid out as 10_frame_and_record_formats.md 10.5 gives. -/
inductive Instr where
  /-- The rising edge of RESET (R1, R103, R147, R156); `progress` is how far a save in flight had gone. -/
  | resetPin (straps : Straps) (protect : Bool) (progress : Progress)
  /-- A character on a receiver port line (R21). -/
  | portCharacter (port : Port) (ch : Byte) (stopAtSpace : Bool)
  /-- The intake arbiter's pick and the processing of the report (R30, R31). -/
  | intakePick
  | quarterTick (order : TickOrder)
  | enterFading (seat : Seat)
  | enterLost (seat : Seat)
  | qualifierExpiry (seat : Seat) (kind : Kind)
  | accumulationLimit (seat : Seat)
  | secondTick (order : SecondOrder)
  | dropoutWindowEnd
  | escalationExpiry (seat : Seat) (kind : Kind)
  | minuteTick
  | drainWindowComplete (seat : Seat)
  /-- A character on a console link's receive line (R136); `protect` is the PROTECT level then. -/
  | linkCharacter (link : LinkId) (ch : Byte) (stopAtSpace : Bool) (protect : Bool)
  /-- The last stop bit of a reply (R138). -/
  | replyEnd (link : LinkId) (protect : Bool)
  /-- The receive line has been at space for two character times (R144). -/
  | linkBreak (link : LinkId)
  | unknownRequest (link : LinkId) (code : Byte) (payload : List Byte)
  | status (link : LinkId) (payload : List Byte)
  | clearLinkFlags (link : LinkId) (payload : List Byte)
  | bindPack (link : LinkId) (payload : List Byte)
  | unbindSeat (link : LinkId) (payload : List Byte)
  | setGroup (link : LinkId) (payload : List Byte)
  | readSeat (link : LinkId) (payload : List Byte)
  | readSeats (link : LinkId) (payload : List Byte)
  | readStrays (link : LinkId) (payload : List Byte)
  | restartSeats (link : LinkId) (payload : List Byte)
  | readPorts (link : LinkId) (payload : List Byte)
  | portStart (link : LinkId) (payload : List Byte)
  | portStop (link : LinkId) (payload : List Byte)
  | clearPortFlags (link : LinkId) (payload : List Byte)
  | setCurve (link : LinkId) (payload : List Byte)
  | readCurve (link : LinkId) (payload : List Byte)
  | setParameter (link : LinkId) (payload : List Byte)
  | readParameter (link : LinkId) (payload : List Byte)
  | purgeCleared (link : LinkId) (payload : List Byte)
  | readUnseen (link : LinkId) (payload : List Byte)
  | readWarnings (link : LinkId) (payload : List Byte)
  | ackWarning (link : LinkId) (payload : List Byte)
  | ackGroup (link : LinkId) (payload : List Byte)
  | setView (link : LinkId) (payload : List Byte)
  | readView (link : LinkId) (payload : List Byte)
  | startSitting (link : LinkId) (payload : List Byte)
  | setSchedule (link : LinkId) (payload : List Byte)
  | recess (link : LinkId) (payload : List Byte)
  | resume (link : LinkId) (payload : List Byte)
  | endSitting (link : LinkId) (payload : List Byte)
  | grantFloor (link : LinkId) (payload : List Byte)
  | withdrawFloor (link : LinkId) (payload : List Byte)
  | withdrawAll (link : LinkId) (payload : List Byte)
  | readFloor (link : LinkId) (payload : List Byte)
  /-- `protect` is the PROTECT level at the request (R149 step 6). -/
  | profileSave (link : LinkId) (payload : List Byte) (protect : Bool)
  | profileLoad (link : LinkId) (payload : List Byte)
  | profileCompare (link : LinkId) (payload : List Byte)
  /-- `protect` is the PROTECT level at the request (R148). -/
  | readProfileStatus (link : LinkId) (payload : List Byte) (protect : Bool)
  | saveComplete
  | loadComplete
  | compareComplete
  | storeFault (progress : Progress)
  | linkReturnToMark (link : LinkId)
  deriving DecidableEq, Repr

end Sys2Proof
end

