-- ==== Sys2Proof/Decode.lean ====
section
/-! DEFINITION. No row of spec/opcode_table.json has encoding bits, so no word spells a command.  (The
byte layouts of the lines' own frames are in Machine/Operands.lean.) -/

namespace Sys2Proof

/-- The command a word spells by the table's bits: none, for every word, since no row gives bits (log 21). -/
def decodeTableWord (_nbits _w : Nat) : Option Instr := none

end Sys2Proof
end

