-- ==== Sys2Proof/Config.lean ====
section
/-! DEFINITION. The constants the spec fixes for the part, and the free values it leaves open. -/

namespace Sys2Proof.Config

/-- Capacity of the Warning List (R80). -/
def listCapacity : Nat := 48

/-- Capacity of the stray list (R11). -/
def strayCapacity : Nat := 8

/-- Capacity of a port FIFO (R24). -/
def fifoCapacity : Nat := 4

/-- Where the sitting clock stays (R121). -/
def clockMax : Nat := 359999

/-- Where device seconds stay (R119). -/
def deviceSecondsMax : Nat := 4294967295

/-- Where an OPEN_NO_FLOOR present value stays (R62). -/
def openPvMax : Nat := 65535

/-- The longest scheduled length, in minutes (R122). -/
def scheduleMax : Nat := 1439

/-- Bytes of a profile image (R150). -/
def imageBytes : Nat := 604

/-- Bytes of a profile slot (R147). -/
def slotBytes : Nat := 1024

/-- What an EEPROM byte that nothing has written reads as.  DESIGN CHOICE (log 14), unsafe: the spec speaks
of "a slot of blank memory" and gives no value. -/
def blankByte : Byte := 0xFF

/-- DESIGN CHOICE (log 12): a FREE VALUE.  The previous-pack field of the BIND PACK reply when the pack is
already bound to the seat, which R13 does not state: one of the codes that R157 leaves the field, a pack 000001h
to FFFFFEh or 000000h for none. -/
opaque rebindPreviousPack : Nat → Fin 0xFFFFFF

end Sys2Proof.Config
end

