-- ==== Sys2Proof/Machine/State.lean ====
section
/-! DEFINITION. The state of the VD2440 as plain data, and the state right after reset. -/

namespace Sys2Proof.Machine

/-- Why a step stops.  No command of the spec stops the part, so there is no fault (INVENTORY, Faults). -/
inductive Fault where
  deriving DecidableEq, Repr

/-- Why a step is refused. -/
inductive Refusal where
  /-- Raised by exec's arm of a command that has no meaning yet; safe, since nothing happens. -/
  | notModelled (mnemonic : String)
  deriving DecidableEq, Repr

/-- A value for each of the three links. -/
structure PerLink (α : Type) where
  a : α
  b : α
  c : α
  deriving DecidableEq, Repr

/-- A value for each of the seven kinds. -/
structure PerKind (α : Type) where
  battery : α
  batteryShortfall : α
  mutedSpeech : α
  openNoFloor : α
  signalWeak : α
  dropouts : α
  signalLost : α
  deriving DecidableEq, Repr

/-- The four sticky flags of a receiver port (R26) or of a link (R142). -/
structure LineFlags where
  framing : Bool
  check : Bool
  format : Bool
  overrun : Bool
  deriving DecidableEq, Repr

def LineFlags.clear : LineFlags := ⟨false, false, false, false⟩

/-! ## Seat Table and estimator -/

/-- Radio state of a seat (section 1.2). -/
inductive Signal where
  | noPack | seeking | heard | fading | lost
  deriving DecidableEq, Repr

/-- The filtered mute state (R1). -/
inductive Mute where
  | unknown | opened | muted
  deriving DecidableEq, Repr

/-- A pack's mute switch, as one report gives it (R23). -/
inductive Switch where
  | opened | muted
  deriving DecidableEq, Repr

/-- The current sequence with its status and, while it is OPEN, its sample (R1): the status is absent with
the sequence, and the sample is present only while the sequence is OPEN. -/
inductive SeqState where
  | absent
  | closed (number : Byte)
  | opened (number : Byte) (level : Nat) (receiver : Port)
  deriving DecidableEq, Repr

/-- The estimator record of a seat (R40).  The smoothed voltage is floor(S/8). -/
structure EstRecord where
  store : Option Nat
  percent : Option Nat
  rise : Nat
  windowStart : Option Nat
  age : Nat
  drain : Option Nat
  minutes : Option Nat
  deriving DecidableEq, Repr

/-- The restarted state of an estimator record (R40, R41). -/
def EstRecord.restarted : EstRecord := ⟨none, none, 0, none, 0, none, none⟩

/-- One seat record (R1).  The level average is floor(A/4). -/
structure SeatRecord where
  group : Nat
  pack : Option PackId
  signal : Signal
  silence : Nat
  seq : SeqState
  levelStore : Option Nat
  mute : Mute
  rawMute : Option Switch
  voice : Bool
  dropouts : Nat
  est : EstRecord
  deriving DecidableEq, Repr

/-- A seat record after the reset pin (R1). -/
def SeatRecord.reset : SeatRecord :=
  ⟨0, none, .noPack, 0, .absent, none, .unknown, none, false, 0, .restarted⟩

/-- One entry of the stray list (R11). -/
structure Stray where
  pack : PackId
  level : Nat
  receiver : Port
  count : Nat
  heardAt : Nat
  deriving DecidableEq, Repr

/-- One breakpoint of the discharge curve (R42). -/
structure Breakpoint where
  mv : Nat
  percent : Nat
  deriving DecidableEq, Repr

/-- The default discharge curve (R42). -/
def defaultCurve : Vector Breakpoint 8 :=
  #v[⟨2000, 0⟩, ⟨2180, 5⟩, ⟨2300, 15⟩, ⟨2380, 30⟩, ⟨2440, 50⟩, ⟨2500, 70⟩, ⟨2580, 90⟩, ⟨2700, 100⟩]

/-! ## Report intake -/

/-- A report, as a FIFO holds it and the engine sees it (R23). -/
structure Report where
  receiver : Port
  pack : PackId
  seq : Byte
  level : Nat
  voltage : Nat
  switch : Switch
  voice : Bool
  deriving DecidableEq, Repr

/-- Frame assembly of a receiver port (R21); BODY holds the characters collected, TYPE first. -/
inductive PortAssembly where
  | hunt
  | length
  | body (got : List Byte)
  deriving DecidableEq, Repr

/-- One receiver port (chapter 2). -/
structure PortState where
  started : Bool
  assembly : PortAssembly
  fifo : List Report
  flags : LineFlags
  deriving DecidableEq, Repr

/-- A receiver port after the reset pin (R39). -/
def PortState.reset : PortState := ⟨true, .hunt, [], .clear⟩

/-! ## Condition Monitor -/

/-- The state of a qualifier (R58). -/
inductive QState where
  | quiet | qualifying | qualified
  deriving DecidableEq, Repr

/-- The grade of a BATTERY warning (R66). -/
inductive Grade where
  | low | critical
  deriving DecidableEq, Repr

/-- The seven qualifiers of one seat (R58).  The present value of DROPOUTS is the seat's dropout count. -/
structure SeatMonitor where
  state : PerKind QState
  due : PerKind Bool
  batteryPv : Nat
  mutedPv : Nat
  weakPv : Nat
  openPv : Nat
  grade : Option Grade
  held : Option Bool
  windowMark : Bool
  deriving DecidableEq, Repr

/-- The 21 parameters (R77), in number order. -/
structure Params where
  batteryLowPct : Nat
  batteryCritPct : Nat
  batteryHystPct : Nat
  batteryQualify : Nat
  estimatorWindow : Nat
  reserveMin : Nat
  shortfallHystMin : Nat
  mutedSpeechQualify : Nat
  openNoFloorLimit : Nat
  weakLevel : Nat
  weakHyst : Nat
  weakQualify : Nat
  dropoutWindow : Nat
  dropoutLimit : Nat
  fadeTime : Nat
  lostTime : Nat
  escAdvisory : Nat
  escCaution : Nat
  escUrgent : Nat
  floorLimit : Nat
  floorPolicy : Nat
  deriving DecidableEq, Repr

/-- The defaults of R77. -/
def Params.defaults : Params where
  batteryLowPct := 20
  batteryCritPct := 8
  batteryHystPct := 5
  batteryQualify := 32
  estimatorWindow := 20
  reserveMin := 30
  shortfallHystMin := 10
  mutedSpeechQualify := 12
  openNoFloorLimit := 300
  weakLevel := 25
  weakHyst := 6
  weakQualify := 16
  dropoutWindow := 60
  dropoutLimit := 8
  fadeTime := 4
  lostTime := 20
  escAdvisory := 120
  escCaution := 60
  escUrgent := 30
  floorLimit := 2
  floorPolicy := 0

/-- All seven qualifiers QUIET with no due mark, at their reset values, the set values being those of the
parameters (R58). -/
def SeatMonitor.quiet (p : Params) : SeatMonitor where
  state := ⟨.quiet, .quiet, .quiet, .quiet, .quiet, .quiet, .quiet⟩
  due := ⟨false, false, false, false, false, false, false⟩
  batteryPv := p.batteryQualify
  mutedPv := p.mutedSpeechQualify
  weakPv := p.weakQualify
  openPv := 0
  grade := none
  held := none
  windowMark := false

/-- Which RESETTING kinds' set values have changed since the last quarter tick (R60). -/
structure SetChanged where
  battery : Bool
  mutedSpeech : Bool
  signalWeak : Bool
  deriving DecidableEq, Repr

def SetChanged.none : SetChanged := ⟨false, false, false⟩

/-! ## Warning List -/

/-- Severity of a record, and a link's threshold (R81, R103). -/
inductive Severity where
  | advisory | caution | urgent
  deriving DecidableEq, Repr

/-- The state of a warning record (R81). -/
inductive RecordState where
  | activeUnacked | activeAcked | clearedUnacked
  deriving DecidableEq, Repr

/-- A set of roles drawn from PRESIDING and TECHNICAL (R81). -/
structure AckRoles where
  presiding : Bool
  technical : Bool
  deriving DecidableEq, Repr

/-- A warning record (R81).  `escalation` is none while the timer is stopped. -/
structure Record where
  seat : Seat
  kind : Kind
  grade : Option Grade
  severity : Severity
  state : RecordState
  raisedAt : Nat
  changedAt : Nat
  repeats : Nat
  escalations : Nat
  detail : Option Nat
  roles : AckRoles
  ackedBy : PerLink Bool
  seenBy : PerLink Bool
  escalation : Option Nat
  deriving DecidableEq, Repr

/-! ## Console contexts and links -/

/-- The role of a link (R103). -/
inductive Role where
  | disabled | monitor | presiding | technical
  deriving DecidableEq, Repr

/-- A set of warning classes (chapter 4). -/
structure ClassSet where
  power : Bool
  floor : Bool
  radio : Bool
  deriving DecidableEq, Repr

/-- A link's view: the six items of R103. -/
structure View where
  base : Nat
  limit : Nat
  classes : ClassSet
  sittingThreshold : Severity
  recessThreshold : Severity
  masked : Bool
  deriving DecidableEq, Repr

/-- The default record of a role after the reset pin (R104). -/
def View.ofRole : Role → View
  | .presiding => ⟨0, 127, ⟨true, true, true⟩, .caution, .urgent, false⟩
  | .technical => ⟨0, 127, ⟨true, true, true⟩, .advisory, .advisory, false⟩
  | .monitor => ⟨0, 127, ⟨true, true, true⟩, .urgent, .urgent, false⟩
  | .disabled => ⟨0, 127, ⟨true, true, true⟩, .urgent, .urgent, false⟩

/-- Request assembly of a link (R136); BODY holds LEN and the characters collected, CODE first. -/
inductive LinkAssembly where
  | hunt
  | length
  | body (len : Nat) (got : List Byte)
  deriving DecidableEq, Repr

/-- A complete good request: its CODE and payload (R138). -/
structure HeldRequest where
  code : Byte
  payload : List Byte
  deriving DecidableEq, Repr

/-- One console link with its context (R103, chapter 8).  `reply` is the reply frame on the transmit line
while a reply is in progress; `inBreak` says that the line has given a break and has not returned to mark. -/
structure LinkState where
  role : Role
  view : View
  default : View
  notice : Bool
  flags : LineFlags
  assembly : LinkAssembly
  reply : Option (List Byte)
  hold : Option HeldRequest
  inBreak : Bool
  deriving DecidableEq, Repr

/-- A link after the reset pin, strapped to a role (R103, R104, chapter 8).  DESIGN CHOICE (log 28), unsafe: no
break stands any more, so a line still at space may give a break again. -/
def LinkState.reset (role : Role) : LinkState :=
  ⟨role, .ofRole role, .ofRole role, false, .clear, .hunt, none, none, false⟩

/-! ## Sitting Control and Profile Store -/

/-- The sitting state (R120). -/
inductive Sitting where
  | setup | sitting | recess
  deriving DecidableEq, Repr

/-- One entry of the floor list (R129). -/
structure FloorEntry where
  seat : Seat
  grantedAt : Nat
  deriving DecidableEq, Repr

/-- Operation state of the profile controller (R148). -/
inductive ProfileOp where
  | idle | saving | loading | comparing
  deriving DecidableEq, Repr

/-- The last profile operation (R148). -/
inductive LastOp where
  | none | save | load | compare | startUpLoad
  deriving DecidableEq, Repr

/-- The last profile result (R148). -/
inductive ProfileResult where
  | none | done | same | differs | checkFault | formatFault | storeFault
  deriving DecidableEq, Repr

/-- The profile controller (R148). -/
structure Profile where
  slotCount : Nat
  op : ProfileOp
  lastOp : LastOp
  lastSlot : Option Nat
  lastResult : ProfileResult
  buffer : List Byte
  deriving DecidableEq, Repr

/-- The external EEPROM's bytes: the cells that differ from `Config.blankByte`, addresses strictly rising. -/
abbrev Memory := List Host.Cell

/-- The canonical form of a memory: addresses strictly rising, no cell equal to what an unlisted address
reads as. -/
def Memory.wf : Memory → Bool
  | [] => true
  | [c] => c.2 != Config.blankByte
  | c :: d :: m => c.2 != Config.blankByte && c.1 < d.1 && Memory.wf (d :: m)

/-! ## The state -/

/-- The state of the part, of the external EEPROM, and the queue of waiting commands. -/
structure State where
  quarterPhase : Nat
  minutePhase : Nat
  deviceSeconds : Nat
  sitting : Sitting
  clock : Nat
  scheduled : Nat
  floor : List FloorEntry
  seats : Vector SeatRecord 128
  strays : List Stray
  ports : Vector PortState 8
  lastServed : Port
  curve : Vector Breakpoint 8
  params : Params
  monitors : Vector SeatMonitor 128
  windowElapsed : Nat
  setChanged : SetChanged
  records : List Record
  links : PerLink LinkState
  profile : Profile
  protect : Bool
  store : Memory
  freeCount : Nat
  pending : List Instr
  deriving DecidableEq, Repr

/-- The role a strap pair selects (00_scope.md, strap coding). -/
def Role.ofStrap (pins : BitVec 2) : Role :=
  if pins = 0 then .disabled else if pins = 1 then .monitor else if pins = 2 then .presiding else .technical

/-- The slot count the STORE pair selects (00_scope.md, strap coding). -/
def slotsOfStrap (pins : BitVec 2) : Nat :=
  if pins = 0 then 0 else if pins = 1 then 1 else if pins = 2 then 2 else 4

/-- Every block at its reset values, with the straps sampled (R1, R39, R40, R42, R58, R77, R80, R103, R119,
R120, R121, R122, R129, R148), and the start-up load begun if LOADBOOT is high and a store is fitted (R156).
The EEPROM and the model's own fields are not the part's and are given. -/
def State.ofStraps (straps : Straps) (protect : Bool) (store : Memory) (freeCount : Nat)
    (pending : List Instr) : State where
  quarterPhase := 0
  minutePhase := 0
  deviceSeconds := 0
  sitting := .setup
  clock := 0
  scheduled := 0
  floor := []
  seats := Vector.replicate 128 .reset
  strays := []
  ports := Vector.replicate 8 .reset
  lastServed := 7
  curve := defaultCurve
  params := .defaults
  monitors := Vector.replicate 128 (.quiet .defaults)
  windowElapsed := 0
  setChanged := .none
  records := []
  links := ⟨.reset (.ofStrap straps.roleA), .reset (.ofStrap straps.roleB), .reset (.ofStrap straps.roleC)⟩
  profile :=
    if straps.loadBoot && slotsOfStrap straps.store != 0 then
      ⟨slotsOfStrap straps.store, .loading, .startUpLoad, some 0, .none, []⟩
    else ⟨slotsOfStrap straps.store, .idle, .none, none, .none, []⟩
  protect := protect
  store := store
  freeCount := freeCount
  pending := pending

/-- DESIGN CHOICE (log 13), unsafe: the strap levels of `State.reset`.  CL-A PRESIDING, CL-B TECHNICAL and
CL-C MONITOR as in chapter 11, four slots, no start-up load. -/
def resetStraps : Straps := ⟨2, 3, 1, 3, false⟩

/-- The machine right after reset, with the straps of log 13, PROTECT low and a blank EEPROM (log 14). -/
def State.reset : State := .ofStraps resetStraps false [] 0 []

end Sys2Proof.Machine
end

