-- ==== Sys2Proof/Machine/Ops.lean ====
section
/-! DEFINITION. The named operations over the tables of State and over the EEPROM. -/

namespace Sys2Proof.Machine

/-! ## Values per link and per kind -/

/-- The three links, in the order of their letters. -/
def allLinks : List LinkId := [.a, .b, .c]

/-- The seven kinds in kind order (chapter 4, kind table; R59, R89). -/
def allKinds : List Kind :=
  [.battery, .batteryShortfall, .mutedSpeech, .openNoFloor, .signalWeak, .dropouts, .signalLost]

def PerLink.get {α : Type} (p : PerLink α) : LinkId → α
  | .a => p.a
  | .b => p.b
  | .c => p.c

def PerLink.set {α : Type} (p : PerLink α) (x : LinkId) (v : α) : PerLink α :=
  match x with
  | .a => { p with a := v }
  | .b => { p with b := v }
  | .c => { p with c := v }

def PerLink.map {α β : Type} (f : α → β) (p : PerLink α) : PerLink β := ⟨f p.a, f p.b, f p.c⟩

/-- The empty set of links. -/
def PerLink.noLink : PerLink Bool := ⟨false, false, false⟩

def PerKind.get {α : Type} (p : PerKind α) : Kind → α
  | .battery => p.battery
  | .batteryShortfall => p.batteryShortfall
  | .mutedSpeech => p.mutedSpeech
  | .openNoFloor => p.openNoFloor
  | .signalWeak => p.signalWeak
  | .dropouts => p.dropouts
  | .signalLost => p.signalLost

def PerKind.set {α : Type} (p : PerKind α) (k : Kind) (v : α) : PerKind α :=
  match k with
  | .battery => { p with battery := v }
  | .batteryShortfall => { p with batteryShortfall := v }
  | .mutedSpeech => { p with mutedSpeech := v }
  | .openNoFloor => { p with openNoFloor := v }
  | .signalWeak => { p with signalWeak := v }
  | .dropouts => { p with dropouts := v }
  | .signalLost => { p with signalLost := v }

/-- The set of kinds that a predicate picks. -/
def PerKind.of (f : Kind → Bool) : PerKind Bool :=
  ⟨f .battery, f .batteryShortfall, f .mutedSpeech, f .openNoFloor, f .signalWeak, f .dropouts, f .signalLost⟩

/-- All seven kinds. -/
def PerKind.every : PerKind Bool := .of fun _ => true

/-- No kind. -/
def PerKind.nothing : PerKind Bool := .of fun _ => false

/-- One kind alone. -/
def PerKind.only (k : Kind) : PerKind Bool := .of fun j => j == k

def PerKind.union (p q : PerKind Bool) : PerKind Bool := .of fun k => p.get k || q.get k

/-! ## The tables of State -/

def State.seat (s : State) (n : Seat) : SeatRecord := s.seats[n]

def State.putSeat (s : State) (n : Seat) (r : SeatRecord) : State :=
  { s with seats := s.seats.set n.val r n.isLt }

/-- Every seat record rewritten at once. -/
def State.mapSeats (s : State) (f : Seat → SeatRecord → SeatRecord) : State :=
  { s with seats := Vector.ofFn fun n : Seat => f n s.seats[n] }

def State.monitor (s : State) (n : Seat) : SeatMonitor := s.monitors[n]

def State.putMonitor (s : State) (n : Seat) (m : SeatMonitor) : State :=
  { s with monitors := s.monitors.set n.val m n.isLt }

/-- Every seat's qualifiers rewritten at once. -/
def State.mapMonitors (s : State) (f : Seat → SeatMonitor → SeatMonitor) : State :=
  { s with monitors := Vector.ofFn fun n : Seat => f n s.monitors[n] }

def State.port (s : State) (p : Port) : PortState := s.ports[p]

def State.putPort (s : State) (p : Port) (t : PortState) : State :=
  { s with ports := s.ports.set p.val t p.isLt }

/-- Every port rewritten at once. -/
def State.mapPorts (s : State) (f : Port → PortState → PortState) : State :=
  { s with ports := Vector.ofFn fun p : Port => f p s.ports[p] }

def State.link (s : State) (x : LinkId) : LinkState := s.links.get x

def State.putLink (s : State) (x : LinkId) (l : LinkState) : State :=
  { s with links := s.links.set x l }

/-- The pack binding map read from packs to seats: the seat a pack is bound to (R9). -/
def State.seatOfPack (s : State) (pack : PackId) : Option Seat :=
  allSeats.find? fun n => (s.seat n).pack == some pack

/-- A seat is bound while the map holds an entry for it (R9). -/
def State.bound (s : State) (n : Seat) : Bool := (s.seat n).pack.isSome

/-! ## The external EEPROM (R147) -/

/-- The byte at an address. -/
def Memory.read (m : Memory) (address : Nat) : Byte :=
  match m with
  | [] => Config.blankByte
  | c :: rest => if c.1 = address then c.2 else Memory.read rest address

/-- One byte written, the canonical form kept. -/
def Memory.write (m : Memory) (address : Nat) (b : Byte) : Memory :=
  match m with
  | [] => if b = Config.blankByte then [] else [(address, b)]
  | c :: rest =>
    if address < c.1 then (if b = Config.blankByte then c :: rest else (address, b) :: c :: rest)
    else if address = c.1 then (if b = Config.blankByte then rest else (address, b) :: rest)
    else c :: Memory.write rest address b

/-- Bytes written at consecutive addresses. -/
def Memory.writeBytes (m : Memory) (address : Nat) : List Byte → Memory
  | [] => m
  | b :: bytes => Memory.writeBytes (m.write address b) (address + 1) bytes

/-- `count` bytes read from consecutive addresses. -/
def Memory.readBytes (m : Memory) (address count : Nat) : List Byte :=
  (List.range count).map fun i => m.read (address + i)

/-! ## Arithmetic with stated ends -/

/-- Add one, staying at the end of the range (00_scope.md, Arithmetic). -/
def bump (top n : Nat) : Nat := min top (n + 1)

/-- A value taken into a range: below it the lowest, above it the highest (R77). -/
def clampTo (lo hi n : Nat) : Nat := max lo (min hi n)

end Sys2Proof.Machine
end

