-- ==== Sys2Proof/Machine/Operands.lean ====
section
/-! DEFINITION. The byte layouts of 10_frame_and_record_formats.md: numbers, codes, absent values, sets, and
the records sent on a link. -/

namespace Sys2Proof.Machine

/-! ## Numbers, most significant byte first -/

def byte (n : Nat) : Byte := BitVec.ofNat 8 n

def bytes2 (n : Nat) : List Byte := [byte (n / 256), byte n]

def bytes3 (n : Nat) : List Byte := [byte (n / 65536), byte (n / 256), byte n]

def bytes4 (n : Nat) : List Byte := [byte (n / 16777216), byte (n / 65536), byte (n / 256), byte n]

def number2 (hi lo : Byte) : Nat := hi.toNat * 256 + lo.toNat

def packOf (hi mid lo : Byte) : PackId := BitVec.ofNat 24 (hi.toNat * 65536 + mid.toNat * 256 + lo.toNat)

/-- The sum of characters that a check character or a sum check is made of (R22, R137, R150). -/
def byteSum (bs : List Byte) : Nat := (bs.map BitVec.toNat).sum

/-- The values 000000 and FFFFFF are not valid pack IDs (00_scope.md, Packs). -/
def validPack (p : PackId) : Bool := p != 0 && p != 0xFFFFFF

/-- A byte that names a seat, 0 to 127. -/
def seatOf (b : Byte) : Option Seat := if h : b.toNat < 128 then some ⟨b.toNat, h⟩ else none

/-- A byte that names a port, 0 to 7. -/
def portOf (b : Byte) : Option Port := if h : b.toNat < 8 then some ⟨b.toNat, h⟩ else none

/-! ## Codes (10.3) -/

def Role.code : Role → Nat
  | .disabled => 0 | .monitor => 1 | .presiding => 2 | .technical => 3

def kindCode : Kind → Nat
  | .battery => 1 | .batteryShortfall => 2 | .mutedSpeech => 3 | .openNoFloor => 4
  | .signalWeak => 5 | .dropouts => 6 | .signalLost => 7

def kindOf (b : Byte) : Option Kind := allKinds.find? fun k => kindCode k == b.toNat

def Severity.code : Severity → Nat
  | .advisory => 0 | .caution => 1 | .urgent => 2

def severityOf (b : Byte) : Option Severity :=
  match b.toNat with
  | 0 => some .advisory
  | 1 => some .caution
  | 2 => some .urgent
  | _ => none

def RecordState.code : RecordState → Nat
  | .activeUnacked => 0 | .activeAcked => 1 | .clearedUnacked => 2

/-- A grade, 0 where there is none (R157). -/
def gradeCode : Option Grade → Nat
  | none => 0 | some .low => 1 | some .critical => 2

def Signal.code : Signal → Nat
  | .noPack => 0 | .seeking => 1 | .heard => 2 | .fading => 3 | .lost => 4

def Mute.code : Mute → Nat
  | .unknown => 0 | .opened => 1 | .muted => 2

def Sitting.code : Sitting → Nat
  | .setup => 0 | .sitting => 1 | .recess => 2

def boolCode (b : Bool) : Nat := if b then 1 else 0

def ProfileOp.code : ProfileOp → Nat
  | .idle => 0 | .saving => 1 | .loading => 2 | .comparing => 3

def LastOp.code : LastOp → Nat
  | .none => 0 | .save => 1 | .load => 2 | .compare => 3 | .startUpLoad => 4

def ProfileResult.code : ProfileResult → Nat
  | .none => 0 | .done => 1 | .same => 2 | .differs => 3 | .checkFault => 4 | .formatFault => 5
  | .storeFault => 6

/-- The eleven status codes (R141, 10.2). -/
inductive ReplyStatus where
  | ok | adjusted | busy | role | state | range | notFound | full | inUse | unknown | writeProtected
  deriving DecidableEq, Repr

def ReplyStatus.code : ReplyStatus → Nat
  | .ok => 0 | .adjusted => 1 | .busy => 2 | .role => 3 | .state => 4 | .range => 5 | .notFound => 6
  | .full => 7 | .inUse => 8 | .unknown => 9 | .writeProtected => 10

/-- The requests (10.5). -/
inductive Request where
  | status | clearLinkFlags | bindPack | unbindSeat | setGroup | readSeat | readSeats | readStrays
  | restartSeats | readPorts | portStart | portStop | clearPortFlags | setCurve | readCurve | setParameter
  | readParameter | readUnseen | readWarnings | ackWarning | ackGroup | purgeCleared | setView | readView
  | startSitting | setSchedule | recess | resume | endSitting | grantFloor | withdrawFloor | withdrawAll
  | readFloor | profileSave | profileLoad | profileCompare | readProfileStatus
  deriving DecidableEq, Repr

/-- The requests in the order of their CODEs, 01h first (10.5). -/
def allRequests : List Request :=
  [.status, .clearLinkFlags, .bindPack, .unbindSeat, .setGroup, .readSeat, .readSeats, .readStrays,
   .restartSeats, .readPorts, .portStart, .portStop, .clearPortFlags, .setCurve, .readCurve, .setParameter,
   .readParameter, .readUnseen, .readWarnings, .ackWarning, .ackGroup, .purgeCleared, .setView, .readView,
   .startSitting, .setSchedule, .recess, .resume, .endSitting, .grantFloor, .withdrawFloor, .withdrawAll,
   .readFloor, .profileSave, .profileLoad, .profileCompare, .readProfileStatus]

/-- The CODE of a request (10.5). -/
def Request.code : Request → Byte
  | .status => 0x01 | .clearLinkFlags => 0x02 | .bindPack => 0x03 | .unbindSeat => 0x04 | .setGroup => 0x05
  | .readSeat => 0x06 | .readSeats => 0x07 | .readStrays => 0x08 | .restartSeats => 0x09
  | .readPorts => 0x0A | .portStart => 0x0B | .portStop => 0x0C | .clearPortFlags => 0x0D
  | .setCurve => 0x0E | .readCurve => 0x0F | .setParameter => 0x10 | .readParameter => 0x11
  | .readUnseen => 0x12 | .readWarnings => 0x13 | .ackWarning => 0x14 | .ackGroup => 0x15
  | .purgeCleared => 0x16 | .setView => 0x17 | .readView => 0x18 | .startSitting => 0x19
  | .setSchedule => 0x1A | .recess => 0x1B | .resume => 0x1C | .endSitting => 0x1D | .grantFloor => 0x1E
  | .withdrawFloor => 0x1F | .withdrawAll => 0x20 | .readFloor => 0x21 | .profileSave => 0x22
  | .profileLoad => 0x23 | .profileCompare => 0x24 | .readProfileStatus => 0x25

/-- The request a CODE names, if it names one (R140 step 2). -/
def requestOf (code : Byte) : Option Request := allRequests.find? fun q => q.code == code

/-! ## Absent values (R157) -/

/-- A one-byte field, FFh where it is absent. -/
def orFF (o : Option Nat) : Byte := byte (o.getD 255)

/-- A two-byte field, FFFFh where it is absent. -/
def orFFFF (o : Option Nat) : List Byte := bytes2 (o.getD 65535)

/-- A pack, 000000h where it is absent. -/
def packBytes (o : Option PackId) : List Byte := bytes3 ((o.getD 0).toNat)

/-- A seat, FFh where it is absent. -/
def seatByte (o : Option Seat) : Byte := orFF (o.map Fin.val)

/-! ## Sets: one bit each, bit 0 the first (10.3) -/

def bits (bs : List Bool) : Nat :=
  match bs with
  | [] => 0
  | b :: rest => boolCode b + 2 * bits rest

def ClassSet.code (c : ClassSet) : Nat := bits [c.power, c.floor, c.radio]

/-- The bits of a class set; bits that name no class are ignored (R157). -/
def classSetOf (b : Byte) : ClassSet := ⟨b.getLsbD 0, b.getLsbD 1, b.getLsbD 2⟩

def AckRoles.code (r : AckRoles) : Nat := bits [r.presiding, r.technical]

def linkSetCode (l : PerLink Bool) : Nat := bits [l.a, l.b, l.c]

def LineFlags.code (f : LineFlags) : Nat := bits [f.framing, f.check, f.format, f.overrun]

/-- The flags that a flag set names become clear (R28, R143). -/
def LineFlags.clearNamed (f : LineFlags) (b : Byte) : LineFlags :=
  ⟨f.framing && !b.getLsbD 0, f.check && !b.getLsbD 1, f.format && !b.getLsbD 2, f.overrun && !b.getLsbD 3⟩

/-- The port set of the STARTED ports (10.5, PORT START). -/
def startedSet (ports : Vector PortState 8) : Nat :=
  bits (ports.toList.map PortState.started)

/-! ## Records sent on a link (10.4) -/

/-- The level average, floor(A/4) (R1). -/
def SeatRecord.levelAverage (r : SeatRecord) : Option Nat := r.levelStore.map (· / 4)

/-- The smoothed voltage, floor(S/8) (R40). -/
def EstRecord.smoothed (e : EstRecord) : Option Nat := e.store.map (· / 8)

/-- The current sequence's number. -/
def SeqState.number : SeqState → Option Nat
  | .absent => none
  | .closed n => some n.toNat
  | .opened n _ _ => some n.toNat

/-- Sequence status: 0 CLOSED, 1 OPEN, absent with the sequence. -/
def SeqState.statusCode : SeqState → Option Nat
  | .absent => none
  | .closed _ => some 0
  | .opened _ _ _ => some 1

def SeqState.sampleLevel : SeqState → Option Nat
  | .opened _ level _ => some level
  | _ => none

def SeqState.sampleReceiver : SeqState → Option Nat
  | .opened _ _ receiver => some receiver.val
  | _ => none

/-- The seat record of READ SEAT, 23 bytes. -/
def seatBytes (n : Seat) (r : SeatRecord) (onFloor : Bool) : List Byte :=
  [byte n.val, byte r.group] ++ packBytes r.pack ++ [byte r.signal.code, byte r.silence]
    ++ orFFFF r.seq.number
    ++ [orFF r.seq.statusCode, orFF r.seq.sampleLevel, orFF r.seq.sampleReceiver, orFF r.levelAverage,
        byte r.mute.code, byte (boolCode r.voice), byte r.dropouts, byte (boolCode onFloor)]
    ++ orFFFF r.est.smoothed ++ [orFF r.est.percent, orFF r.est.drain] ++ orFFFF r.est.minutes

/-- The compact seat summary of READ SEATS, 9 bytes. -/
def seatSummary (n : Seat) (r : SeatRecord) (onFloor : Bool) : List Byte :=
  [byte n.val, byte r.signal.code, byte r.mute.code, byte (boolCode r.voice), byte (boolCode onFloor),
   orFF r.est.percent] ++ orFFFF r.est.minutes ++ [orFF r.levelAverage]

/-- The warning record, 20 bytes. -/
def recordBytes (r : Record) : List Byte :=
  [byte r.seat.val, byte (kindCode r.kind), byte (gradeCode r.grade), byte r.severity.code, byte r.state.code]
    ++ bytes3 r.raisedAt ++ bytes3 r.changedAt ++ [byte r.repeats, byte r.escalations] ++ orFFFF r.detail
    ++ [byte r.roles.code, byte (linkSetCode r.ackedBy), byte (linkSetCode r.seenBy)]
    ++ bytes2 (r.escalation.getD 0)

/-- A view as it is sent and stored: base, limit, class set, two thresholds, attention mask (10.5). -/
def View.toBytes (v : View) : List Byte :=
  [byte v.base, byte v.limit, byte v.classes.code, byte v.sittingThreshold.code,
   byte v.recessThreshold.code, byte (boolCode v.masked)]

/-- A stray entry (10.5, READ STRAYS). -/
def Stray.toBytes (t : Stray) : List Byte :=
  packBytes (some t.pack) ++ [byte t.level, byte t.receiver.val, byte t.count] ++ bytes4 t.heardAt

/-- The floor list: count, then seat and granted-at of each entry (10.5). -/
def floorBytes (floor : List FloorEntry) : List Byte :=
  byte floor.length :: floor.flatMap fun e => byte e.seat.val :: bytes3 e.grantedAt

/-- The eight breakpoints, each a voltage and a percent (10.5, 10.6). -/
def curveBytes (c : Vector Breakpoint 8) : List Byte :=
  c.toList.flatMap fun b => bytes2 b.mv ++ [byte b.percent]

/-! ## Frames (10.2) -/

/-- The check character that makes the sum of the characters 0 modulo 256. -/
def checkOf (bs : List Byte) : Byte := BitVec.ofNat 8 (256 - byteSum bs % 256)

/-- A reply frame: A5h, LEN, CODE with its top bit set, STATUS, payload, CHECK (R139). -/
def replyFrame (code : Byte) (status : ReplyStatus) (payload : List Byte) : List Byte :=
  let counted := [byte (payload.length + 2), code ||| 0x80, byte status.code] ++ payload
  0xA5 :: counted ++ [checkOf counted]

end Sys2Proof.Machine
end

