-- ==== Sys2Proof/Machine/Flags.lean ====
section
/-! DEFINITION. Everything the spec derives from the state: floor membership, the overflow status, the views,
the attention outputs, and the conditions the qualifiers watch. -/

namespace Sys2Proof.Machine

/-! ## Floor, overflow and loads -/

/-- A seat is on the floor while the floor list holds an entry for it (R129). -/
def State.onFloor (s : State) (n : Seat) : Bool := s.floor.any fun e => e.seat == n

/-- Whether a (seat, kind) is marked due (R75). -/
def State.isDue (s : State) (n : Seat) (k : Kind) : Bool := (s.monitor n).due.get k

/-- The overflow status: set exactly while at least one due mark is outstanding (R91). -/
def State.overflow (s : State) : Bool := allSeats.any fun n => allKinds.any fun k => s.isDue n k

/-- Whether the operation state is LOADING (R149). -/
def State.loading (s : State) : Bool := s.profile.op == .loading

/-- Whether the start-up load is in flight (R156). -/
def State.startUpLoading (s : State) : Bool := s.loading && s.profile.lastOp == .startUpLoad

/-! ## Links, views and attention -/

/-- A link not strapped DISABLED (R105). -/
def LinkState.enabled (l : LinkState) : Bool := l.role != .disabled

/-- Characters reach a link unless it is DISABLED (R105) or its line is at space after a break (R144). -/
def LinkState.hears (l : LinkState) : Bool := l.enabled && !l.inBreak

/-- The class of a kind is in a class set (R106). -/
def ClassSet.holds (c : ClassSet) : Kind → Bool
  | .battery | .batteryShortfall => c.power
  | .mutedSpeech | .openNoFloor => c.floor
  | .signalWeak | .dropouts | .signalLost => c.radio

/-- A record is in view: its seat within base and limit, its class in the class mask (R106). -/
def View.sees (v : View) (r : Record) : Bool :=
  (v.base ≤ r.seat.val && r.seat.val ≤ v.limit) && v.classes.holds r.kind

/-- The in-view records of a link, in list order (R106). -/
def State.inView (s : State) (x : LinkId) : List Record := s.records.filter (s.link x).view.sees

/-- The in-view records that do not hold the link in their seen-by (R111). -/
def State.unseen (s : State) (x : LinkId) : List Record := (s.inView x).filter fun r => !r.seenBy.get x

/-- A link's present threshold (R107). -/
def State.threshold (s : State) (x : LinkId) : Severity :=
  if s.sitting = .recess then (s.link x).view.recessThreshold else (s.link x).view.sittingThreshold

/-- At or above, in the order ADVISORY, CAUTION, URGENT (R107). -/
def Severity.atLeast (sev floor : Severity) : Bool := floor.code ≤ sev.code

/-- A record calls a link's attention (R108). -/
def State.calls (s : State) (x : LinkId) (r : Record) : Bool :=
  (s.link x).view.sees r && r.state == .activeUnacked && r.severity.atLeast (s.threshold x)
    && !r.seenBy.get x

/-- The attention output ATTN-x: true while it is asserted (R108). -/
def State.attention (s : State) (x : LinkId) : Bool :=
  (s.link x).enabled && !(s.link x).view.masked && (s.records.any (s.calls x) || (s.link x).notice)

/-- The link's role is in a record's ack roles (R87, R114). -/
def AckRoles.admits (a : AckRoles) : Role → Bool
  | .presiding => a.presiding
  | .technical => a.technical
  | .monitor | .disabled => false

/-- Both roles: wide (R82). -/
def AckRoles.wide : AckRoles := ⟨true, true⟩

/-! ## Requests and their answers -/

/-- What taking a request makes: the state after it, the status code and the reply's payload (R139). -/
structure Served where
  state : State
  status : ReplyStatus
  payload : List Byte
  deriving DecidableEq, Repr

/-- A request carried out or refused, with its reply's payload. -/
def State.answer (s : State) (status : ReplyStatus) (payload : List Byte) : Served := ⟨s, status, payload⟩

/-- A refused request: nothing changes and the reply carries no payload (R139, R140). -/
def State.refuse (s : State) (status : ReplyStatus) : Served := ⟨s, status, []⟩

/-- OK, or ADJUSTED where a value was clamped (R141). -/
def okOr (adjusted : Bool) : ReplyStatus := if adjusted then .adjusted else .ok

/-- The link's role is TECHNICAL. -/
def State.technical (s : State) (x : LinkId) : Bool := (s.link x).role == .technical

/-- The link's role is PRESIDING. -/
def State.presiding (s : State) (x : LinkId) : Bool := (s.link x).role == .presiding

/-- The link's role is MONITOR, PRESIDING or TECHNICAL ("any enabled", R140). -/
def State.anyRole (s : State) (x : LinkId) : Bool := (s.link x).enabled

/-! ## The conditions of the kinds -/

/-- Elapsed sitting minutes E (R54). -/
def State.elapsedMinutes (s : State) : Nat := s.clock / 60

/-- The sitting requirement: max(L - E, 0) + RESERVE_MIN (R54). -/
def State.required (s : State) : Nat := (s.scheduled - s.elapsedMinutes) + s.params.reserveMin

/-- BATTERY's condition: p is present and at most LOW (R66). -/
def batteryLow (p : Params) (r : SeatRecord) : Bool :=
  match r.est.percent with
  | none => false
  | some q => q ≤ p.batteryLowPct

/-- BATTERY's clear condition: p is absent, or at least LOW + HYST (R66). -/
def batteryClear (p : Params) (r : SeatRecord) : Bool :=
  match r.est.percent with
  | none => true
  | some q => p.batteryLowPct + p.batteryHystPct ≤ q

/-- p is present and at most CRIT (R66). -/
def batteryCritical (p : Params) (r : SeatRecord) : Bool :=
  match r.est.percent with
  | none => false
  | some q => q ≤ p.batteryCritPct

/-- The judgement of R55: short (true), sufficient (false), or the hold band (none). -/
def shortfallJudgement (required hyst : Nat) : Option Nat → Option Bool
  | none => some false
  | some r => if r < required then some true else if required + hyst ≤ r then some false else none

/-- MUTED_SPEECH's condition (R67). -/
def State.mutedSpeechHolds (s : State) (n : Seat) : Bool :=
  s.onFloor n && (s.seat n).mute == .muted && (s.seat n).voice

/-- OPEN_NO_FLOOR's condition (R68). -/
def State.openNoFloorHolds (s : State) (n : Seat) : Bool :=
  (s.seat n).mute == .opened && !s.onFloor n

/-- The limit of OPEN_NO_FLOOR in quarter ticks (R62). -/
def Params.openLimit (p : Params) : Nat := 4 * p.openNoFloorLimit

/-- The seat is HEARD or FADING (R69). -/
def SeatRecord.heardOrFading (r : SeatRecord) : Bool := r.signal == .heard || r.signal == .fading

/-- SIGNAL_WEAK's condition (R69). -/
def weakHolds (p : Params) (r : SeatRecord) : Bool :=
  match r.levelAverage with
  | none => false
  | some a => a < p.weakLevel && r.heardOrFading

/-- SIGNAL_WEAK's clear condition (R69). -/
def weakClear (p : Params) (r : SeatRecord) : Bool :=
  !r.heardOrFading ||
    match r.levelAverage with
    | none => false
    | some a => p.weakLevel + p.weakHyst ≤ a

/-- The figure a kind's detail is taken from (chapter 4, kind table; R82, R90). -/
def detailOf (k : Kind) (r : SeatRecord) (m : SeatMonitor) : Option Nat :=
  match k with
  | .battery => r.est.percent
  | .batteryShortfall => r.est.minutes
  | .mutedSpeech => none
  | .openNoFloor => some (m.openPv / 4)
  | .signalWeak => r.levelAverage
  | .dropouts => some r.dropouts
  | .signalLost => none

/-- The grade that goes with a kind: BATTERY's own, none for the others (R81). -/
def gradeOf (k : Kind) (m : SeatMonitor) : Option Grade :=
  match k with
  | .battery => m.grade
  | _ => none

end Sys2Proof.Machine
end

