-- ==== Sys2Proof/Machine/Estimator.lean ====
section
/-! DEFINITION. Charge estimation (chapter 3): the curve, readings, the drain window, minutes remaining. -/

namespace Sys2Proof.Machine

/-- The percent at a voltage not below the first breakpoint, along the breakpoints that are left (R43). -/
def curveSegment : List Breakpoint → Nat → Nat
  | [], _ => 0
  | [b], _ => b.percent
  | b :: next :: rest, x =>
    if x < next.mv then b.percent + (x - b.mv) * (next.percent - b.percent) / (next.mv - b.mv)
    else curveSegment (next :: rest) x

/-- The curve function P (R43). -/
def curvePercent (curve : Vector Breakpoint 8) (x : Nat) : Nat :=
  if x ≤ curve[0].mv then curve[0].percent else curveSegment curve.toList x

/-- Voltages strictly increasing and percents non-decreasing (R42). -/
def curveOrdered : List Breakpoint → Bool
  | b :: next :: rest => b.mv < next.mv && b.percent ≤ next.percent && curveOrdered (next :: rest)
  | _ => true

/-- A curve is valid (R42). -/
def curveValid (curve : Vector Breakpoint 8) : Bool :=
  (curve.toList.all fun b => b.mv ≤ 4095 && b.percent ≤ 100) && curveOrdered curve.toList

/-- The minutes remaining from p, D and W (R53). -/
def minutesLeft (p : Nat) (drain : Option Nat) (w : Nat) : Option Nat :=
  match drain with
  | none => none
  | some 0 => some 600
  | some d => some (min 600 (p * w / d))

/-- A record started from a reading (R46, R47). -/
def EstRecord.startFrom (curve : Vector Breakpoint 8) (v : Nat) : EstRecord :=
  let p := curvePercent curve v
  { store := some (8 * v), percent := some p, rise := 0, windowStart := some p, age := 0, drain := none,
    minutes := none }

/-- A reading folded into the smoothing store (R48). -/
def EstRecord.fold (curve : Vector Breakpoint 8) (w : Nat) (e : EstRecord) (store v : Nat) : EstRecord :=
  let store' := store - store / 8 + v
  let p := curvePercent curve (store' / 8)
  { e with store := some store', percent := some p, minutes := minutesLeft p e.drain w }

/-- One voltage reading, 1 to 4095 (R46 to R48). -/
def EstRecord.reading (curve : Vector Breakpoint 8) (w : Nat) (e : EstRecord) (v : Nat) : EstRecord :=
  match e.store, e.percent with
  | some store, some p =>
    let rise := if p + 10 ≤ curvePercent curve v then e.rise + 1 else 0
    if 2 ≤ rise then .startFrom curve v else { e with rise := rise }.fold curve w store v
  | _, _ => .startFrom curve v

/-- A window completes: the drain, a fresh window, and R recomputed (R50). -/
def EstRecord.completeWindow (w : Nat) (e : EstRecord) (p : Nat) : EstRecord :=
  let drain := some (e.windowStart.getD p - p)
  { e with drain := drain, windowStart := some p, age := 0, minutes := minutesLeft p drain w }

/-- One minute tick on a record that is not frozen (R50). -/
def EstRecord.ageOnce (w : Nat) (e : EstRecord) : EstRecord :=
  match e.percent with
  | none => e
  | some p => if w ≤ e.age + 1 then e.completeWindow w p else { e with age := e.age + 1 }

/-- One minute tick on a seat: its record is aged unless the seat is LOST (R50, R51). -/
def SeatRecord.ageMinute (w : Nat) (r : SeatRecord) : SeatRecord :=
  if r.signal = .lost then r else { r with est := r.est.ageOnce w }

/-- The restart of a drain window by a new ESTIMATOR_WINDOW (R52). -/
def EstRecord.restartWindow (e : EstRecord) : EstRecord :=
  { e with age := 0, windowStart := e.percent, drain := none, minutes := none }

/-- Every drain window restarted (R52).  Taken in SETUP, where the monitor acts on no change (R70). -/
def State.restartWindows (s : State) : State :=
  s.mapSeats fun _ r => { r with est := r.est.restartWindow }

/-- Every estimator record restarted (R41).  Taken in SETUP, where the monitor acts on no change (R70). -/
def State.restartEstimators (s : State) : State :=
  s.mapSeats fun _ r => { r with est := .restarted }

end Sys2Proof.Machine
end

