-- ==== Sys2Proof/Machine/WarningList.lean ====
section
/-! DEFINITION. The Warning List (chapter 5): outcomes, acknowledgements, removal, admission, escalation. -/

namespace Sys2Proof.Machine

/-- What the Condition Monitor hands on for a (seat, kind) (R59). -/
inductive Verdict where
  | qualified | gradeRise | cleared
  deriving DecidableEq, Repr

/-- An outcome handed to the list: its verdict with the kind's detail and, for BATTERY, its grade (R59). -/
structure HandedOutcome where
  seat : Seat
  kind : Kind
  verdict : Verdict
  grade : Option Grade
  detail : Option Nat
  deriving DecidableEq, Repr

/-! ## Records -/

/-- A record concerns a (seat, kind). -/
def Record.isFor (n : Seat) (k : Kind) (r : Record) : Bool := r.seat == n && r.kind == k

/-- The record of a (seat, kind), if the list holds one. -/
def State.record (s : State) (n : Seat) (k : Kind) : Option Record := s.records.find? (Record.isFor n k)

/-- The record of a (seat, kind) changed where it stands (R80). -/
def State.updateRecord (s : State) (n : Seat) (k : Kind) (f : Record → Record) : State :=
  { s with records := s.records.map fun r => if r.isFor n k then f r else r }

/-- Severity at raise (R82). -/
def initialSeverity (k : Kind) (grade : Option Grade) : Severity :=
  match k with
  | .battery => if grade = some .critical then .urgent else .caution
  | .batteryShortfall | .openNoFloor | .dropouts => .advisory
  | .mutedSpeech | .signalWeak => .caution
  | .signalLost => .urgent

/-- Ack roles at raise (R82). -/
def initialRoles : Kind → AckRoles
  | .mutedSpeech | .openNoFloor => ⟨true, false⟩
  | .battery | .batteryShortfall | .signalWeak | .dropouts | .signalLost => ⟨false, true⟩

/-- The escalation time of a severity (R94). -/
def Params.escTime (p : Params) : Severity → Nat
  | .advisory => p.escAdvisory
  | .caution => p.escCaution
  | .urgent => p.escUrgent

/-- The timer started at a severity's time, or stopped if that time is 0 (R94). -/
def Params.escStart (p : Params) (sev : Severity) : Option Nat :=
  if p.escTime sev = 0 then none else some (p.escTime sev)

/-- The record of a raise (R83) or an admission (R90). -/
def newRecord (p : Params) (clock : Nat) (n : Seat) (k : Kind) (grade : Option Grade)
    (detail : Option Nat) : Record where
  seat := n
  kind := k
  grade := grade
  severity := initialSeverity k grade
  state := .activeUnacked
  raisedAt := clock
  changedAt := clock
  repeats := 0
  escalations := 0
  detail := detail
  roles := initialRoles k
  ackedBy := .noLink
  seenBy := .noLink
  escalation := p.escStart (initialSeverity k grade)

/-- A re-raise of a CLEARED_UNACKED record (R84). -/
def Record.reRaise (p : Params) (clock : Nat) (grade : Option Grade) (detail : Option Nat)
    (r : Record) : Record :=
  let rises := r.kind == .battery && r.grade == some .low && grade == some .critical
  let severity := if rises then .urgent else r.severity
  { r with
    state := .activeUnacked
    repeats := bump 255 r.repeats
    detail := detail
    seenBy := .noLink
    changedAt := clock
    grade := if rises then some .critical else r.grade
    severity := severity
    escalation := p.escStart severity }

/-- A BATTERY grade rise (R85). -/
def Record.gradeRise (p : Params) (clock : Nat) (detail : Option Nat) (r : Record) : Record :=
  { r with
    grade := some .critical
    severity := .urgent
    state := .activeUnacked
    detail := detail
    seenBy := .noLink
    escalation := p.escStart .urgent
    changedAt := clock }

/-- A clearing of an ACTIVE_UNACKED record (R86). -/
def Record.clearing (clock : Nat) (r : Record) : Record :=
  { r with state := .clearedUnacked, seenBy := .noLink, escalation := none, changedAt := clock }

/-- An acknowledgement of an ACTIVE_UNACKED record (R87). -/
def Record.acked (clock : Nat) (x : LinkId) (r : Record) : Record :=
  { r with state := .activeAcked, ackedBy := r.ackedBy.set x true, escalation := none, changedAt := clock }

/-- The link joins a record's acked-by and nothing else changes (R87). -/
def Record.ackedAgain (x : LinkId) (r : Record) : Record := { r with ackedBy := r.ackedBy.set x true }

/-- The link joins a record's seen-by (R111). -/
def Record.seen (x : LinkId) (r : Record) : Record := { r with seenBy := r.seenBy.set x true }

/-! ## Escalation -/

/-- One severity step up (R95). -/
def Severity.next : Severity → Severity
  | .advisory => .caution
  | .caution => .urgent
  | .urgent => .urgent

/-- A timer's expiry (R95, R96). -/
def Record.escalate (p : Params) (clock : Nat) (r : Record) : Record :=
  match r.severity with
  | .urgent =>
    if r.roles = .wide then { r with escalation := none }
    else { r with roles := .wide, escalations := r.escalations + 1, changedAt := clock, escalation := none }
  | .advisory | .caution =>
    { r with
      severity := r.severity.next
      roles := .wide
      escalations := r.escalations + 1
      seenBy := .noLink
      escalation := p.escStart r.severity.next
      changedAt := clock }

/-- The timer of an ACTIVE_UNACKED record runs out at the next second tick (R94). -/
def Record.expiresNext (r : Record) : Bool :=
  r.state == .activeUnacked &&
    match r.escalation with
    | none => false
    | some t => t ≤ 1

/-- One second tick on a record (R94). -/
def Record.tick (p : Params) (clock : Nat) (r : Record) : Record :=
  if r.state = .activeUnacked then
    match r.escalation with
    | none => r
    | some t => if t ≤ 1 then r.escalate p clock else { r with escalation := some (t - 1) }
  else r

/-- The Warning List's part of a second tick: in SITTING and RECESS every running timer is lowered (R94). -/
def State.tickTimers (s : State) : State :=
  if s.sitting = .setup then s else { s with records := s.records.map (Record.tick s.params s.clock) }

/-- A running timer under a new escalation time (R97). -/
def Record.retime (sev : Severity) (time : Nat) (r : Record) : Record :=
  if r.severity = sev then
    { r with escalation := if time = 0 then none else r.escalation.map (min time) }
  else r

/-- A new escalation time in the event that writes it (R97). -/
def State.retimeRecords (s : State) (sev : Severity) : State :=
  { s with records := s.records.map (Record.retime sev (s.params.escTime sev)) }

/-! ## Raising, due marks and the overflow notice -/

/-- Every enabled link's overflow notice becomes pending (R109). -/
def State.noticeOverflow (s : State) : State :=
  { s with links := s.links.map fun l => { l with notice := l.notice || l.enabled } }

/-- The due mark of a (seat, kind) set or dropped. -/
def State.putDue (s : State) (n : Seat) (k : Kind) (d : Bool) : State :=
  s.putMonitor n { s.monitor n with due := (s.monitor n).due.set k d }

/-- A due mark is set; if none was outstanding the overflow status becomes set, which is handed to the
console contexts (R75, R83, R91). -/
def State.setDue (s : State) (n : Seat) (k : Kind) : State :=
  let marked := s.putDue n k true
  if s.overflow then marked else marked.noticeOverflow

/-- A new record joins the end of the list (R80). -/
def State.appendRecord (s : State) (r : Record) : State := { s with records := s.records ++ [r] }

/-- A raise: a record if there is a place, a due mark if there is none (R83). -/
def State.raise (s : State) (o : HandedOutcome) : State :=
  if s.records.length < Config.listCapacity then
    s.appendRecord (newRecord s.params s.clock o.seat o.kind o.grade o.detail)
  else s.setDue o.seat o.kind

/-! ## Removal and admission -/

/-- The OPEN_NO_FLOOR present value returns to 0 because its record has left the list: the qualifier is left
QUALIFYING from 0 if its condition is judged and holds, and QUIET otherwise (R62, R74).  A qualifier that
leaves QUALIFIED takes its due mark with it (R76). -/
def State.resetOpenPv (s : State) (n : Seat) : State :=
  let m := s.monitor n
  let counting := s.sitting == .sitting && s.openNoFloorHolds n
  s.putMonitor n { m with
    openPv := 0
    state := m.state.set .openNoFloor (if counting then .qualifying else .quiet)
    due := m.due.set .openNoFloor false }

/-- A record is taken out of the list and the monitor is told (R88, steps 1 and 2). -/
def State.removeRecord (s : State) (n : Seat) (k : Kind) : State :=
  let taken := { s with records := s.records.filter fun r => !r.isFor n k }
  if k = .openNoFloor then taken.resetOpenPv n else taken

/-- The first due mark in admission order: lowest seat, then kind order (R89). -/
def State.firstDue (s : State) : Option (Seat × Kind) :=
  allSeats.findSome? fun n => (allKinds.find? (s.isDue n)).map fun k => (n, k)

/-- A due mark is removed and raised as a new record with the figures its qualifier holds now (R90). -/
def State.admitMark (s : State) (n : Seat) (k : Kind) : State :=
  (s.putDue n k false).appendRecord
    (newRecord s.params s.clock n k (gradeOf k (s.monitor n)) (detailOf k (s.seat n) (s.monitor n)))

/-- Due marks are admitted while there are places and marks (R89). -/
def State.fillPlaces : Nat → State → State
  | 0, s => s
  | places + 1, s =>
    match s.firstDue with
    | none => s
    | some (n, k) => State.fillPlaces places (s.admitMark n k)

/-- Admission into every free place (R88 step 3, R89). -/
def State.fillFreed (s : State) : State := State.fillPlaces (Config.listCapacity - s.records.length) s

/-! ## Outcomes and acknowledgements -/

/-- The list applies one outcome (R83 to R86), without yet admitting due marks into a place that it frees. -/
def State.applyOutcome (s : State) (o : HandedOutcome) : State :=
  match o.verdict, s.record o.seat o.kind with
  | .qualified, none => s.raise o
  | .qualified, some r =>
    if r.state = .clearedUnacked then
      s.updateRecord o.seat o.kind (Record.reRaise s.params s.clock o.grade o.detail)
    else s
  | .gradeRise, none => s
  | .gradeRise, some r =>
    if r.state = .clearedUnacked then s
    else s.updateRecord o.seat o.kind (Record.gradeRise s.params s.clock o.detail)
  | .cleared, none => s
  | .cleared, some r =>
    match r.state with
    | .activeUnacked => s.updateRecord o.seat o.kind (Record.clearing s.clock)
    | .activeAcked => s.removeRecord o.seat o.kind
    | .clearedUnacked => s

/-- An outcome takes a record out of the list: a cleared outcome of an ACTIVE_ACKED record (R86). -/
def State.removes (s : State) (o : HandedOutcome) : Bool :=
  o.verdict == .cleared && (s.record o.seat o.kind).any fun r => r.state == .activeAcked

/-- The outcomes that an event has still to hand to the list, where `freed` says that a removal of the event has
left a place for due marks.  They are admitted once the event removes no further record, so that an event that
removes several admits after all its removals (R88; log 6). -/
def State.applyHanded (freed : Bool) (s : State) : List HandedOutcome → State
  | [] => s
  | o :: os =>
    let applied := s.applyOutcome o
    if freed || s.removes o then
      if os.any applied.removes then applied.applyHanded true os else applied.fillFreed.applyHanded false os
    else applied.applyHanded false os

/-- The list applies the outcomes of an event in the order in which they are handed (R59, R83). -/
def State.applyOutcomes (s : State) (os : List HandedOutcome) : State := s.applyHanded false os

/-- The list applies an acknowledgement to a record it holds, without yet admitting due marks (R87). -/
def State.acknowledge (s : State) (x : LinkId) (r : Record) : State :=
  match r.state with
  | .activeUnacked => s.updateRecord r.seat r.kind (Record.acked s.clock x)
  | .activeAcked => s.updateRecord r.seat r.kind (Record.ackedAgain x)
  | .clearedUnacked => s.removeRecord r.seat r.kind

/-- Several records removed, the monitor told of each, and then due marks admitted (R88). -/
def State.removeAll (s : State) (rs : List Record) : State :=
  if rs.isEmpty then s else (rs.foldl (fun t r => t.removeRecord r.seat r.kind) s).fillFreed

end Sys2Proof.Machine
end

