-- ==== Sys2Proof/Machine/Monitor.lean ====
section
/-! DEFINITION. The Condition Monitor (chapter 4): the qualifiers, the evaluation of seats, the restart of a
seat's qualifiers, and the handing of outcomes to the Warning List. -/

namespace Sys2Proof.Machine

/-! ## Qualifier types -/

/-- The kinds whose qualifier is RESETTING (chapter 4, kind table). -/
def resettingKind : Kind → Bool
  | .battery | .mutedSpeech | .signalWeak => true
  | .batteryShortfall | .openNoFloor | .dropouts | .signalLost => false

/-- A RESETTING qualifier at an event that is no quarter tick (R60). -/
def resettingEvent (setValue : Nat) (holds clears : Bool) (q : QState) (pv : Nat) :
    QState × Nat × Option Verdict :=
  match q with
  | .quiet =>
    if holds then
      if setValue = 0 then (.qualified, 0, some .qualified) else (.qualifying, setValue, none)
    else (.quiet, pv, none)
  | .qualifying => if holds then (.qualifying, pv, none) else (.quiet, setValue, none)
  | .qualified => if clears then (.quiet, setValue, some .cleared) else (.qualified, pv, none)

/-- A RESETTING qualifier at a quarter tick: entry, countdown or clearing (R60). -/
def resettingTick (setValue : Nat) (holds clears : Bool) (q : QState) (pv : Nat) :
    QState × Nat × Option Verdict :=
  match q with
  | .qualifying =>
    if holds then
      let left := min pv setValue - 1
      if left = 0 then (.qualified, 0, some .qualified) else (.qualifying, left, none)
    else (.quiet, setValue, none)
  | .quiet | .qualified => resettingEvent setValue holds clears q pv

/-- A RESETTING qualifier at an evaluation, whether a quarter tick's or another event's. -/
def resetting (tick : Bool) (setValue : Nat) (holds clears : Bool) (q : QState) (pv : Nat) :
    QState × Nat × Option Verdict :=
  if tick then resettingTick setValue holds clears q pv else resettingEvent setValue holds clears q pv

/-- A changed set value reaches the present value that a QUIET or QUALIFIED qualifier holds (R60); a QUALIFYING
one is lowered to it where it is counted down. -/
def heldValue (changed : Bool) (setValue : Nat) (q : QState) (pv : Nat) : Nat :=
  if changed && q != .qualifying then setValue else pv

/-- The ACCUMULATING qualifier at an event that is no quarter tick (R62). -/
def accumulatingEvent (limit : Nat) (holds : Bool) (q : QState) (pv : Nat) : QState × Option Verdict :=
  match q, holds with
  | .quiet, true => if limit ≤ pv then (.qualified, some .qualified) else (.qualifying, none)
  | .quiet, false => (.quiet, none)
  | .qualifying, true => (.qualifying, none)
  | .qualifying, false => (.quiet, none)
  | .qualified, true => (.qualified, none)
  | .qualified, false => (.quiet, some .cleared)

/-- The ACCUMULATING qualifier at a quarter tick (R62). -/
def accumulatingTick (limit : Nat) (holds : Bool) (q : QState) (pv : Nat) :
    QState × Nat × Option Verdict :=
  if holds then
    let pv' := bump Config.openPvMax pv
    match q with
    | .qualified => (.qualified, pv', none)
    | .quiet | .qualifying =>
      if limit ≤ pv' then (.qualified, pv', some .qualified) else (.qualifying, pv', none)
  else
    match q with
    | .qualified => (.quiet, pv, some .cleared)
    | .quiet | .qualifying => (.quiet, pv, none)

/-! ## The seven kinds at one evaluation -/

/-- BATTERY's held condition at an evaluation: taken when the seat is newly LOST, kept through LOST, none
otherwise (R66). -/
def heldCondition (signal : Signal) (q : QState) (held : Option Bool) : Option Bool :=
  if signal = .lost then some (held.getD (q != .quiet)) else none

/-- BATTERY's grade and verdict after its qualifier has moved from one state to another (R66). -/
def batteryGrade (p : Params) (r : SeatRecord) (held : Option Bool) (now : QState) (v : Option Verdict)
    (grade : Option Grade) : Option Grade × Option Verdict :=
  match v with
  | some .qualified => (some (if batteryCritical p r then .critical else .low), v)
  | some .cleared => (none, v)
  | _ =>
    if now = .qualified ∧ held = none ∧ grade = some .low ∧ batteryCritical p r = true then
      (some .critical, some .gradeRise)
    else (grade, none)

/-- BATTERY (R66). -/
def State.judgeBattery (s : State) (tick : Bool) (n : Seat) (m : SeatMonitor) :
    SeatMonitor × Option Verdict :=
  let r := s.seat n
  let held := heldCondition r.signal m.state.battery m.held
  let holds := held.getD (batteryLow s.params r)
  let clears := match held with
    | some h => !h
    | none => batteryClear s.params r
  let (q, pv, v) :=
    resetting tick s.params.batteryQualify holds clears m.state.battery m.batteryPv
  let (grade, verdict) := batteryGrade s.params r held q v m.grade
  ({ m with state := { m.state with battery := q }, batteryPv := pv, held := held, grade := grade }, verdict)

/-- BATTERY_SHORTFALL (R55, R65). -/
def State.judgeShortfall (s : State) (n : Seat) (m : SeatMonitor) : SeatMonitor × Option Verdict :=
  match shortfallJudgement s.required s.params.shortfallHystMin (s.seat n).est.minutes,
      m.state.batteryShortfall with
  | some true, .qualified => (m, none)
  | some true, _ => ({ m with state := { m.state with batteryShortfall := .qualified } }, some .qualified)
  | some false, .qualified => ({ m with state := { m.state with batteryShortfall := .quiet } }, some .cleared)
  | some false, _ => ({ m with state := { m.state with batteryShortfall := .quiet } }, none)
  | none, _ => (m, none)

/-- MUTED_SPEECH (R67). -/
def State.judgeMutedSpeech (s : State) (tick : Bool) (n : Seat) (m : SeatMonitor) :
    SeatMonitor × Option Verdict :=
  let holds := s.mutedSpeechHolds n
  let (q, pv, v) :=
    resetting tick s.params.mutedSpeechQualify holds (!holds) m.state.mutedSpeech m.mutedPv
  ({ m with state := { m.state with mutedSpeech := q }, mutedPv := pv }, v)

/-- OPEN_NO_FLOOR (R62, R68). -/
def State.judgeOpenNoFloor (s : State) (tick : Bool) (n : Seat) (m : SeatMonitor) :
    SeatMonitor × Option Verdict :=
  let holds := s.openNoFloorHolds n
  if tick then
    let (q, pv, v) := accumulatingTick s.params.openLimit holds m.state.openNoFloor m.openPv
    ({ m with state := { m.state with openNoFloor := q }, openPv := pv }, v)
  else
    let (q, v) := accumulatingEvent s.params.openLimit holds m.state.openNoFloor m.openPv
    ({ m with state := { m.state with openNoFloor := q } }, v)

/-- SIGNAL_WEAK (R69). -/
def State.judgeSignalWeak (s : State) (tick : Bool) (n : Seat) (m : SeatMonitor) :
    SeatMonitor × Option Verdict :=
  let r := s.seat n
  let (q, pv, v) := resetting tick s.params.weakQualify (weakHolds s.params r)
    (weakClear s.params r) m.state.signalWeak m.weakPv
  ({ m with state := { m.state with signalWeak := q }, weakPv := pv }, v)

/-- DROPOUTS (R63). -/
def State.judgeDropouts (s : State) (n : Seat) (m : SeatMonitor) : SeatMonitor × Option Verdict :=
  if s.params.dropoutLimit ≤ (s.seat n).dropouts then
    if m.state.dropouts = .quiet then
      ({ m with state := { m.state with dropouts := .qualified }, windowMark := true }, some .qualified)
    else ({ m with windowMark := true }, none)
  else (m, none)

/-- SIGNAL_LOST (R65). -/
def State.judgeSignalLost (s : State) (n : Seat) (m : SeatMonitor) : SeatMonitor × Option Verdict :=
  if (s.seat n).signal = .lost then
    if m.state.signalLost = .qualified then (m, none)
    else ({ m with state := { m.state with signalLost := .qualified } }, some .qualified)
  else
    ({ m with state := { m.state with signalLost := .quiet } },
     if m.state.signalLost = .qualified then some .cleared else none)

/-- One kind at one evaluation.  The FLOOR-class kinds are judged in SITTING alone (R71). -/
def State.judgeKind (s : State) (tick : Bool) (n : Seat) (k : Kind) (m : SeatMonitor) :
    SeatMonitor × Option Verdict :=
  match k with
  | .battery => s.judgeBattery tick n m
  | .batteryShortfall => s.judgeShortfall n m
  | .mutedSpeech => if s.sitting = .sitting then s.judgeMutedSpeech tick n m else (m, none)
  | .openNoFloor => if s.sitting = .sitting then s.judgeOpenNoFloor tick n m else (m, none)
  | .signalWeak => s.judgeSignalWeak tick n m
  | .dropouts => s.judgeDropouts n m
  | .signalLost => s.judgeSignalLost n m

/-! ## Outcomes and due marks -/

/-- The outcome a verdict hands on.  A kind marked due hands neither a grade rise (R75) nor a cleared outcome
(R76). -/
def State.outcomeFor (s : State) (n : Seat) (k : Kind) (wasDue : Bool) (m : SeatMonitor) :
    Option Verdict → List HandedOutcome
  | none => []
  | some .qualified => [⟨n, k, .qualified, gradeOf k m, detailOf k (s.seat n) m⟩]
  | some v => if wasDue then [] else [⟨n, k, v, gradeOf k m, detailOf k (s.seat n) m⟩]

/-- A due mark is dropped when its qualifier leaves QUALIFIED (R76). -/
def SeatMonitor.dropDue (k : Kind) (v : Option Verdict) (m : SeatMonitor) : SeatMonitor :=
  if v = some .cleared then { m with due := m.due.set k false } else m

/-- One kind evaluated, with the due mark it may drop and the outcome it may hand on. -/
def State.evaluateKind (s : State) (tick : Bool) (n : Seat) (k : Kind) (m : SeatMonitor) :
    SeatMonitor × List HandedOutcome :=
  let judged := s.judgeKind tick n k m
  (judged.1.dropDue k judged.2, s.outcomeFor n k (m.due.get k) judged.1 judged.2)

/-- One seat evaluated for a set of kinds, in kind order (R59). -/
def State.evaluateSeat (s : State) (tick : Bool) (n : Seat) (kinds : PerKind Bool) (m : SeatMonitor) :
    SeatMonitor × List HandedOutcome :=
  allKinds.foldl (fun acc k =>
    if kinds.get k then
      let one := s.evaluateKind tick n k acc.1
      (one.1, acc.2 ++ one.2)
    else acc) (m, [])

/-- A seat is evaluated while it is bound and the sitting state is not SETUP (R58, R70). -/
def State.evaluates (s : State) (n : Seat) : Bool := s.sitting != .setup && s.bound n

/-- What an evaluation makes of one seat's qualifiers, and hands on. -/
def State.evaluated (s : State) (tick : Bool) (kinds : Seat → PerKind Bool) (n : Seat) :
    SeatMonitor × List HandedOutcome :=
  if s.evaluates n then s.evaluateSeat tick n (kinds n) (s.monitor n) else (s.monitor n, [])

/-- Every seat's qualifiers after an evaluation (R59). -/
def State.evaluateAll (s : State) (tick : Bool) (kinds : Seat → PerKind Bool) : State :=
  s.mapMonitors fun n _ => (s.evaluated tick kinds n).1

/-- The outcomes of an evaluation, in ascending seat order, each seat's in kind order (R59). -/
def State.outcomes (s : State) (tick : Bool) (kinds : Seat → PerKind Bool) : List HandedOutcome :=
  allSeats.flatMap fun n => (s.evaluated tick kinds n).2

/-- An event's evaluation: every seat concerned is evaluated, and then the outcomes are handed to the list
(R59; the order is log 6). -/
def State.evaluate (s : State) (tick : Bool) (kinds : Seat → PerKind Bool) : State :=
  (s.evaluateAll tick kinds).applyOutcomes (s.outcomes tick kinds)

/-- The same kinds for every seat. -/
def everySeat (kinds : PerKind Bool) : Seat → PerKind Bool := fun _ => kinds

/-- Kinds for one seat alone. -/
def oneSeat (n : Seat) (kinds : PerKind Bool) : Seat → PerKind Bool :=
  fun m => if m = n then kinds else .nothing

/-! ## Changes handed over by the Seat Table -/

/-- The kinds that the changed fields of a seat record feed (the table of R4, with R57 for the estimator's
figures; log 8).  A change of the signal state judges no BATTERY_SHORTFALL: it is none of the events of R56, which
R59 and R65 hold the kind to. -/
def changedKinds (old new : SeatRecord) : PerKind Bool :=
  let pack := old.pack != new.pack
  let signal := old.signal != new.signal
  let mute := old.mute != new.mute
  let figures := old.est.percent != new.est.percent || old.est.drain != new.est.drain
    || old.est.minutes != new.est.minutes
  { battery := pack || signal || figures
    batteryShortfall := pack || figures
    mutedSpeech := pack || mute || old.voice != new.voice
    openNoFloor := pack || mute
    signalWeak := pack || signal || old.levelStore != new.levelStore
    dropouts := pack || old.dropouts != new.dropouts
    signalLost := pack || signal }

/-- The seat records change, and each change is handed over once, after all its writes (R4). -/
def State.changeSeats (s : State) (f : Seat → SeatRecord → SeatRecord) : State :=
  (s.mapSeats f).evaluate false fun n => changedKinds (s.seat n) (f n (s.seat n))

/-- One seat record changes and is handed over (R4). -/
def State.changeSeat (s : State) (n : Seat) (r : SeatRecord) : State :=
  (s.putSeat n r).evaluate false (oneSeat n (changedKinds (s.seat n) r))

/-! ## Restart, recess, end of sitting -/

/-- What a seat restart or release leaves of a seat's qualifiers (R74 steps 1 to 4). -/
def restartedMonitor (p : Params) : SeatMonitor := .quiet p

/-- The cleared outcomes of a restart: one for each QUALIFIED kind not marked due, in kind order (R74, R76). -/
def clearingsOf (n : Seat) (kinds : List Kind) (m : SeatMonitor) : List HandedOutcome :=
  (kinds.filter fun k => m.state.get k == .qualified && !m.due.get k).map fun k =>
    ⟨n, k, .cleared, none, none⟩

/-- The Condition Monitor's part of seat restarts and releases: the seats' qualifiers restart and their due
marks drop, the seats still bound are evaluated afresh, and only then the list takes the clearings (R74). -/
def State.restartMonitors (s : State) (who : Seat → Bool) : State :=
  let clearings := allSeats.flatMap fun n => if who n then clearingsOf n allKinds (s.monitor n) else []
  let quieted := s.mapMonitors fun n m => if who n then restartedMonitor s.params else m
  let afresh := fun n => if who n then PerKind.every else .nothing
  (quieted.evaluateAll false afresh).applyOutcomes (clearings ++ quieted.outcomes false afresh)

/-- Entry to RECESS on one seat's FLOOR-class qualifiers (R71). -/
def SeatMonitor.enterRecess (p : Params) (m : SeatMonitor) : SeatMonitor :=
  { m with
    state := { m.state with mutedSpeech := .quiet, openNoFloor := .quiet }
    due := { m.due with mutedSpeech := false, openNoFloor := false }
    mutedPv := p.mutedSpeechQualify
    openPv := 0 }

/-- The Condition Monitor's part of RECESS: the FLOOR-class qualifiers of every bound seat (R71). -/
def State.recessMonitors (s : State) : State :=
  let clearings := allSeats.flatMap fun n =>
    if s.bound n then clearingsOf n [.mutedSpeech, .openNoFloor] (s.monitor n) else []
  (s.mapMonitors fun n m => if s.bound n then m.enterRecess s.params else m).applyOutcomes clearings

/-- The Condition Monitor's part of START SITTING on one bound seat, before its evaluation: the RESETTING
present values at their set values, and BATTERY's held condition of a LOST seat taken from p (R66, R70). -/
def State.startMonitor (s : State) (n : Seat) (m : SeatMonitor) : SeatMonitor :=
  { m with
    batteryPv := s.params.batteryQualify
    mutedPv := s.params.mutedSpeechQualify
    weakPv := s.params.weakQualify
    held := if (s.seat n).signal = .lost then some (batteryLow s.params (s.seat n)) else none }

/-- The Condition Monitor's part of START SITTING (R70). -/
def State.startMonitors (s : State) : State :=
  (s.mapMonitors fun n m => if s.bound n then s.startMonitor n m else m).evaluate false (everySeat .every)

/-- The Condition Monitor's part of END SITTING (R72). -/
def State.endMonitors (s : State) : State := s.mapMonitors fun _ _ => .quiet s.params

/-! ## The floor -/

/-- The two FLOOR-class kinds (chapter 4, kind table). -/
def floorKinds : PerKind Bool := ⟨false, false, true, true, false, false, false⟩

/-- A withdrawal of the floor from seats that have left the list (R73). -/
def State.withdrawn (s : State) (who : Seat → Bool) : State :=
  s.evaluate false fun n =>
    if who n then floorKinds else .nothing

/-- A grant of the floor to a seat that has joined the list: the OPEN_NO_FLOOR present value returns to 0 and
the two FLOOR-class kinds are evaluated (R68, R73). -/
def State.granted (s : State) (n : Seat) : State :=
  (s.putMonitor n { s.monitor n with openPv := 0 }).evaluate false
    (oneSeat n floorKinds)

/-- A grant under REPLACE_OLDEST: the withdrawal from `oldest` and the grant to `joined`, each whole, in that
order (R59, R73, R130): the list has taken the withdrawal, admission included, when the grant begins. -/
def State.replaced (s : State) (oldest joined : Seat) : State := (s.withdrawn (· == oldest)).granted joined

/-! ## The dropout window -/

/-- A window end on one seat's DROPOUTS qualifier (R64 steps 1 and 2). -/
def SeatMonitor.endWindow (m : SeatMonitor) : SeatMonitor :=
  if m.state.dropouts = .qualified ∧ m.windowMark = false then
    { m with
      state := { m.state with dropouts := .quiet }
      due := { m.due with dropouts := false } }
  else { m with windowMark := false }

/-- A dropout window end: qualifiers and marks settled, counts returned to 0, clearings handed on (R64).  The
evaluation of the counts, now 0 and below every DROPOUT_LIMIT, makes no step of R63. -/
def State.endDropoutWindow (s : State) : State :=
  let clearings := allSeats.flatMap fun n =>
    if (s.monitor n).windowMark then [] else clearingsOf n [.dropouts] (s.monitor n)
  let settled := (s.mapMonitors fun _ m => m.endWindow).mapSeats fun _ r => { r with dropouts := 0 }
  ({ settled with windowElapsed := 0 }).applyOutcomes clearings

/-- The Condition Monitor's part of a second tick (R63). -/
def State.tickWindow (s : State) : State :=
  if s.params.dropoutWindow ≤ s.windowElapsed + 1 then s.endDropoutWindow
  else { s with windowElapsed := s.windowElapsed + 1 }

/-! ## The quarter tick -/

/-- The changed set values reach the present values one seat's qualifiers hold (R60). -/
def SeatMonitor.takeSetValues (p : Params) (c : SetChanged) (m : SeatMonitor) : SeatMonitor :=
  { m with
    batteryPv := heldValue c.battery p.batteryQualify m.state.battery m.batteryPv
    mutedPv := heldValue c.mutedSpeech p.mutedSpeechQualify m.state.mutedSpeech m.mutedPv
    weakPv := heldValue c.signalWeak p.weakQualify m.state.signalWeak m.weakPv }

/-- The changed set values reach every seat's held present values, in every sitting state (R60; log 10). -/
def State.takeSetValues (s : State) : State :=
  { s.mapMonitors fun _ m => m.takeSetValues s.params s.setChanged with setChanged := .none }

/-- The kinds a quarter tick evaluates: all but BATTERY_SHORTFALL (R59). -/
def quarterKinds : PerKind Bool := ⟨true, false, true, true, true, true, true⟩

end Sys2Proof.Machine
end

