-- ==== Sys2Proof/Machine/SeatTable.lean ====
section
/-! DEFINITION. The Seat Table (chapter 1): signal states, restart and release, the stray list, and the seven
requests of section 1.5. -/

namespace Sys2Proof.Machine

/-! ## Seat records -/

/-- A sample level folded into the level store A (R35). -/
def foldLevel (a : Option Nat) (level : Nat) : Nat :=
  match a with
  | none => 4 * level
  | some a => a - a / 4 + level

/-- The closing of an open sequence (R35, R6); a sequence that is not OPEN stays as it is. -/
def SeatRecord.closeSequence (r : SeatRecord) : SeatRecord :=
  match r.seq with
  | .opened number level _ => { r with seq := .closed number, levelStore := some (foldLevel r.levelStore level) }
  | .closed _ | .absent => r

/-- Entry to FADING (R6). -/
def SeatRecord.enterFading (r : SeatRecord) : SeatRecord := { r.closeSequence with signal := .fading }

/-- Entry to LOST (R7). -/
def SeatRecord.enterLost (r : SeatRecord) : SeatRecord :=
  { r with signal := .lost, mute := .unknown, rawMute := none, voice := false }

/-- One seat's advance at a quarter tick: the silence count, then FADING, then LOST (R5). -/
def SeatRecord.advance (fade lost : Nat) (r : SeatRecord) : SeatRecord :=
  if r.signal = .noPack then r
  else
    let counted := { r with silence := bump 255 r.silence }
    let faded :=
      if counted.signal = .heard ∧ fade ≤ counted.silence then counted.enterFading else counted
    if faded.signal = .fading ∧ lost ≤ faded.silence then faded.enterLost else faded

/-- A seat restart: binding and group kept, everything else fresh (R2). -/
def SeatRecord.restart (r : SeatRecord) : SeatRecord :=
  { r with
    signal := .seeking, silence := 0, seq := .absent, levelStore := none, mute := .unknown,
    rawMute := none, voice := false, dropouts := 0, est := .restarted }

/-- A seat release: a restart into NO_PACK with the pack gone (R3). -/
def SeatRecord.release (r : SeatRecord) : SeatRecord := { r.restart with signal := .noPack, pack := none }

/-- The Seat Table's part of a quarter tick, for the seats picked (R5). -/
def State.advanceSeats (s : State) (who : Seat → Bool) : State :=
  s.changeSeats fun n r => if who n then r.advance s.params.fadeTime s.params.lostTime else r

/-! ## The stray list -/

/-- A report from an unbound pack is noted at the front of the stray list (R11). -/
def noteStray (strays : List Stray) (pack : PackId) (level : Nat) (receiver : Port) (now : Nat) : List Stray :=
  let count := match strays.find? fun t => t.pack == pack with
    | some t => bump 255 t.count
    | none => 1
  (⟨pack, level, receiver, count, now⟩ :: strays.filter fun t => t.pack != pack).take Config.strayCapacity

/-- The stray entry of a pack, if there is one, removed (R13 step 4). -/
def State.dropStray (s : State) (pack : PackId) : State :=
  { s with strays := s.strays.filter fun t => t.pack != pack }

/-! ## Requests -/

/-- A seat taken off the floor list with a release; those behind it keep their order (R3, R129). -/
def State.leaveFloor (s : State) (n : Seat) : State :=
  { s with floor := s.floor.filter fun e => e.seat != n }

/-- A seat release with its Condition Monitor step (R3). -/
def State.releaseSeat (s : State) (n : Seat) : State :=
  ((s.putSeat n (s.seat n).release).leaveFloor n).restartMonitors (· == n)

/-- The binding of a pack to a seat, all in one change: the seat it came from released, this seat's own pack
replaced, the stray entry removed and the seat restarted (R13 steps 1 to 5). -/
def State.bindSeat (s : State) (n : Seat) (pack : PackId) (from? : Option Seat) : State :=
  let freed := match from? with
    | some m => (s.putSeat m (s.seat m).release).leaveFloor m
    | none => s
  let taken := freed.putSeat n { freed.seat n with pack := some pack }.restart
  (taken.dropStray pack).restartMonitors fun k => k == n || from? == some k

/-- BIND PACK (R12, R13).  The previous-pack field of the answer to a pack already bound to this seat is a
free value (log 12). -/
def serveBindPack (x : LinkId) (payload : List Byte) (s : State) : Served :=
  if !s.technical x then s.refuse .role
  else if s.loading then s.refuse .busy
  else match payload with
    | seat :: hi :: mid :: lo :: move :: _ =>
      match seatOf seat with
      | none => s.refuse .range
      | some n =>
        let pack := packOf hi mid lo
        if !validPack pack then s.refuse .range
        else
          let held := s.seatOfPack pack
          if held = some n then
            { s with freeCount := s.freeCount + 1 }.answer .ok
              ([seat] ++ packBytes (some pack) ++ [seatByte none]
                ++ bytes3 (Config.rebindPreviousPack s.freeCount).val)
          else if held.isSome && move == 0 then s.answer .inUse [seatByte held]
          else (s.bindSeat n pack held).answer .ok
            ([seat] ++ packBytes (some pack) ++ [seatByte held] ++ packBytes (s.seat n).pack)
    | _ => s.refuse .range

/-- UNBIND SEAT (R12, R15). -/
def serveUnbindSeat (x : LinkId) (payload : List Byte) (s : State) : Served :=
  if !s.technical x then s.refuse .role
  else if s.loading then s.refuse .busy
  else match payload with
    | seat :: _ =>
      match seatOf seat with
      | none => s.refuse .range
      | some n =>
        if !s.bound n then s.refuse .notFound
        else (s.releaseSeat n).answer .ok ([seat] ++ packBytes (s.seat n).pack)
    | _ => s.refuse .range

/-- SET GROUP (R12, R16). -/
def serveSetGroup (x : LinkId) (payload : List Byte) (s : State) : Served :=
  if !s.technical x then s.refuse .role
  else if s.loading then s.refuse .busy
  else match payload with
    | first :: last :: group :: _ =>
      if 127 < first.toNat || 15 < group.toNat || last.toNat < first.toNat then s.refuse .range
      else
        let final := min 127 last.toNat
        (s.mapSeats fun n r =>
          if first.toNat ≤ n.val ∧ n.val ≤ final then { r with group := group.toNat } else r).answer
          (okOr (127 < last.toNat)) [first, byte final, group]
    | _ => s.refuse .range

/-- READ SEAT (R12, R17). -/
def serveReadSeat (x : LinkId) (payload : List Byte) (s : State) : Served :=
  if !s.anyRole x then s.refuse .role
  else match payload with
    | seat :: _ =>
      match seatOf seat with
      | none => s.refuse .range
      | some n => s.answer .ok (seatBytes n (s.seat n) (s.onFloor n))
    | _ => s.refuse .range

/-- The seats `first` to `first + count - 1`. -/
def seatRun (first count : Nat) : List Seat :=
  allSeats.filter fun n => first ≤ n.val && n.val < first + count

/-- READ SEATS (R12, R18). -/
def serveReadSeats (x : LinkId) (payload : List Byte) (s : State) : Served :=
  if !s.anyRole x then s.refuse .role
  else match payload with
    | first :: count :: compact :: _ =>
      if 127 < first.toNat || count == 0 then s.refuse .range
      else
        let taken := min (min 8 count.toNat) (128 - first.toNat)
        s.answer (okOr (taken != count.toNat)) (byte taken ::
          (seatRun first.toNat taken).flatMap fun n =>
            if compact == 0 then seatBytes n (s.seat n) (s.onFloor n)
            else seatSummary n (s.seat n) (s.onFloor n))
    | _ => s.refuse .range

/-- READ STRAYS (R12, R19). -/
def serveReadStrays (x : LinkId) (_payload : List Byte) (s : State) : Served :=
  if !s.anyRole x then s.refuse .role
  else s.answer .ok (byte s.strays.length :: s.strays.flatMap Stray.toBytes)

/-- Every bound seat restarted, every FIFO and the stray list emptied (R20). -/
def State.restartBound (s : State) : State :=
  let restarted := s.mapSeats fun _ r => if r.pack.isSome then r.restart else r
  ({ (restarted.mapPorts fun _ t => { t with fifo := [] }) with strays := [] }).restartMonitors s.bound

/-- RESTART SEATS (R12, R20). -/
def serveRestartSeats (x : LinkId) (_payload : List Byte) (s : State) : Served :=
  if !s.technical x then s.refuse .role
  else if s.loading then s.refuse .busy
  else if s.sitting ≠ .setup then s.refuse .state
  else s.restartBound.answer .ok [byte (allSeats.countP s.bound)]

end Sys2Proof.Machine
end

