-- ==== Sys2Proof/Machine/Intake.lean ====
section
/-! DEFINITION. Report intake (chapter 2): the receiver ports, the arbiter, and the processing of one
report. -/

namespace Sys2Proof.Machine

/-! ## Receiver ports -/

/-- A signal strength in dBm, clamped and made a level (R23). -/
def levelOf (dbm : Byte) : Nat := (max (-120) (min (-20) dbm.toInt) + 120).toNat

/-- The report of a frame that passes its tests; the frame is TYPE to CHECK (R23, 10.1). -/
def reportOf (p : Port) (hi mid lo seq level vhi vlo flags : Byte) : Report where
  receiver := p
  pack := packOf hi mid lo
  seq := seq
  level := levelOf level
  voltage := min 4095 (number2 vhi vlo)
  switch := if flags.getLsbD 0 then .muted else .opened
  voice := flags.getLsbD 1

/-- Flags set on a STARTED port, not on a STOPPED one (R25). -/
def PortState.flag (t : PortState) (f : LineFlags → LineFlags) : PortState :=
  if t.started then { t with flags := f t.flags } else t

/-- A complete frame, TYPE to CHECK, judged on a STARTED port: check, form, room (R22), else a report at the
FIFO's tail (R23, R24).  A STOPPED port discards it (R25). -/
def PortState.judge (p : Port) (t : PortState) (frame : List Byte) : PortState :=
  if !t.started then t
  else if (9 + byteSum frame) % 256 ≠ 0 then t.flag fun f => { f with check := true }
  else match frame with
    | [type, hi, mid, lo, seq, level, vhi, vlo, flags, _check] =>
      if type ≠ 0x01 ∨ validPack (packOf hi mid lo) = false then t.flag fun f => { f with format := true }
      else if Config.fifoCapacity ≤ t.fifo.length then t.flag fun f => { f with overrun := true }
      else { t with fifo := t.fifo ++ [reportOf p hi mid lo seq level vhi vlo flags] }
    | _ => t

/-- A character received on a port line (R21). -/
def PortState.receive (p : Port) (t : PortState) (ch : Byte) (stopAtSpace : Bool) : PortState :=
  if stopAtSpace then { t.flag fun f => { f with framing := true } with assembly := .hunt }
  else match t.assembly with
    | .hunt => if ch = 0x5A then { t with assembly := .length } else t
    | .length =>
      if ch = 0x09 then { t with assembly := .body [] }
      else if ch = 0x5A then t
      else { t.flag fun f => { f with format := true } with assembly := .hunt }
    | .body got =>
      let frame := got ++ [ch]
      if 10 ≤ frame.length then { t with assembly := .hunt }.judge p frame
      else { t with assembly := .body frame }

/-- PORT_CHARACTER (R21, R22, R23, R25). -/
def execPortCharacter (p : Port) (ch : Byte) (stopAtSpace : Bool) (s : State) :
    Host.Outcome State Fault Refusal :=
  .next (s.putPort p ((s.port p).receive p ch stopAtSpace))

/-! ## The seat update engine -/

/-- The class of a report against the current sequence (R33). -/
inductive SeqClass where
  | first
  | echo
  | taken (missed : Nat)
  | resync
  | late
  deriving DecidableEq, Repr

/-- The class from d, the step modulo 256 (R33). -/
def classOfStep (d : Nat) : SeqClass :=
  if d = 0 then .echo else if d ≤ 127 then .taken (d - 1) else if d ≤ 239 then .resync else .late

/-- The current sequence of a seat, OPEN or CLOSED. -/
def SeqState.current : SeqState → Option Byte
  | .absent => none
  | .closed n => some n
  | .opened n _ _ => some n

/-- A report classified (R33). -/
def SeqState.classify (q : SeqState) (seq : Byte) : SeqClass :=
  match q.current with
  | none => .first
  | some n => classOfStep (seq - n).toNat

/-- An ECHO against an OPEN sequence may raise the sample (R34). -/
def SeqState.echo (q : SeqState) (level : Nat) (receiver : Port) : SeqState :=
  match q with
  | .opened n l p => if l < level then .opened n level receiver else .opened n l p
  | .closed n => .closed n
  | .absent => .absent

/-- The mute value a switch stands for. -/
def Switch.toMute : Switch → Mute
  | .opened => .opened
  | .muted => .muted

/-- The two-report match (R37 step 1). -/
def matchMute (mute : Mute) (raw : Option Switch) (switch : Switch) : Mute :=
  if raw = some switch then switch.toMute else mute

/-- A taken report's writes, in one change (R8, R35 to R38). -/
def SeatRecord.take (curve : Vector Breakpoint 8) (w : Nat) (r : SeatRecord) (rep : Report)
    (missed : Nat) : SeatRecord :=
  let closed := r.closeSequence
  { closed with
    seq := .opened rep.seq rep.level rep.receiver
    dropouts := min 255 (r.dropouts + missed)
    silence := 0
    signal := .heard
    mute := matchMute r.mute r.rawMute rep.switch
    rawMute := some rep.switch
    voice := rep.voice
    est := if rep.voltage = 0 then r.est else r.est.reading curve w rep.voltage }

/-- A report's effect on the record of the seat its pack is bound to (R33 to R38). -/
def SeatRecord.report (curve : Vector Breakpoint 8) (w : Nat) (r : SeatRecord) (rep : Report) : SeatRecord :=
  match r.seq.classify rep.seq with
  | .first => r.take curve w rep 0
  | .taken missed => r.take curve w rep missed
  | .resync => r.take curve w rep 0
  | .echo => { r with seq := r.seq.echo rep.level rep.receiver }
  | .late => r

/-- One report processed whole (R31, R32). -/
def State.processReport (s : State) (rep : Report) : State :=
  match s.seatOfPack rep.pack with
  | some n => s.changeSeat n ((s.seat n).report s.curve s.params.estimatorWindow rep)
  | none => { s with strays := noteStray s.strays rep.pack rep.level rep.receiver s.deviceSeconds }

/-! ## The arbiter -/

/-- The ports in the order last served + 1 to last served + 8, modulo 8 (R30). -/
def pickOrder (last : Port) : List Port := (List.finRange 8).map fun i => last + 1 + i

/-- The port the arbiter takes (R30). -/
def State.nextPort (s : State) : Option Port :=
  (pickOrder s.lastServed).find? fun p => !(s.port p).fifo.isEmpty

/-- INTAKE_PICK (R24, R30, R31).  With every FIFO empty there is no pick. -/
def execIntakePick (s : State) : Host.Outcome State Fault Refusal :=
  .next <|
    match s.nextPort with
    | none => s
    | some p =>
      match (s.port p).fifo with
      | [] => s
      | rep :: rest =>
        ({ s.putPort p { s.port p with fifo := rest } with lastServed := p }).processReport rep

/-! ## Port requests -/

/-- PORT START (R27). -/
def servePortStart (x : LinkId) (payload : List Byte) (s : State) : Served :=
  if !s.technical x then s.refuse .role
  else match payload with
    | set :: _ =>
      if set = 0 then s.refuse .range
      else
        let t := s.mapPorts fun p q => if set.getLsbD p.val then { q with started := true } else q
        t.answer .ok [byte (startedSet t.ports)]
    | _ => s.refuse .range

/-- PORT STOP (R27). -/
def servePortStop (x : LinkId) (payload : List Byte) (s : State) : Served :=
  if !s.technical x then s.refuse .role
  else match payload with
    | set :: _ =>
      if set = 0 then s.refuse .range
      else
        let t := s.mapPorts fun p q =>
          if set.getLsbD p.val then { q with started := false, fifo := [] } else q
        t.answer .ok [byte (startedSet t.ports)]
    | _ => s.refuse .range

/-- CLEAR PORT FLAGS (R28). -/
def serveClearPortFlags (x : LinkId) (payload : List Byte) (s : State) : Served :=
  if !s.technical x then s.refuse .role
  else match payload with
    | port :: set :: _ =>
      match portOf port with
      | none => s.refuse .range
      | some p =>
        let flags := (s.port p).flags.clearNamed set
        (s.putPort p { s.port p with flags := flags }).answer .ok [byte flags.code]
    | _ => s.refuse .range

/-- READ PORTS (R29). -/
def serveReadPorts (x : LinkId) (_payload : List Byte) (s : State) : Served :=
  if !s.anyRole x then s.refuse .role
  else s.answer .ok
    ((s.ports.toList.flatMap fun q => [byte (boolCode q.started), byte q.fifo.length, byte q.flags.code])
      ++ [byte s.lastServed.val])

end Sys2Proof.Machine
end

