-- ==== Sys2Proof/Machine/Parameters.lean ====
section
/-! DEFINITION. The 21 parameters (section 4.6) and the two requests that write and read them. -/

namespace Sys2Proof.Machine

/-- The parameter of a number, 1 to 21 (R77); 0 for any other number, which no rule reads. -/
def Params.get (p : Params) (number : Nat) : Nat :=
  match number with
  | 1 => p.batteryLowPct
  | 2 => p.batteryCritPct
  | 3 => p.batteryHystPct
  | 4 => p.batteryQualify
  | 5 => p.estimatorWindow
  | 6 => p.reserveMin
  | 7 => p.shortfallHystMin
  | 8 => p.mutedSpeechQualify
  | 9 => p.openNoFloorLimit
  | 10 => p.weakLevel
  | 11 => p.weakHyst
  | 12 => p.weakQualify
  | 13 => p.dropoutWindow
  | 14 => p.dropoutLimit
  | 15 => p.fadeTime
  | 16 => p.lostTime
  | 17 => p.escAdvisory
  | 18 => p.escCaution
  | 19 => p.escUrgent
  | 20 => p.floorLimit
  | 21 => p.floorPolicy
  | _ => 0

/-- One parameter replaced. -/
def Params.put (p : Params) (number v : Nat) : Params :=
  match number with
  | 1 => { p with batteryLowPct := v }
  | 2 => { p with batteryCritPct := v }
  | 3 => { p with batteryHystPct := v }
  | 4 => { p with batteryQualify := v }
  | 5 => { p with estimatorWindow := v }
  | 6 => { p with reserveMin := v }
  | 7 => { p with shortfallHystMin := v }
  | 8 => { p with mutedSpeechQualify := v }
  | 9 => { p with openNoFloorLimit := v }
  | 10 => { p with weakLevel := v }
  | 11 => { p with weakHyst := v }
  | 12 => { p with weakQualify := v }
  | 13 => { p with dropoutWindow := v }
  | 14 => { p with dropoutLimit := v }
  | 15 => { p with fadeTime := v }
  | 16 => { p with lostTime := v }
  | 17 => { p with escAdvisory := v }
  | 18 => { p with escCaution := v }
  | 19 => { p with escUrgent := v }
  | 20 => { p with floorLimit := v }
  | 21 => { p with floorPolicy := v }
  | _ => p

/-- The lowest and highest value of a parameter (R77). -/
def paramRange (number : Nat) : Nat × Nat :=
  match number with
  | 1 => (1, 99)
  | 2 => (0, 98)
  | 3 => (1, 20)
  | 4 => (0, 255)
  | 5 => (5, 60)
  | 6 => (0, 240)
  | 7 => (1, 60)
  | 8 => (0, 255)
  | 9 => (10, 3600)
  | 10 => (0, 100)
  | 11 => (1, 20)
  | 12 => (0, 255)
  | 13 => (10, 600)
  | 14 => (1, 255)
  | 15 => (2, 40)
  | 16 => (4, 240)
  | 17 => (0, 3600)
  | 18 => (0, 3600)
  | 19 => (0, 3600)
  | 20 => (1, 4)
  | 21 => (0, 1)
  | _ => (0, 0)

/-- The numbers 1 to 21 in number order. -/
def parameterNumbers : List Nat := (List.range 21).map (· + 1)

/-- A value taken into the parameter's own range (R77 step 1). -/
def ownRange (number v : Nat) : Nat := clampTo (paramRange number).1 (paramRange number).2 v

/-- A value written by the two steps of R77: own range, then pairs. -/
def Params.write (p : Params) (number v : Nat) : Params :=
  let w := ownRange number v
  match number with
  | 1 =>
    { p with batteryLowPct := w, batteryCritPct := if w ≤ p.batteryCritPct then w - 1 else p.batteryCritPct }
  | 2 => { p with batteryCritPct := if p.batteryLowPct ≤ w then p.batteryLowPct - 1 else w }
  | 15 => { p with fadeTime := w, lostTime := if p.lostTime ≤ w then w + 1 else p.lostTime }
  | 16 => { p with lostTime := if w ≤ p.fadeTime then p.fadeTime + 1 else w }
  | n => p.put n w

/-- The other parameter of a number's pair, 0 where it has none (R77 step 2). -/
def pairOf (number : Nat) : Nat :=
  match number with
  | 1 => 2
  | 2 => 1
  | 15 => 16
  | 16 => 15
  | _ => 0

/-- The oldest entries leave the floor list until FLOOR_LIMIT fits (R132). -/
def State.trimFloor (s : State) : State :=
  let leaving := s.floor.take (s.floor.length - s.params.floorLimit)
  ({ s with floor := s.floor.drop (s.floor.length - s.params.floorLimit) }).withdrawn
    fun n => leaving.any fun e => e.seat == n

/-- A set value that has changed is noted until the next quarter tick (R60). -/
def SetChanged.after (c : SetChanged) (old new : Params) : SetChanged :=
  ⟨c.battery || old.batteryQualify != new.batteryQualify,
   c.mutedSpeech || old.mutedSpeechQualify != new.mutedSpeechQualify,
   c.signalWeak || old.weakQualify != new.weakQualify⟩

/-- The effects that taking a value has besides the value itself (R52, R63, R97, R132). -/
def State.takeEffect (s : State) (number : Nat) : State :=
  match number with
  | 5 => s.restartWindows
  | 13 => { s with windowElapsed := 0 }
  | 17 => s.retimeRecords .advisory
  | 18 => s.retimeRecords .caution
  | 19 => s.retimeRecords .urgent
  | 20 => if s.params.floorLimit < s.floor.length then s.trimFloor else s
  | _ => s

/-- One parameter written, with the effects of taking the value (R77, R78). -/
def State.writeParameter (s : State) (number v : Nat) : State :=
  let params := s.params.write number v
  ({ s with params := params, setChanged := s.setChanged.after s.params params }).takeEffect number

/-- SET PARAMETER (R78). -/
def serveSetParameter (x : LinkId) (payload : List Byte) (s : State) : Served :=
  if !s.technical x then s.refuse .role
  else if s.loading then s.refuse .busy
  else match payload with
    | number :: hi :: lo :: _ =>
      let n := number.toNat
      let v := number2 hi lo
      if n = 0 ∨ 21 < n then s.refuse .range
      else if (n = 5 ∨ n = 15 ∨ n = 16) ∧ s.sitting ≠ .setup then s.refuse .state
      else
        let t := s.writeParameter n v
        let other := pairOf n
        let moved := t.params.get other != s.params.get other
        let now := t.params.get n
        t.answer (okOr (now != v || moved))
          ([number] ++ bytes2 now ++ (if moved then byte other :: bytes2 (t.params.get other) else [0, 0, 0]))
    | _ => s.refuse .range

/-- READ PARAMETER (R79). -/
def serveReadParameter (x : LinkId) (payload : List Byte) (s : State) : Served :=
  if !s.anyRole x then s.refuse .role
  else match payload with
    | number :: _ =>
      if 21 < number.toNat then s.refuse .range
      else if number = 0 then
        s.answer .ok (number :: parameterNumbers.flatMap fun n => bytes2 (s.params.get n))
      else s.answer .ok (number :: bytes2 (s.params.get number.toNat))
    | _ => s.refuse .range

/-! ## The curve's requests -/

/-- Three payload bytes of a breakpoint: voltage, then percent (10.5). -/
def breakpointAt (payload : List Byte) (i : Nat) : Breakpoint :=
  ⟨number2 (payload.getD (3 * i) 0) (payload.getD (3 * i + 1) 0), (payload.getD (3 * i + 2) 0).toNat⟩

/-- Eight breakpoints from their bytes (10.5, 10.6). -/
def curveOfBytes (payload : List Byte) : Vector Breakpoint 8 := Vector.ofFn fun i => breakpointAt payload i.val

/-- SET CURVE (R44). -/
def serveSetCurve (x : LinkId) (payload : List Byte) (s : State) : Served :=
  if !s.technical x then s.refuse .role
  else if s.loading then s.refuse .busy
  else if s.sitting ≠ .setup then s.refuse .state
  else if payload.length < 24 ∨ curveValid (curveOfBytes payload) = false then s.refuse .range
  else
    let curve := curveOfBytes payload
    ({ s with curve := curve }).restartEstimators.answer .ok (curveBytes curve)

/-- READ CURVE (R45). -/
def serveReadCurve (x : LinkId) (_payload : List Byte) (s : State) : Served :=
  if !s.anyRole x then s.refuse .role else s.answer .ok (curveBytes s.curve)

end Sys2Proof.Machine
end

