-- ==== Sys2Proof/Machine/Console.lean ====
section
/-! DEFINITION. The console contexts' requests (chapter 6) and PURGE CLEARED (R92). -/

namespace Sys2Proof.Machine

/-! ## Reading the list -/

/-- The link joins the seen-by of the records picked, in one change (R111, R112). -/
def State.markSeen (s : State) (x : LinkId) (picked : List Record) : State :=
  { s with records := s.records.map fun r =>
      if picked.any (fun q => q.isFor r.seat r.kind) then r.seen x else r }

/-- READ UNSEEN (R110, R111). -/
def serveReadUnseen (x : LinkId) (_payload : List Byte) (s : State) : Served :=
  if !s.anyRole x then s.refuse .role
  else
    let picked := (s.unseen x).take 4
    let t := s.markSeen x picked
    t.answer .ok ([byte picked.length, byte (t.unseen x).length]
      ++ (picked.map (Record.seen x)).flatMap recordBytes)

/-- READ WARNINGS (R110, R112). -/
def serveReadWarnings (x : LinkId) (payload : List Byte) (s : State) : Served :=
  if !s.anyRole x then s.refuse .role
  else match payload with
    | position :: _ =>
      if 47 < position.toNat then s.refuse .range
      else
        let picked := ((s.inView x).drop position.toNat).take 4
        (s.markSeen x picked).answer .ok
          ([byte (s.inView x).length, position, byte picked.length]
            ++ (picked.map (Record.seen x)).flatMap recordBytes)
    | _ => s.refuse .range

/-! ## Acknowledgement -/

/-- The link's role is one that may acknowledge at all (section 6.4). -/
def State.mayAcknowledge (s : State) (x : LinkId) : Bool := s.presiding x || s.technical x

/-- ACK WARNING (R110, R114). -/
def serveAckWarning (x : LinkId) (payload : List Byte) (s : State) : Served :=
  if !s.mayAcknowledge x then s.refuse .role
  else match payload with
    | seat :: kind :: _ =>
      match seatOf seat, kindOf kind with
      | some n, some k =>
        match s.record n k with
        | none => s.refuse .notFound
        | some r =>
          if !(s.link x).view.sees r then s.refuse .notFound
          else if !r.roles.admits (s.link x).role then
            s.answer .role [byte r.severity.code, byte r.roles.code]
          else if r.state = .clearedUnacked then
            (s.removeAll [r]).answer .ok [seat, kind, byte r.state.code, byte 2]
          else (s.acknowledge x r).answer .ok [seat, kind, byte r.state.code, byte 1]
      | _, _ => s.refuse .range
    | _ => s.refuse .range

/-- A record that ACK GROUP selects (R115). -/
def State.groupSelects (s : State) (x : LinkId) (group mask : Nat) (classes : ClassSet) (r : Record) : Bool :=
  (s.link x).view.sees r && classes.holds r.kind
    && ((s.seat r.seat).group &&& mask) == (group &&& mask)
    && r.roles.admits (s.link x).role && r.state != .activeAcked

/-- Records acknowledged in list order within one event, due marks admitted after all of them (R115, R88). -/
def State.acknowledgeAll (s : State) (x : LinkId) (picked : List Record) : State :=
  let t := picked.foldl (fun t r => t.acknowledge x r) s
  if picked.any fun r => r.state == .clearedUnacked then t.fillFreed else t

/-- ACK GROUP (R110, R115). -/
def serveAckGroup (x : LinkId) (payload : List Byte) (s : State) : Served :=
  if !s.mayAcknowledge x then s.refuse .role
  else match payload with
    | group :: mask :: set :: _ =>
      if 15 < group.toNat ∨ 15 < mask.toNat then s.refuse .range
      else
        let picked := s.records.filter (s.groupSelects x group.toNat mask.toNat (classSetOf set))
        (s.acknowledgeAll x picked).answer .ok [byte picked.length]
    | _ => s.refuse .range

/-- PURGE CLEARED (R92). -/
def servePurgeCleared (x : LinkId) (_payload : List Byte) (s : State) : Served :=
  if !s.technical x then s.refuse .role
  else
    let picked := (s.inView x).filter fun r => r.state == .clearedUnacked
    (s.removeAll picked).answer .ok [byte picked.length]

/-! ## Views -/

/-- The view of a SET VIEW payload, base and limit clamped; none where an enumerated byte is outside its
codes (R117, R157). -/
def viewOf (base limit classes sitting recess mask : Byte) : Option View :=
  match severityOf sitting, severityOf recess with
  | some t, some u =>
    if 1 < mask.toNat then none
    else some ⟨min 127 base.toNat, min 127 limit.toNat, classSetOf classes, t, u, mask == 1⟩
  | _, _ => none

/-- SET VIEW (R110, R117). -/
def serveSetView (x : LinkId) (payload : List Byte) (s : State) : Served :=
  if !s.anyRole x then s.refuse .role
  else match payload with
    | base :: limit :: classes :: sitting :: recess :: mask :: dflt :: _ =>
      match viewOf base limit classes sitting recess mask with
      | none => s.refuse .range
      | some v =>
        let l := s.link x
        let t := s.putLink x { l with view := v, default := if dflt == 0 then l.default else v }
        t.answer (okOr (127 < base.toNat || 127 < limit.toNat))
          (v.toBytes ++ (t.link x).default.toBytes ++ [byte (t.inView x).length])
    | _ => s.refuse .range

/-- READ VIEW (R110, R118). -/
def serveReadView (x : LinkId) (_payload : List Byte) (s : State) : Served :=
  if !s.anyRole x then s.refuse .role
  else
    let l := s.link x
    s.answer .ok ([byte l.role.code] ++ l.view.toBytes ++ [byte (s.threshold x).code] ++ l.default.toBytes
      ++ [byte (s.inView x).length, byte (s.unseen x).length, byte (boolCode l.notice),
          byte (boolCode (s.attention x))])

end Sys2Proof.Machine
end

