-- ==== Sys2Proof/Machine/ProfileStore.lean ====
section
/-! DEFINITION. The Profile Store (chapter 9) and the profile image (10.6). -/

namespace Sys2Proof.Machine

/-! ## The image -/

/-- The header of an image made for a slot: identifier 5624h, version 1, flags, length 604 (R150, 10.6). -/
def imageHeader (slot : Nat) : List Byte := [0x56, 0x24, 0x01, byte slot] ++ bytes2 Config.imageBytes

/-- One seat entry: pack, 000000 for unbound, and group (R150). -/
def SeatRecord.imageBytes (r : SeatRecord) : List Byte := packBytes r.pack ++ [byte r.group]

/-- The 602 bytes of an image before its sum check (R150). -/
def State.imageBody (s : State) (slot : Nat) : List Byte :=
  imageHeader slot ++ parameterNumbers.flatMap (fun n => bytes2 (s.params.get n)) ++ curveBytes s.curve
    ++ s.seats.toList.flatMap SeatRecord.imageBytes
    ++ allLinks.flatMap fun x => (s.link x).default.toBytes

/-- A snapshot: an image built from the part's state at one event (R150). -/
def State.snapshot (s : State) (slot : Nat) : List Byte :=
  let body := s.imageBody slot
  body ++ bytes2 (byteSum body % 65536)

/-- The byte at an offset of an image. -/
def imageByte (img : List Byte) (i : Nat) : Byte := img.getD i 0

/-- The two-byte number at an offset of an image. -/
def imageWord (img : List Byte) (i : Nat) : Nat := number2 (imageByte img i) (imageByte img (i + 1))

/-- Soundness of an image read from a slot (R152). -/
def imageSound (img : List Byte) (slot : Nat) : Bool :=
  img.length == Config.imageBytes && imageWord img 0 == 0x5624 && imageByte img 2 == 1
    && (imageByte img 3).toNat == slot && imageWord img 4 == Config.imageBytes
    && imageWord img 602 == byteSum (img.take 602) % 65536

/-- The parameter of a number in an image (10.6). -/
def imageParameter (img : List Byte) (number : Nat) : Nat := imageWord img (6 + 2 * (number - 1))

/-- The curve in an image (10.6). -/
def imageCurve (img : List Byte) : Vector Breakpoint 8 := curveOfBytes (img.drop 48)

/-- The pack ID stored for a seat, 000000 for unbound (10.6). -/
def imagePackId (img : List Byte) (n : Seat) : PackId :=
  packOf (imageByte img (72 + 4 * n.val)) (imageByte img (73 + 4 * n.val)) (imageByte img (74 + 4 * n.val))

/-- The pack an image binds to a seat (R158). -/
def imagePack (img : List Byte) (n : Seat) : Option PackId :=
  if imagePackId img n = 0 then none else some (imagePackId img n)

/-- The group an image gives a seat; above 15 it is taken as 15 (R153, R158). -/
def imageGroup (img : List Byte) (n : Seat) : Nat := min 15 (imageByte img (75 + 4 * n.val)).toNat

/-- A stored threshold; above 2 it is taken as URGENT (R158). -/
def storedSeverity (b : Byte) : Severity := (severityOf b).getD .urgent

/-- The link default at an offset of an image (10.6, R158). -/
def imageView (img : List Byte) (i : Nat) : View where
  base := min 127 (imageByte img i).toNat
  limit := min 127 (imageByte img (i + 1)).toNat
  classes := classSetOf (imageByte img (i + 2))
  sittingThreshold := storedSeverity (imageByte img (i + 3))
  recessThreshold := storedSeverity (imageByte img (i + 4))
  masked := imageByte img (i + 5) != 0

/-- Where a link's default stands in an image (10.6). -/
def imageViewOffset : LinkId → Nat
  | .a => 584
  | .b => 590
  | .c => 596

/-- The packs an image binds, in seat order. -/
def imagePacks (img : List Byte) : List PackId := allSeats.filterMap (imagePack img)

/-- The form stage: the curve valid, no pack FFFFFF, no pack stored twice (R152). -/
def imageFormed (img : List Byte) : Bool :=
  curveValid (imageCurve img) && (imagePacks img).all (· != 0xFFFFFF) && decide (imagePacks img).Nodup

/-! ## Applying an image (R153) -/

/-- The 21 parameters written in number order with the effects of taking them (R153 step 1). -/
def State.applyParameters (s : State) (img : List Byte) : State :=
  parameterNumbers.foldl (fun t n => t.writeParameter n (imageParameter img n)) s

/-- A seat record under the image's bindings (R153 steps 3 and 4). -/
def SeatRecord.rebind (pack : Option PackId) (group : Nat) (r : SeatRecord) : SeatRecord :=
  match pack with
  | some p => { r.restart with group := group, pack := some p }
  | none => { r.release with group := group }

/-- The bindings, groups, restarts and releases of an image, with their Condition Monitor step (R153 steps 3
and 4, R41). -/
def State.applyBindings (s : State) (img : List Byte) : State :=
  let seated := s.mapSeats fun n r => r.rebind (imagePack img n) (imageGroup img n)
  let left := { seated with floor := s.floor.filter fun e => (imagePack img e.seat).isSome }
  left.restartMonitors fun n => s.bound n || (imagePack img n).isSome

/-- The default records and views of an image (R104, R153 step 6). -/
def State.applyViews (s : State) (img : List Byte) : State :=
  let set (x : LinkId) : LinkState :=
    let v := imageView img (imageViewOffset x)
    { s.link x with view := v, default := v }
  { s with links := ⟨set .a, set .b, set .c⟩ }

/-- A sound and well-formed image applied, in one event (R153). -/
def State.applyImage (s : State) (img : List Byte) : State :=
  let bound := ({ s.applyParameters img with curve := imageCurve img }).applyBindings img
  let heard := { bound with strays := bound.strays.filter fun t => !(imagePacks img).contains t.pack }
  heard.applyViews img

/-! ## The EEPROM's slots -/

/-- The memory address of a slot (R147). -/
def slotAddress (slot : Nat) : Nat := slot * Config.slotBytes

/-- The image's 604 bytes as a slot holds them (R147). -/
def State.slotImage (s : State) (slot : Nat) : List Byte :=
  s.store.readBytes (slotAddress slot) Config.imageBytes

/-- The twenty writes of a save, each an offset and its bytes: the first 32 bytes with a zero identifier,
seventeen of 32, one of 28, and the identifier (R151). -/
def savePages (img : List Byte) : List (Nat × List Byte) :=
  (0, [0x00, 0x00] ++ (img.take 32).drop 2)
    :: ((List.range 18).map fun i => (32 * (i + 1), (img.drop (32 * (i + 1))).take 32))
    ++ [(0, img.take 2)]

/-- Page writes taken by the memory, in order. -/
def Memory.writePages (m : Memory) (address : Nat) : List (Nat × List Byte) → Memory
  | [] => m
  | page :: rest => Memory.writePages (m.writeBytes (address + page.1) page.2) address rest

/-- What a save that was cut short leaves: the writes taken, and in the page of the write in flight whatever
the memory made of it (R151, R156; log 15).  A cut at the identifier write leaves the zero identifier. -/
def Memory.cutSave (m : Memory) (address : Nat) (img : List Byte) (g : Progress) : Memory :=
  let pages := savePages img
  let written := m.writePages address (pages.take g.taken)
  match pages[g.taken]? with
  | none => written
  | some page =>
    if g.taken = 19 then written else written.writeBytes (address + page.1) (g.torn.take page.2.length)

/-- The slot of the operation in flight. -/
def State.opSlot (s : State) : Nat := s.profile.lastSlot.getD 0

/-- The EEPROM as the reset pin finds it: a save in flight leaves it as far as it had gone (R156). -/
def State.storeAtReset (s : State) (g : Progress) : Memory :=
  if s.profile.op = .saving then s.store.cutSave (slotAddress s.opSlot) s.profile.buffer g else s.store

/-! ## Requests -/

/-- The checks of R149 that the three operations share, up to the operation state. -/
def State.profileRefusal (s : State) (x : LinkId) : Option ReplyStatus :=
  if !s.technical x then some .role else if s.profile.op ≠ .idle then some .busy else none

/-- A profile request is taken: the operation begins, the last result stays (R148). -/
def State.beginProfile (s : State) (op : ProfileOp) (last : LastOp) (slot : Nat) (buffer : List Byte) : Served :=
  ({ s with profile :=
      { s.profile with op := op, lastOp := last, lastSlot := some slot, buffer := buffer } }).answer .ok
    [byte last.code, byte slot]

/-- PROFILE SAVE (R149, R150, R151). -/
def serveProfileSave (x : LinkId) (payload : List Byte) (s : State) : Served :=
  match s.profileRefusal x with
  | some st => s.refuse st
  | none =>
    match payload with
    | slot :: _ =>
      if s.profile.slotCount ≤ slot.toNat then s.refuse .range
      else if s.protect then s.refuse .writeProtected
      else s.beginProfile .saving .save slot.toNat (s.snapshot slot.toNat)
    | _ => s.refuse .range

/-- PROFILE LOAD (R149, R152). -/
def serveProfileLoad (x : LinkId) (payload : List Byte) (s : State) : Served :=
  match s.profileRefusal x with
  | some st => s.refuse st
  | none =>
    if s.sitting ≠ .setup then s.refuse .state
    else match payload with
      | slot :: _ =>
        if s.profile.slotCount ≤ slot.toNat then s.refuse .range
        else s.beginProfile .loading .load slot.toNat s.profile.buffer
      | _ => s.refuse .range

/-- PROFILE COMPARE (R149, R150, R155). -/
def serveProfileCompare (x : LinkId) (payload : List Byte) (s : State) : Served :=
  match s.profileRefusal x with
  | some st => s.refuse st
  | none =>
    match payload with
    | slot :: _ =>
      if s.profile.slotCount ≤ slot.toNat then s.refuse .range
      else s.beginProfile .comparing .compare slot.toNat (s.snapshot slot.toNat)
    | _ => s.refuse .range

/-- READ PROFILE STATUS (R148). -/
def serveReadProfileStatus (x : LinkId) (_payload : List Byte) (s : State) : Served :=
  if !s.anyRole x then s.refuse .role
  else s.answer .ok
    [byte s.profile.slotCount, byte (boolCode s.protect), byte s.profile.op.code, byte s.profile.lastOp.code,
     orFF s.profile.lastSlot, byte s.profile.lastResult.code]

/-! ## Completions -/

/-- A completion: the operation state returns to IDLE and the last result takes the outcome (R148). -/
def State.endProfile (s : State) (result : ProfileResult) : State :=
  { s with profile := { s.profile with op := .idle, lastResult := result } }

/-- SAVE_COMPLETE (R151).  With no save in flight there is no such event (log 18). -/
def execSaveComplete (s : State) : Host.Outcome State Fault Refusal :=
  .next <|
    if s.profile.op = .saving then
      ({ s with store := s.store.writeBytes (slotAddress s.opSlot) s.profile.buffer }).endProfile .done
    else s

/-- LOAD_COMPLETE (R152, R153, R156).  With no load in flight there is no such event (log 18). -/
def execLoadComplete (s : State) : Host.Outcome State Fault Refusal :=
  .next <|
    if s.profile.op = .loading then
      let img := s.slotImage s.opSlot
      let read := { s with profile := { s.profile with buffer := img } }
      if !imageSound img s.opSlot then read.endProfile .checkFault
      else if !imageFormed img then read.endProfile .formatFault
      else (read.applyImage img).endProfile .done
    else s

/-- COMPARE_COMPLETE (R155).  With no compare in flight there is no such event (log 18). -/
def execCompareComplete (s : State) : Host.Outcome State Fault Refusal :=
  .next <|
    if s.profile.op = .comparing then
      let img := s.slotImage s.opSlot
      if !imageSound img s.opSlot then s.endProfile .checkFault
      else if img = s.profile.buffer then s.endProfile .same
      else s.endProfile .differs
    else s

/-- STORE_FAULT (R147, R151, R152, R155).  A save has had at most nineteen of its twenty writes acknowledged,
and a load has read some bytes into the buffer.  With no operation in flight there is no such event (log 18). -/
def execStoreFault (g : Progress) (s : State) : Host.Outcome State Fault Refusal :=
  .next <|
    match s.profile.op with
    | .idle => s
    | .saving =>
      ({ s with store :=
          s.store.cutSave (slotAddress s.opSlot) s.profile.buffer { g with taken := min 19 g.taken } }).endProfile
        .storeFault
    | .loading =>
      let read := (s.slotImage s.opSlot).take g.taken
      ({ s with profile :=
          { s.profile with buffer := read ++ s.profile.buffer.drop read.length } }).endProfile .storeFault
    | .comparing => s.endProfile .storeFault

end Sys2Proof.Machine
end

