-- ==== Sys2Proof/Machine/Sitting.lean ====
section
/-! DEFINITION. Sitting control and the floor (chapter 7): the sitting requests and the floor requests. -/

namespace Sys2Proof.Machine

/-! ## Sitting requests -/

/-- START SITTING's event (R124). -/
def State.startSitting (s : State) (length : Nat) : State :=
  ({ s with sitting := .sitting, clock := 0, scheduled := length }).startMonitors

/-- START SITTING (R123, R124). -/
def serveStartSitting (x : LinkId) (payload : List Byte) (s : State) : Served :=
  if !s.presiding x then s.refuse .role
  else if s.loading then s.refuse .busy
  else if s.sitting ≠ .setup then s.refuse .state
  else match payload with
    | hi :: lo :: _ =>
      let t := s.startSitting (min Config.scheduleMax (number2 hi lo))
      t.answer (okOr (Config.scheduleMax < number2 hi lo))
        ([byte t.sitting.code] ++ bytes2 t.scheduled ++ bytes3 t.clock
          ++ [byte t.records.length, byte (boolCode t.overflow)])
    | _ => s.refuse .range

/-- SET SCHEDULE (R123, R125). -/
def serveSetSchedule (x : LinkId) (payload : List Byte) (s : State) : Served :=
  if !s.presiding x then s.refuse .role
  else if s.sitting = .setup then s.refuse .state
  else match payload with
    | hi :: lo :: _ =>
      let t := ({ s with scheduled := min Config.scheduleMax (number2 hi lo) }).evaluate false
        (everySeat (.only .batteryShortfall))
      t.answer (okOr (Config.scheduleMax < number2 hi lo))
        (bytes2 t.scheduled ++ bytes2 t.elapsedMinutes ++ bytes2 t.required)
    | _ => s.refuse .range

/-- RECESS (R123, R126). -/
def serveRecess (x : LinkId) (_payload : List Byte) (s : State) : Served :=
  if !s.presiding x then s.refuse .role
  else if s.sitting ≠ .sitting then s.refuse .state
  else
    let t := ({ s with sitting := .recess, floor := [] }).recessMonitors
    t.answer .ok ([byte t.sitting.code] ++ bytes3 t.clock ++ [byte s.floor.length])

/-- RESUME (R123, R127). -/
def serveResume (x : LinkId) (_payload : List Byte) (s : State) : Served :=
  if !s.presiding x then s.refuse .role
  else if s.sitting ≠ .recess then s.refuse .state
  else
    let t := ({ s with sitting := .sitting }).evaluate false
      (everySeat floorKinds)
    t.answer .ok ([byte t.sitting.code] ++ bytes3 t.clock)

/-- END SITTING (R93, R123, R128). -/
def serveEndSitting (x : LinkId) (_payload : List Byte) (s : State) : Served :=
  if !(s.presiding x || s.technical x) then s.refuse .role
  else if s.sitting = .setup then s.refuse .state
  else
    let t := ({ s with sitting := .setup, floor := [], records := [] }).endMonitors
    t.answer .ok ([byte t.sitting.code] ++ bytes3 t.clock ++ [byte s.records.length])

/-! ## Floor requests -/

/-- An entry joins the end of the floor list (R129). -/
def State.joinFloor (s : State) (n : Seat) : State := { s with floor := s.floor ++ [⟨n, s.clock⟩] }

/-- The answer of GRANT FLOOR: the seat withdrawn, then the floor list after the request (R130). -/
def State.grantAnswer (s : State) (status : ReplyStatus) (withdrawn : Option Seat) : Served :=
  s.answer status (seatByte withdrawn :: floorBytes s.floor)

/-- GRANT FLOOR (R123, R130).  R130 gives the floor list "in every case", a NOT_FOUND and a FULL among them
(log 11). -/
def serveGrantFloor (x : LinkId) (payload : List Byte) (s : State) : Served :=
  if !s.presiding x then s.refuse .role
  else if s.sitting ≠ .sitting then s.refuse .state
  else match payload with
    | seat :: _ =>
      match seatOf seat with
      | none => s.refuse .range
      | some n =>
        if !s.bound n then s.grantAnswer .notFound none
        else if s.onFloor n then s.grantAnswer .ok none
        else if s.floor.length < s.params.floorLimit then
          ((s.joinFloor n).granted n).grantAnswer .ok none
        else if s.params.floorPolicy = 0 then s.grantAnswer .full none
        else match s.floor with
          | [] => s.grantAnswer .full none
          | oldest :: rest =>
            let moved := ({ s with floor := rest }).joinFloor n
            (moved.replaced oldest.seat n).grantAnswer .ok (some oldest.seat)
    | _ => s.refuse .range

/-- WITHDRAW FLOOR (R123, R131). -/
def serveWithdrawFloor (x : LinkId) (payload : List Byte) (s : State) : Served :=
  if !s.presiding x then s.refuse .role
  else if s.sitting ≠ .sitting then s.refuse .state
  else match payload with
    | seat :: _ =>
      match seatOf seat with
      | none => s.refuse .range
      | some n =>
        if !s.onFloor n then s.refuse .notFound
        else
          let t := (s.leaveFloor n).withdrawn (· == n)
          t.answer .ok (floorBytes t.floor)
    | _ => s.refuse .range

/-- WITHDRAW ALL (R123, R131). -/
def serveWithdrawAll (x : LinkId) (_payload : List Byte) (s : State) : Served :=
  if !s.presiding x then s.refuse .role
  else if s.sitting ≠ .sitting then s.refuse .state
  else (({ s with floor := [] }).withdrawn s.onFloor).answer .ok [byte s.floor.length]

/-- One entry of READ FLOOR's reply: seat, granted-at, mute, voice, signal state (10.5). -/
def State.floorEntryBytes (s : State) (e : FloorEntry) : List Byte :=
  byte e.seat.val :: bytes3 e.grantedAt
    ++ [byte (s.seat e.seat).mute.code, byte (boolCode (s.seat e.seat).voice),
        byte (s.seat e.seat).signal.code]

/-- READ FLOOR (R123, R134); the two parameter values have 2 bytes each (10.5). -/
def serveReadFloor (x : LinkId) (_payload : List Byte) (s : State) : Served :=
  if !s.anyRole x then s.refuse .role
  else s.answer .ok
    ([byte s.sitting.code] ++ bytes2 s.params.floorLimit ++ bytes2 s.params.floorPolicy ++ [byte s.floor.length]
      ++ s.floor.flatMap s.floorEntryBytes)

end Sys2Proof.Machine
end

