-- ==== Sys2Proof/Machine/Links.lean ====
section
/-! DEFINITION. The console links (chapter 8): the taking and holding of requests, request frames, replies,
line breaks, STATUS and CLEAR LINK FLAGS. -/

namespace Sys2Proof.Machine

/-! ## The links' own requests -/

/-- STATUS: the state every desk needs, and the link's overflow notice cleared (R145). -/
def serveStatus (x : LinkId) (_payload : List Byte) (s : State) : Served :=
  if !s.anyRole x then s.refuse .role
  else
    let l := s.link x
    (s.putLink x { l with notice := false }).answer .ok
      ([byte l.role.code, byte s.sitting.code] ++ bytes3 s.clock ++ bytes2 s.scheduled
        ++ [byte s.records.length, byte (boolCode s.overflow), byte (boolCode l.notice),
            byte s.profile.op.code, byte s.profile.lastResult.code, byte l.flags.code])

/-- CLEAR LINK FLAGS (R143). -/
def serveClearLinkFlags (x : LinkId) (payload : List Byte) (s : State) : Served :=
  if !s.anyRole x then s.refuse .role
  else match payload with
    | set :: _ =>
      let flags := (s.link x).flags.clearNamed set
      (s.putLink x { s.link x with flags := flags }).answer .ok [byte flags.code]
    | _ => s.refuse .range

/-! ## Taking a request -/

/-- A request judged and carried out by the rule that owns it (R140 step 3). -/
def serve (q : Request) (x : LinkId) (payload : List Byte) (s : State) : Served :=
  match q with
  | .status => serveStatus x payload s
  | .clearLinkFlags => serveClearLinkFlags x payload s
  | .bindPack => serveBindPack x payload s
  | .unbindSeat => serveUnbindSeat x payload s
  | .setGroup => serveSetGroup x payload s
  | .readSeat => serveReadSeat x payload s
  | .readSeats => serveReadSeats x payload s
  | .readStrays => serveReadStrays x payload s
  | .restartSeats => serveRestartSeats x payload s
  | .readPorts => serveReadPorts x payload s
  | .portStart => servePortStart x payload s
  | .portStop => servePortStop x payload s
  | .clearPortFlags => serveClearPortFlags x payload s
  | .setCurve => serveSetCurve x payload s
  | .readCurve => serveReadCurve x payload s
  | .setParameter => serveSetParameter x payload s
  | .readParameter => serveReadParameter x payload s
  | .readUnseen => serveReadUnseen x payload s
  | .readWarnings => serveReadWarnings x payload s
  | .ackWarning => serveAckWarning x payload s
  | .ackGroup => serveAckGroup x payload s
  | .purgeCleared => servePurgeCleared x payload s
  | .setView => serveSetView x payload s
  | .readView => serveReadView x payload s
  | .startSitting => serveStartSitting x payload s
  | .setSchedule => serveSetSchedule x payload s
  | .recess => serveRecess x payload s
  | .resume => serveResume x payload s
  | .endSitting => serveEndSitting x payload s
  | .grantFloor => serveGrantFloor x payload s
  | .withdrawFloor => serveWithdrawFloor x payload s
  | .withdrawAll => serveWithdrawAll x payload s
  | .readFloor => serveReadFloor x payload s
  | .profileSave => serveProfileSave x payload s
  | .profileLoad => serveProfileLoad x payload s
  | .profileCompare => serveProfileCompare x payload s
  | .readProfileStatus => serveReadProfileStatus x payload s

/-- STATUS and READ PROFILE STATUS are answered during the start-up load (R140 step 1). -/
def Request.duringStartUp : Request → Bool
  | .status | .readProfileStatus => true
  | _ => false

/-- A request judged in the order of R140: the start-up load, the CODE, the owning rule. -/
def State.judgeRequest (s : State) (x : LinkId) (r : HeldRequest) : Served :=
  match requestOf r.code with
  | some q =>
    if s.startUpLoading && !q.duringStartUp then s.refuse .busy else serve q x r.payload s
  | none => if s.startUpLoading then s.refuse .busy else s.refuse .unknown

/-- A request taken: carried out whole, and its reply comes into progress (R138, R139). -/
def State.takeRequest (s : State) (x : LinkId) (r : HeldRequest) : State :=
  let served := s.judgeRequest x r
  served.state.putLink x
    { served.state.link x with reply := some (replyFrame r.code served.status served.payload) }

/-- A good request dealt with by the first case of R138 that applies: taken, held, or discarded with
OVERRUN. -/
def State.goodRequest (s : State) (x : LinkId) (r : HeldRequest) : State :=
  let l := s.link x
  match l.reply, l.hold with
  | none, _ => s.takeRequest x r
  | some _, none => s.putLink x { l with hold := some r }
  | some _, some _ => s.putLink x { l with flags := { l.flags with overrun := true } }

/-- A complete good request frame reaches a link: the link is back in HUNT and the request is dealt with
(R136, R137, R138).  A DISABLED link, or one whose line is at space after a break, receives nothing
(R105, R144). -/
def State.requestReaches (s : State) (x : LinkId) (code : Byte) (payload : List Byte) : State :=
  if (s.link x).hears then
    (s.putLink x { s.link x with assembly := .hunt }).goodRequest x ⟨code, payload⟩
  else s

/-! ## Request frames -/

/-- A complete frame, CODE to CHECK, judged by its sum (R137). -/
def State.judgeFrame (s : State) (x : LinkId) (len : Nat) (frame : List Byte) : State :=
  let l := s.link x
  if (len + byteSum frame) % 256 ≠ 0 then s.putLink x { l with flags := { l.flags with check := true } }
  else match frame with
    | code :: rest => s.goodRequest x ⟨code, rest.dropLast⟩
    | [] => s

/-- A character received on an enabled link's line (R136). -/
def State.receiveCharacter (s : State) (x : LinkId) (ch : Byte) (stopAtSpace : Bool) : State :=
  let l := s.link x
  if stopAtSpace then s.putLink x { l with assembly := .hunt, flags := { l.flags with framing := true } }
  else match l.assembly with
    | .hunt => if ch = 0xA5 then s.putLink x { l with assembly := .length } else s
    | .length =>
      if 1 ≤ ch.toNat ∧ ch.toNat ≤ 60 then s.putLink x { l with assembly := .body ch.toNat [] }
      else if ch = 0xA5 then s
      else s.putLink x { l with assembly := .hunt, flags := { l.flags with format := true } }
    | .body len got =>
      let frame := got ++ [ch]
      if len + 1 ≤ frame.length then
        (s.putLink x { l with assembly := .hunt }).judgeFrame x len frame
      else s.putLink x { l with assembly := .body len frame }

/-- The PROTECT pin sampled at a command (log 17). -/
def State.samplePin (s : State) (protect : Bool) : State := { s with protect := protect }

/-- LINK_CHARACTER (R105, R136, R137, R138, R144). -/
def execLinkCharacter (x : LinkId) (ch : Byte) (stopAtSpace protect : Bool) (s : State) :
    Host.Outcome State Fault Refusal :=
  let t := s.samplePin protect
  .next (if (t.link x).hears then t.receiveCharacter x ch stopAtSpace else t)

/-- REPLY_END (R138): a held request is taken in the same event.  With no reply in progress there is no such
event (log 18). -/
def execReplyEnd (x : LinkId) (protect : Bool) (s : State) : Host.Outcome State Fault Refusal :=
  let t := s.samplePin protect
  let l := t.link x
  .next <|
    match l.reply, l.hold with
    | none, _ => t
    | some _, none => t.putLink x { l with reply := none }
    | some _, some r => (t.putLink x { l with reply := none, hold := none }).takeRequest x r

/-! ## Line break -/

/-- The context's reset at a break (R116) with the link's own (R144). -/
def LinkState.breakReset (overflow : Bool) (l : LinkState) : LinkState :=
  { l with
    assembly := .hunt, hold := none, reply := none, view := l.default, flags := .clear, notice := overflow,
    inBreak := true }

/-- The link leaves a record's seen-by (R116). -/
def Record.unsee (x : LinkId) (r : Record) : Record := { r with seenBy := r.seenBy.set x false }

/-- LINK_BREAK (R105, R116, R144).  A line that has not returned to mark since its last break gives none. -/
def execLinkBreak (x : LinkId) (s : State) : Host.Outcome State Fault Refusal :=
  .next <|
    if (s.link x).hears then
      { s.putLink x ((s.link x).breakReset s.overflow) with records := s.records.map (Record.unsee x) }
    else s

/-- LINK_RETURN_TO_MARK (R144). -/
def execLinkReturnToMark (x : LinkId) (s : State) : Host.Outcome State Fault Refusal :=
  .next (s.putLink x { s.link x with inBreak := false })

/-! ## One command per request: a complete good request frame of that CODE -/

def execUnknownRequest (x : LinkId) (code : Byte) (payload : List Byte) (s : State) :
    Host.Outcome State Fault Refusal := .next (s.requestReaches x code payload)

def execStatus (x : LinkId) (payload : List Byte) (s : State) : Host.Outcome State Fault Refusal :=
  .next (s.requestReaches x Request.status.code payload)

def execClearLinkFlags (x : LinkId) (payload : List Byte) (s : State) : Host.Outcome State Fault Refusal :=
  .next (s.requestReaches x Request.clearLinkFlags.code payload)

def execBindPack (x : LinkId) (payload : List Byte) (s : State) : Host.Outcome State Fault Refusal :=
  .next (s.requestReaches x Request.bindPack.code payload)

def execUnbindSeat (x : LinkId) (payload : List Byte) (s : State) : Host.Outcome State Fault Refusal :=
  .next (s.requestReaches x Request.unbindSeat.code payload)

def execSetGroup (x : LinkId) (payload : List Byte) (s : State) : Host.Outcome State Fault Refusal :=
  .next (s.requestReaches x Request.setGroup.code payload)

def execReadSeat (x : LinkId) (payload : List Byte) (s : State) : Host.Outcome State Fault Refusal :=
  .next (s.requestReaches x Request.readSeat.code payload)

def execReadSeats (x : LinkId) (payload : List Byte) (s : State) : Host.Outcome State Fault Refusal :=
  .next (s.requestReaches x Request.readSeats.code payload)

def execReadStrays (x : LinkId) (payload : List Byte) (s : State) : Host.Outcome State Fault Refusal :=
  .next (s.requestReaches x Request.readStrays.code payload)

def execRestartSeats (x : LinkId) (payload : List Byte) (s : State) : Host.Outcome State Fault Refusal :=
  .next (s.requestReaches x Request.restartSeats.code payload)

def execReadPorts (x : LinkId) (payload : List Byte) (s : State) : Host.Outcome State Fault Refusal :=
  .next (s.requestReaches x Request.readPorts.code payload)

def execPortStart (x : LinkId) (payload : List Byte) (s : State) : Host.Outcome State Fault Refusal :=
  .next (s.requestReaches x Request.portStart.code payload)

def execPortStop (x : LinkId) (payload : List Byte) (s : State) : Host.Outcome State Fault Refusal :=
  .next (s.requestReaches x Request.portStop.code payload)

def execClearPortFlags (x : LinkId) (payload : List Byte) (s : State) : Host.Outcome State Fault Refusal :=
  .next (s.requestReaches x Request.clearPortFlags.code payload)

def execSetCurve (x : LinkId) (payload : List Byte) (s : State) : Host.Outcome State Fault Refusal :=
  .next (s.requestReaches x Request.setCurve.code payload)

def execReadCurve (x : LinkId) (payload : List Byte) (s : State) : Host.Outcome State Fault Refusal :=
  .next (s.requestReaches x Request.readCurve.code payload)

def execSetParameter (x : LinkId) (payload : List Byte) (s : State) : Host.Outcome State Fault Refusal :=
  .next (s.requestReaches x Request.setParameter.code payload)

def execReadParameter (x : LinkId) (payload : List Byte) (s : State) : Host.Outcome State Fault Refusal :=
  .next (s.requestReaches x Request.readParameter.code payload)

def execPurgeCleared (x : LinkId) (payload : List Byte) (s : State) : Host.Outcome State Fault Refusal :=
  .next (s.requestReaches x Request.purgeCleared.code payload)

def execReadUnseen (x : LinkId) (payload : List Byte) (s : State) : Host.Outcome State Fault Refusal :=
  .next (s.requestReaches x Request.readUnseen.code payload)

def execReadWarnings (x : LinkId) (payload : List Byte) (s : State) : Host.Outcome State Fault Refusal :=
  .next (s.requestReaches x Request.readWarnings.code payload)

def execAckWarning (x : LinkId) (payload : List Byte) (s : State) : Host.Outcome State Fault Refusal :=
  .next (s.requestReaches x Request.ackWarning.code payload)

def execAckGroup (x : LinkId) (payload : List Byte) (s : State) : Host.Outcome State Fault Refusal :=
  .next (s.requestReaches x Request.ackGroup.code payload)

def execSetView (x : LinkId) (payload : List Byte) (s : State) : Host.Outcome State Fault Refusal :=
  .next (s.requestReaches x Request.setView.code payload)

def execReadView (x : LinkId) (payload : List Byte) (s : State) : Host.Outcome State Fault Refusal :=
  .next (s.requestReaches x Request.readView.code payload)

def execStartSitting (x : LinkId) (payload : List Byte) (s : State) : Host.Outcome State Fault Refusal :=
  .next (s.requestReaches x Request.startSitting.code payload)

def execSetSchedule (x : LinkId) (payload : List Byte) (s : State) : Host.Outcome State Fault Refusal :=
  .next (s.requestReaches x Request.setSchedule.code payload)

def execRecess (x : LinkId) (payload : List Byte) (s : State) : Host.Outcome State Fault Refusal :=
  .next (s.requestReaches x Request.recess.code payload)

def execResume (x : LinkId) (payload : List Byte) (s : State) : Host.Outcome State Fault Refusal :=
  .next (s.requestReaches x Request.resume.code payload)

def execEndSitting (x : LinkId) (payload : List Byte) (s : State) : Host.Outcome State Fault Refusal :=
  .next (s.requestReaches x Request.endSitting.code payload)

def execGrantFloor (x : LinkId) (payload : List Byte) (s : State) : Host.Outcome State Fault Refusal :=
  .next (s.requestReaches x Request.grantFloor.code payload)

def execWithdrawFloor (x : LinkId) (payload : List Byte) (s : State) : Host.Outcome State Fault Refusal :=
  .next (s.requestReaches x Request.withdrawFloor.code payload)

def execWithdrawAll (x : LinkId) (payload : List Byte) (s : State) : Host.Outcome State Fault Refusal :=
  .next (s.requestReaches x Request.withdrawAll.code payload)

def execReadFloor (x : LinkId) (payload : List Byte) (s : State) : Host.Outcome State Fault Refusal :=
  .next (s.requestReaches x Request.readFloor.code payload)

def execProfileLoad (x : LinkId) (payload : List Byte) (s : State) : Host.Outcome State Fault Refusal :=
  .next (s.requestReaches x Request.profileLoad.code payload)

def execProfileCompare (x : LinkId) (payload : List Byte) (s : State) : Host.Outcome State Fault Refusal :=
  .next (s.requestReaches x Request.profileCompare.code payload)

/-- PROFILE SAVE with the PROTECT level at the request (R149 step 6). -/
def execProfileSave (x : LinkId) (payload : List Byte) (protect : Bool) (s : State) :
    Host.Outcome State Fault Refusal :=
  .next ((s.samplePin protect).requestReaches x Request.profileSave.code payload)

/-- READ PROFILE STATUS with the PROTECT level at the request (R148). -/
def execReadProfileStatus (x : LinkId) (payload : List Byte) (protect : Bool) (s : State) :
    Host.Outcome State Fault Refusal :=
  .next ((s.samplePin protect).requestReaches x Request.readProfileStatus.code payload)

/-! ## Reset -/

/-- RESET_PIN (R1, R39, R40, R42, R58, R77, R80, R103, R104, R119 to R122, R129, R147, R148, R156).  The queue,
the free values' counter and the EEPROM are no part of the part, and stay (log 22). -/
def execResetPin (straps : Straps) (protect : Bool) (g : Progress) (s : State) :
    Host.Outcome State Fault Refusal :=
  .next (State.ofStraps straps protect (s.storeAtReset g) s.freeCount s.pending)

end Sys2Proof.Machine
end

