-- ==== Sys2Proof/Machine/TimeBase.lean ====
section
/-! DEFINITION. The time base (section 7.1): the three ticks, and the parts of a tick that bring one item to
its end. -/

namespace Sys2Proof.Machine

/-! ## The quarter tick -/

/-- Every seat. -/
def everyone : Seat → Bool := fun _ => true

/-- The Condition Monitor's part of a quarter tick, one event over all seats (R59, R60, R62, R63). -/
def State.countSeats (s : State) : State := s.evaluate true (everySeat quarterKinds)

/-- The Seat Table's part and the Condition Monitor's part in the order the tick takes them (R61, R119).  The
monitor's part is one event over all seats in every order (R59), with one admission (R88; log 4).
DESIGN CHOICE (log 27), unsafe: a qualifier that enters QUALIFYING at the Seat Table's own change is counted down
by the monitor's part that follows in the same tick, R60 sparing only one that enters at the tick's evaluation. -/
def State.quarterWork (s : State) : TickOrder → State
  | .seatTableFirst => (s.advanceSeats everyone).countSeats
  | .monitorFirst => s.countSeats.advanceSeats everyone
  | .seatBySeat first =>
    (s.advanceSeats fun n => !first.getLsbD n.val).countSeats.advanceSeats fun n => first.getLsbD n.val

/-- QUARTER_TICK (R5, R59 to R63, R119). -/
def execQuarterTick (order : TickOrder) (s : State) : Host.Outcome State Fault Refusal :=
  .next { s.takeSetValues.quarterWork order with quarterPhase := (s.quarterPhase + 1) % 4 }

/-- ENTER_FADING (R5, R6): the quarter tick's advance of a HEARD seat whose silence count it brings to
FADE_TIME.  Where it would not, there is no such event (log 2). -/
def execEnterFading (n : Seat) (s : State) : Host.Outcome State Fault Refusal :=
  .next <|
    if (s.seat n).signal = .heard ∧ s.params.fadeTime ≤ bump 255 (s.seat n).silence then
      s.advanceSeats (· == n)
    else s

/-- ENTER_LOST (R5, R7): the quarter tick's advance of a FADING seat whose silence count it brings to
LOST_TIME (log 2). -/
def execEnterLost (n : Seat) (s : State) : Host.Outcome State Fault Refusal :=
  .next <|
    if (s.seat n).signal = .fading ∧ s.params.lostTime ≤ bump 255 (s.seat n).silence then
      s.advanceSeats (· == n)
    else s

/-- The verdict a quarter tick's evaluation of one (seat, kind) would give. -/
def State.tickVerdict (s : State) (n : Seat) (k : Kind) : Option Verdict :=
  if s.evaluates n then (s.judgeKind true n k (s.monitor n)).2 else none

/-- QUALIFIER_EXPIRY (R60): the quarter tick's countdown of a RESETTING qualifier that it brings to 0
(log 2). -/
def execQualifierExpiry (n : Seat) (k : Kind) (s : State) : Host.Outcome State Fault Refusal :=
  .next <|
    if resettingKind k = true ∧ (s.monitor n).state.get k = .qualifying ∧ s.tickVerdict n k = some .qualified then
      s.evaluate true (oneSeat n (.only k))
    else s

/-- ACCUMULATION_LIMIT (R62): the quarter tick's accumulation of an OPEN_NO_FLOOR qualifier that it brings to
its limit (log 2). -/
def execAccumulationLimit (n : Seat) (s : State) : Host.Outcome State Fault Refusal :=
  .next <|
    if s.tickVerdict n .openNoFloor = some .qualified then
      s.evaluate true (oneSeat n (.only .openNoFloor))
    else s

/-! ## The second tick -/

/-- Sitting Control's part of a second tick (R121). -/
def State.tickClock (s : State) : State :=
  if s.sitting = .setup then s else { s with clock := bump Config.clockMax s.clock }

/-- The blocks' parts of a second tick in the order it takes them (R63, R94, R119, R121). -/
def State.secondWork (s : State) : SecondOrder → State
  | .cwe => s.tickClock.tickWindow.tickTimers
  | .cew => s.tickClock.tickTimers.tickWindow
  | .wce => s.tickWindow.tickClock.tickTimers
  | .wec => s.tickWindow.tickTimers.tickClock
  | .ecw => s.tickTimers.tickClock.tickWindow
  | .ewc => s.tickTimers.tickWindow.tickClock

/-- SECOND_TICK (R63, R94, R119, R121). -/
def execSecondTick (order : SecondOrder) (s : State) : Host.Outcome State Fault Refusal :=
  .next { s.secondWork order with
    deviceSeconds := bump Config.deviceSecondsMax s.deviceSeconds
    minutePhase := (s.minutePhase + 1) % 60 }

/-- DROPOUT_WINDOW_END (R63, R64): the Condition Monitor's part of the second tick at which the elapsed time
reaches DROPOUT_WINDOW (log 2). -/
def execDropoutWindowEnd (s : State) : Host.Outcome State Fault Refusal :=
  .next (if s.params.dropoutWindow ≤ s.windowElapsed + 1 then s.endDropoutWindow else s)

/-- ESCALATION_EXPIRY (R94, R95, R96): the second tick's lowering of a record's timer that it brings to 0
(log 2). -/
def execEscalationExpiry (n : Seat) (k : Kind) (s : State) : Host.Outcome State Fault Refusal :=
  .next <|
    match s.record n k with
    | none => s
    | some r =>
      if s.sitting ≠ .setup ∧ r.expiresNext = true then
        s.updateRecord n k (Record.escalate s.params s.clock)
      else s

/-! ## The minute tick -/

/-- The minute tick on the seats picked: the record aged and BATTERY_SHORTFALL judged, as one change of each
seat (R50, R56, R57). -/
def State.minuteSeats (s : State) (who : Seat → Bool) : State :=
  let aged (n : Seat) (r : SeatRecord) : SeatRecord :=
    if who n then r.ageMinute s.params.estimatorWindow else r
  (s.mapSeats aged).evaluate false fun n =>
    if who n then (changedKinds (s.seat n) (aged n (s.seat n))).union (.only .batteryShortfall) else .nothing

/-- MINUTE_TICK (R50, R51, R56, R57). -/
def execMinuteTick (s : State) : Host.Outcome State Fault Refusal := .next (s.minuteSeats everyone)

/-- DRAIN_WINDOW_COMPLETE (R50, R56, R57): the minute tick of a seat whose window age it brings to W
(log 2). -/
def execDrainWindowComplete (n : Seat) (s : State) : Host.Outcome State Fault Refusal :=
  .next <|
    if (s.seat n).signal ≠ .lost ∧ (s.seat n).est.percent.isSome = true
        ∧ s.params.estimatorWindow ≤ (s.seat n).est.age + 1 then
      s.minuteSeats (· == n)
    else s

end Sys2Proof.Machine
end

