-- ==== Sys2Proof/Machine/Dispatch.lean ====
section
/-! DEFINITION. One arm per command, each one direct call of its meaning. -/

namespace Sys2Proof.Machine

def exec (i : Instr) (s : State) : Host.Outcome State Fault Refusal :=
  match i with
  | .resetPin straps protect progress => Sys2Proof.Machine.execResetPin straps protect progress s
  | .portCharacter port ch stopAtSpace => Sys2Proof.Machine.execPortCharacter port ch stopAtSpace s
  | .intakePick => Sys2Proof.Machine.execIntakePick s
  | .quarterTick order => Sys2Proof.Machine.execQuarterTick order s
  | .enterFading seat => Sys2Proof.Machine.execEnterFading seat s
  | .enterLost seat => Sys2Proof.Machine.execEnterLost seat s
  | .qualifierExpiry seat kind => Sys2Proof.Machine.execQualifierExpiry seat kind s
  | .accumulationLimit seat => Sys2Proof.Machine.execAccumulationLimit seat s
  | .secondTick order => Sys2Proof.Machine.execSecondTick order s
  | .dropoutWindowEnd => Sys2Proof.Machine.execDropoutWindowEnd s
  | .escalationExpiry seat kind => Sys2Proof.Machine.execEscalationExpiry seat kind s
  | .minuteTick => Sys2Proof.Machine.execMinuteTick s
  | .drainWindowComplete seat => Sys2Proof.Machine.execDrainWindowComplete seat s
  | .linkCharacter link ch stopAtSpace protect => Sys2Proof.Machine.execLinkCharacter link ch stopAtSpace protect s
  | .replyEnd link protect => Sys2Proof.Machine.execReplyEnd link protect s
  | .linkBreak link => Sys2Proof.Machine.execLinkBreak link s
  | .unknownRequest link code payload => Sys2Proof.Machine.execUnknownRequest link code payload s
  | .status link payload => Sys2Proof.Machine.execStatus link payload s
  | .clearLinkFlags link payload => Sys2Proof.Machine.execClearLinkFlags link payload s
  | .bindPack link payload => Sys2Proof.Machine.execBindPack link payload s
  | .unbindSeat link payload => Sys2Proof.Machine.execUnbindSeat link payload s
  | .setGroup link payload => Sys2Proof.Machine.execSetGroup link payload s
  | .readSeat link payload => Sys2Proof.Machine.execReadSeat link payload s
  | .readSeats link payload => Sys2Proof.Machine.execReadSeats link payload s
  | .readStrays link payload => Sys2Proof.Machine.execReadStrays link payload s
  | .restartSeats link payload => Sys2Proof.Machine.execRestartSeats link payload s
  | .readPorts link payload => Sys2Proof.Machine.execReadPorts link payload s
  | .portStart link payload => Sys2Proof.Machine.execPortStart link payload s
  | .portStop link payload => Sys2Proof.Machine.execPortStop link payload s
  | .clearPortFlags link payload => Sys2Proof.Machine.execClearPortFlags link payload s
  | .setCurve link payload => Sys2Proof.Machine.execSetCurve link payload s
  | .readCurve link payload => Sys2Proof.Machine.execReadCurve link payload s
  | .setParameter link payload => Sys2Proof.Machine.execSetParameter link payload s
  | .readParameter link payload => Sys2Proof.Machine.execReadParameter link payload s
  | .purgeCleared link payload => Sys2Proof.Machine.execPurgeCleared link payload s
  | .readUnseen link payload => Sys2Proof.Machine.execReadUnseen link payload s
  | .readWarnings link payload => Sys2Proof.Machine.execReadWarnings link payload s
  | .ackWarning link payload => Sys2Proof.Machine.execAckWarning link payload s
  | .ackGroup link payload => Sys2Proof.Machine.execAckGroup link payload s
  | .setView link payload => Sys2Proof.Machine.execSetView link payload s
  | .readView link payload => Sys2Proof.Machine.execReadView link payload s
  | .startSitting link payload => Sys2Proof.Machine.execStartSitting link payload s
  | .setSchedule link payload => Sys2Proof.Machine.execSetSchedule link payload s
  | .recess link payload => Sys2Proof.Machine.execRecess link payload s
  | .resume link payload => Sys2Proof.Machine.execResume link payload s
  | .endSitting link payload => Sys2Proof.Machine.execEndSitting link payload s
  | .grantFloor link payload => Sys2Proof.Machine.execGrantFloor link payload s
  | .withdrawFloor link payload => Sys2Proof.Machine.execWithdrawFloor link payload s
  | .withdrawAll link payload => Sys2Proof.Machine.execWithdrawAll link payload s
  | .readFloor link payload => Sys2Proof.Machine.execReadFloor link payload s
  | .profileSave link payload protect => Sys2Proof.Machine.execProfileSave link payload protect s
  | .profileLoad link payload => Sys2Proof.Machine.execProfileLoad link payload s
  | .profileCompare link payload => Sys2Proof.Machine.execProfileCompare link payload s
  | .readProfileStatus link payload protect => Sys2Proof.Machine.execReadProfileStatus link payload protect s
  | .saveComplete => Sys2Proof.Machine.execSaveComplete s
  | .loadComplete => Sys2Proof.Machine.execLoadComplete s
  | .compareComplete => Sys2Proof.Machine.execCompareComplete s
  | .storeFault progress => Sys2Proof.Machine.execStoreFault progress s
  | .linkReturnToMark link => Sys2Proof.Machine.execLinkReturnToMark link s

end Sys2Proof.Machine
end

