-- ==== Sys2Proof/Safety.lean ====
section
/-! DEFINITION. What a lawful state is: the laws that the spec states over the whole part, in the terms the
statements use, and the timing of the ticks that the model leaves to the sender. -/

namespace Sys2Proof.Machine

/-! ## Parameters and time -/

/-- Every parameter in its range, BATTERY_CRIT_PCT below BATTERY_LOW_PCT, LOST_TIME above FADE_TIME (R77). -/
abbrev Params.lawful (p : Params) : Prop :=
  (∀ n ∈ parameterNumbers, (paramRange n).1 ≤ p.get n ∧ p.get n ≤ (paramRange n).2)
    ∧ p.batteryCritPct < p.batteryLowPct ∧ p.fadeTime < p.lostTime

/-- The counters of the time base, the sitting clock, the schedule and the dropout window in their ranges
(R58, R119, R121, R122). -/
abbrev State.timeLaw (s : State) : Prop :=
  s.quarterPhase < 4 ∧ s.minutePhase < 60 ∧ s.deviceSeconds ≤ Config.deviceSecondsMax
    ∧ s.clock ≤ Config.clockMax ∧ s.scheduled ≤ Config.scheduleMax ∧ s.windowElapsed < s.params.dropoutWindow

/-! ## Intake -/

/-- A report in the ranges of R23. -/
abbrev Report.lawful (r : Report) : Prop := validPack r.pack = true ∧ r.level ≤ 100 ∧ r.voltage ≤ 4095

/-- A port assembly that can still grow: BODY holds fewer than ten characters (R21). -/
def PortAssembly.lawful : PortAssembly → Bool
  | .body got => got.length < 10
  | .hunt | .length => true

/-- A FIFO of at most 4 reports in range, empty while the port is STOPPED (R23, R24, R25). -/
abbrev PortState.lawful (t : PortState) : Prop :=
  t.fifo.length ≤ Config.fifoCapacity ∧ (∀ r ∈ t.fifo, r.lawful) ∧ (t.started = false → t.fifo = [])
    ∧ t.assembly.lawful = true

abbrev State.intakeLaw (s : State) : Prop := ∀ p : Port, (s.port p).lawful

/-! ## Seats -/

/-- An estimator record: S, p and w0 present together, p read from the curve, R computed from p, D and W
(R40, R53). -/
def EstRecord.lawful (curve : Vector Breakpoint 8) (w : Nat) (e : EstRecord) : Bool :=
  match e.store, e.percent, e.windowStart with
  | some store, some p, some start =>
    store ≤ 32760 && p == curvePercent curve (store / 8) && start ≤ 100 && e.age < w && e.rise ≤ 1
      && e.drain.all (· ≤ 100) && e.minutes == minutesLeft p e.drain w
  | none, none, none => e == .restarted
  | _, _, _ => false

/-- The sample level of an OPEN sequence is at most 100, and a sequence is OPEN in HEARD alone (R1, R6). -/
def SeatRecord.sequenceLawful (r : SeatRecord) : Bool :=
  match r.seq with
  | .opened _ level _ => level ≤ 100 && r.signal == .heard
  | .closed _ | .absent => true

/-- A seat record in the ranges of R1, with the fields its signal state leaves it (R2, R3, R7, R17). -/
abbrev SeatRecord.lawful (curve : Vector Breakpoint 8) (w : Nat) (r : SeatRecord) : Prop :=
  r.group ≤ 15 ∧ r.silence ≤ 255 ∧ r.dropouts ≤ 255 ∧ (∀ a ∈ r.levelStore, a ≤ 400)
    ∧ r.sequenceLawful = true ∧ r.est.lawful curve w = true
    ∧ (r.pack = none ↔ r.signal = .noPack)
    ∧ (r.pack = none → r = { SeatRecord.reset with group := r.group })
    ∧ (r.signal = .seeking → r.seq = .absent ∧ r.levelStore = none ∧ r.est = .restarted)
    ∧ (r.signal = .seeking ∨ r.signal = .lost → r.mute = .unknown ∧ r.rawMute = none ∧ r.voice = false)

abbrev State.seatLaw (s : State) : Prop :=
  ∀ n : Seat, (s.seat n).lawful s.curve s.params.estimatorWindow

/-- The pack binding map never binds one pack to two seats, and binds valid packs alone (R9, R13). -/
abbrev State.bindingLaw (s : State) : Prop :=
  (∀ n m : Seat, (s.seat n).pack = (s.seat m).pack → (s.seat n).pack ≠ none → n = m)
    ∧ ∀ n : Seat, ∀ p ∈ (s.seat n).pack, validPack p = true

/-- The stray list: at most 8 entries, no pack twice, none of a bound pack (R9, R11). -/
abbrev State.strayLaw (s : State) : Prop :=
  s.strays.length ≤ Config.strayCapacity ∧ (s.strays.map Stray.pack).Nodup
    ∧ ∀ t ∈ s.strays, ∀ n : Seat, (s.seat n).pack ≠ some t.pack

/-- A stray entry's figures in the ranges of R11. -/
abbrev State.strayRanges (s : State) : Prop :=
  ∀ t ∈ s.strays, t.level ≤ 100 ∧ 1 ≤ t.count ∧ t.count ≤ 255 ∧ t.heardAt ≤ s.deviceSeconds

/-! ## The floor -/

/-- The floor list never holds more seats than FLOOR_LIMIT nor one seat twice, and it is empty whenever the
sitting state is SETUP or RECESS (R129); the seats it holds are bound (R3, R130). -/
abbrev State.floorLaw (s : State) : Prop :=
  s.floor.length ≤ s.params.floorLimit ∧ (s.floor.map FloorEntry.seat).Nodup
    ∧ (s.sitting ≠ .sitting → s.floor = [])
    ∧ (∀ e ∈ s.floor, s.bound e.seat = true ∧ e.grantedAt ≤ s.clock)

/-! ## Qualifiers and the Warning List -/

/-- At most 48 records, none for the (seat, kind) of another (R80). -/
abbrev State.listLaw (s : State) : Prop :=
  s.records.length ≤ Config.listCapacity ∧ (s.records.map fun r => (r.seat, r.kind)).Nodup

/-- No (seat, kind) is at the same time marked due and in the list (R75), and a due mark is outstanding only
while the list holds 48 records (R91). -/
abbrev State.dueLaw (s : State) : Prop :=
  (∀ r ∈ s.records, s.isDue r.seat r.kind = false)
    ∧ (s.overflow = true → s.records.length = Config.listCapacity)

/-- Whenever the sitting state is SETUP, the list is empty, no due mark is outstanding (R93), and every
qualifier is QUIET (R70). -/
abbrev State.setupLaw (s : State) : Prop :=
  s.sitting = .setup → s.records = [] ∧ ∀ n : Seat, ∀ k ∈ allKinds,
    s.isDue n k = false ∧ (s.monitor n).state.get k = .quiet

/-- A record is active (ACTIVE_UNACKED or ACTIVE_ACKED). -/
def Record.active (r : Record) : Bool := r.state != .clearedUnacked

/-- A (seat, kind) is QUALIFIED exactly while it has an active record or a due mark (R58, R75, R76, R86). -/
abbrev State.qualifiedLaw (s : State) : Prop :=
  ∀ n : Seat, ∀ k ∈ allKinds, (s.monitor n).state.get k = .qualified ↔
    (s.isDue n k = true ∨ ∃ r ∈ s.records, r.isFor n k = true ∧ r.active = true)

/-- The OPEN_NO_FLOOR present value is 0 outside SITTING and while the seat is not bound: it accumulates at the
quarter ticks of SITTING alone, and RECESS, END SITTING and a release return it to 0 (R62, R71, R72, R74). -/
abbrev State.openLaw (s : State) : Prop :=
  ∀ n : Seat, s.sitting ≠ .sitting ∨ s.bound n = false → (s.monitor n).openPv = 0

/-- A seat without a bound pack has no active record and no due mark (R86), and QUIET qualifiers (R58). -/
abbrev State.unboundLaw (s : State) : Prop :=
  ∀ n : Seat, (s.seat n).pack = none →
    (∀ r ∈ s.records, r.seat = n → r.active = false)
      ∧ ∀ k ∈ allKinds, s.isDue n k = false ∧ (s.monitor n).state.get k = .quiet

/-- What one seat's qualifiers hold: present values in range, grade with BATTERY QUALIFIED, immediate and
counting kinds never QUALIFYING (R58, R66). -/
abbrev SeatMonitor.lawful (m : SeatMonitor) : Prop :=
  m.batteryPv ≤ 255 ∧ m.mutedPv ≤ 255 ∧ m.weakPv ≤ 255 ∧ m.openPv ≤ Config.openPvMax
    ∧ (m.grade.isSome = true ↔ m.state.battery = .qualified)
    ∧ m.state.batteryShortfall ≠ .qualifying ∧ m.state.dropouts ≠ .qualifying ∧ m.state.signalLost ≠ .qualifying

abbrev State.monitorLaw (s : State) : Prop := ∀ n : Seat, (s.monitor n).lawful

/-- The kinds that follow their conditions: MUTED_SPEECH and OPEN_NO_FLOOR leave QUIET in SITTING exactly
while their conditions hold (R67, R68, R71), SIGNAL_LOST is QUALIFIED exactly while a seat is LOST (R65), and
BATTERY has a held condition exactly in LOST (R66), all outside SETUP (R70). -/
abbrev State.conditionLaw (s : State) : Prop :=
  ∀ n : Seat,
    ((s.monitor n).state.mutedSpeech ≠ .quiet ↔ s.sitting = .sitting ∧ s.mutedSpeechHolds n = true)
      ∧ ((s.monitor n).state.openNoFloor ≠ .quiet ↔ s.sitting = .sitting ∧ s.openNoFloorHolds n = true)
      ∧ ((s.monitor n).state.signalLost = .qualified ↔ s.sitting ≠ .setup ∧ (s.seat n).signal = .lost)
      ∧ ((s.monitor n).held.isSome = true ↔ s.sitting ≠ .setup ∧ (s.seat n).signal = .lost)

/-- The link is in no set of a record's links while it is DISABLED (R105). -/
abbrev State.disabledUnseen (s : State) (r : Record) : Prop :=
  ∀ x ∈ allLinks, (s.link x).enabled = false → r.seenBy.get x = false ∧ r.ackedBy.get x = false

/-- A record's fields in the ranges of R81, its grade and roles as R82 allows, its timer running only while it
is ACTIVE_UNACKED (R94). -/
abbrev State.recordLaw (s : State) : Prop :=
  ∀ r ∈ s.records, r.raisedAt ≤ r.changedAt ∧ r.changedAt ≤ s.clock ∧ r.repeats ≤ 255 ∧ r.escalations ≤ r.severity.code
    ∧ (r.grade.isSome = true ↔ r.kind = .battery) ∧ (r.grade = some .critical → r.severity = .urgent)
    ∧ (r.roles = .wide ∨ r.roles = initialRoles r.kind) ∧ (r.escalations ≠ 0 → r.roles = .wide)
    ∧ (∀ t ∈ r.escalation, 1 ≤ t ∧ t ≤ 3600) ∧ (r.escalation ≠ none → r.state = .activeUnacked)
    ∧ s.disabledUnseen r

/-! ## Links and the Profile Store -/

/-- A request assembly that can still grow (R136). -/
def LinkAssembly.lawful : LinkAssembly → Bool
  | .body len got => 1 ≤ len && len ≤ 60 && got.length ≤ len
  | .hunt | .length => true

abbrev View.lawful (v : View) : Prop := v.base ≤ 127 ∧ v.limit ≤ 127

/-- One link: its view and default in range (R103); a request held only behind a reply (R138); nothing in
progress after a break (R144) or on a DISABLED link (R105). -/
abbrev LinkState.lawful (l : LinkState) : Prop :=
  l.view.lawful ∧ l.default.lawful ∧ l.assembly.lawful = true ∧ (l.hold ≠ none → l.reply ≠ none)
    ∧ (l.hears = false → l.assembly = .hunt ∧ l.reply = none ∧ l.hold = none ∧ l.flags = .clear)
    ∧ (l.enabled = false → l.notice = false ∧ l.inBreak = false)

abbrev State.linkLaw (s : State) : Prop := ∀ x ∈ allLinks, (s.link x).lawful

/-- The profile controller: a slot below the slot count while an operation is in flight, a whole image in the
buffer of a save or compare (R148, R149, R150), and SETUP while a load is in flight (R149, R153). -/
abbrev State.profileLaw (s : State) : Prop :=
  (s.profile.slotCount = 0 ∨ s.profile.slotCount = 1 ∨ s.profile.slotCount = 2 ∨ s.profile.slotCount = 4)
    ∧ (s.profile.op ≠ .idle → ∃ slot ∈ s.profile.lastSlot, slot < s.profile.slotCount)
    ∧ (s.profile.op = .saving ∨ s.profile.op = .comparing → s.profile.buffer.length = Config.imageBytes)
    ∧ (s.profile.op = .loading → s.sitting = .setup)

/-! ## The vocabulary of the statements about requests -/

/-- The link, CODE and payload of a request command (10.5). -/
def asRequest : Instr → Option (LinkId × Byte × List Byte)
  | .unknownRequest x code p => some (x, code, p)
  | .status x p => some (x, 0x01, p)
  | .clearLinkFlags x p => some (x, 0x02, p)
  | .bindPack x p => some (x, 0x03, p)
  | .unbindSeat x p => some (x, 0x04, p)
  | .setGroup x p => some (x, 0x05, p)
  | .readSeat x p => some (x, 0x06, p)
  | .readSeats x p => some (x, 0x07, p)
  | .readStrays x p => some (x, 0x08, p)
  | .restartSeats x p => some (x, 0x09, p)
  | .readPorts x p => some (x, 0x0A, p)
  | .portStart x p => some (x, 0x0B, p)
  | .portStop x p => some (x, 0x0C, p)
  | .clearPortFlags x p => some (x, 0x0D, p)
  | .setCurve x p => some (x, 0x0E, p)
  | .readCurve x p => some (x, 0x0F, p)
  | .setParameter x p => some (x, 0x10, p)
  | .readParameter x p => some (x, 0x11, p)
  | .readUnseen x p => some (x, 0x12, p)
  | .readWarnings x p => some (x, 0x13, p)
  | .ackWarning x p => some (x, 0x14, p)
  | .ackGroup x p => some (x, 0x15, p)
  | .purgeCleared x p => some (x, 0x16, p)
  | .setView x p => some (x, 0x17, p)
  | .readView x p => some (x, 0x18, p)
  | .startSitting x p => some (x, 0x19, p)
  | .setSchedule x p => some (x, 0x1A, p)
  | .recess x p => some (x, 0x1B, p)
  | .resume x p => some (x, 0x1C, p)
  | .endSitting x p => some (x, 0x1D, p)
  | .grantFloor x p => some (x, 0x1E, p)
  | .withdrawFloor x p => some (x, 0x1F, p)
  | .withdrawAll x p => some (x, 0x20, p)
  | .readFloor x p => some (x, 0x21, p)
  | .profileSave x p _ => some (x, 0x22, p)
  | .profileLoad x p => some (x, 0x23, p)
  | .profileCompare x p => some (x, 0x24, p)
  | .readProfileStatus x p _ => some (x, 0x25, p)
  | .resetPin _ _ _ | .portCharacter _ _ _ | .intakePick | .quarterTick _ | .enterFading _ | .enterLost _
  | .qualifierExpiry _ _ | .accumulationLimit _ | .secondTick _ | .dropoutWindowEnd | .escalationExpiry _ _
  | .minuteTick | .drainWindowComplete _ | .linkCharacter _ _ _ _ | .replyEnd _ _ | .linkBreak _
  | .saveComplete | .loadComplete | .compareComplete | .storeFault _ | .linkReturnToMark _ => none

/-- The level of the PROTECT pin that the state holds after a request command reaches its link: the operand of the
two that may sample it, and the level held before for every other (log 17). -/
def State.protectAfter (s : State) : Instr → Bool
  | .profileSave _ _ protect | .readProfileStatus _ _ protect => protect
  | _ => s.protect

/-- The roles a CODE is taken from (the table of R140). -/
def roleAdmits (code : Byte) (role : Role) : Bool :=
  if code ∈ ([0x03, 0x04, 0x05, 0x09, 0x0B, 0x0C, 0x0D, 0x0E, 0x10, 0x16, 0x22, 0x23, 0x24] : List Byte) then
    role == .technical
  else if code ∈ ([0x19, 0x1A, 0x1B, 0x1C, 0x1E, 0x1F, 0x20] : List Byte) then role == .presiding
  else if code ∈ ([0x14, 0x15, 0x1D] : List Byte) then role == .presiding || role == .technical
  else role != .disabled

/-- A CODE is answered BUSY: a request whose effects a load in flight would overwrite, or START SITTING, while
one is in flight (R12, R44, R78, R123), and a profile operation while any is (R149 step 3). -/
def State.busyFor (s : State) (code : Byte) : Bool :=
  (s.loading && code ∈ ([0x03, 0x04, 0x05, 0x09, 0x0E, 0x10, 0x19] : List Byte))
    || (s.profile.op != .idle && code ∈ ([0x22, 0x23, 0x24] : List Byte))

/-- The sitting states a CODE is taken in (the table of R140). -/
def sittingAdmits (code : Byte) (state : Sitting) : Bool :=
  if code ∈ ([0x09, 0x0E, 0x19, 0x23] : List Byte) then state == .setup
  else if code ∈ ([0x1B, 0x1E, 0x1F, 0x20] : List Byte) then state == .sitting
  else if code = 0x1C then state == .recess
  else if code ∈ ([0x1A, 0x1D] : List Byte) then state != .setup
  else true

/-- The length of a CODE's payload layout (10.5). -/
def layoutLength (code : Byte) : Nat :=
  if code ∈ ([0x02, 0x04, 0x06, 0x0B, 0x0C, 0x11, 0x13, 0x1E, 0x1F, 0x22, 0x23, 0x24] : List Byte) then 1
  else if code ∈ ([0x0D, 0x14, 0x19, 0x1A] : List Byte) then 2
  else if code ∈ ([0x05, 0x07, 0x10, 0x15] : List Byte) then 3
  else if code = 0x03 then 5
  else if code = 0x17 then 7
  else if code = 0x0E then 24
  else 0

/-- The first payload byte of a CODE is outside its range: an empty port set (R27), a port above 7 (R28), a
parameter number of 0 or above 21 (R78), or a seat above 127 (R13, R15, R114, R130, R131). -/
def outsideRange (code first : Byte) : Bool :=
  (code ∈ ([0x0B, 0x0C] : List Byte) && first == 0) || (code == 0x0D && 7 < first.toNat)
    || (code == 0x10 && (first == 0 || 21 < first.toNat))
    || (code ∈ ([0x03, 0x04, 0x14, 0x1E, 0x1F] : List Byte) && 127 < first.toNat)

/-- A request of the link is taken in the event in which it arrives: characters reach the link (R105, R144),
no reply is in progress (R138), and no start-up load is in flight (R140). -/
abbrev State.ready (s : State) (x : LinkId) : Prop :=
  (s.link x).hears = true ∧ (s.link x).reply = none ∧ s.startUpLoading = false

/-- The link with its assembly back in HUNT and a reply in progress (R136, R138, R139). -/
def LinkState.replying (l : LinkState) (code : Byte) (st : ReplyStatus) (payload : List Byte) : LinkState :=
  { l with assembly := .hunt, reply := some (replyFrame code st payload) }

/-- The state with the reply to a request in progress on its link, and nothing else of it changed. -/
def State.replied (s : State) (x : LinkId) (code : Byte) (st : ReplyStatus) (payload : List Byte) : State :=
  s.putLink x ((s.link x).replying code st payload)

/-- The three links of `t` are those of `s` with the reply in progress on link `x`, but for the overflow
notices, which an event may make pending (R109). -/
abbrev State.repliesIn (s t : State) (x : LinkId) (code : Byte) (st : ReplyStatus) (payload : List Byte) : Prop :=
  ∀ y : LinkId, t.link y = { (s.replied x code st payload).link y with notice := (t.link y).notice }

/-- How many places port `q` stands behind the last served port in the arbiter's order: 0 for last served + 1,
7 for the last served port itself (R30). -/
def pickDistance (last q : Port) : Nat := (q.val + 7 - last.val) % 8

/-- What one quarter tick makes of a seat, field by field: the silence count rises, a HEARD seat silent for
FADE_TIME closes its sequence and fades, and a fading one silent for LOST_TIME is lost (R5, R6, R7). -/
def tickedSeat (p : Params) (r : SeatRecord) : SeatRecord :=
  let silence := min 255 (r.silence + 1)
  let fades := r.signal == .heard && p.fadeTime ≤ silence
  let loses := (r.signal == .fading || fades) && p.lostTime ≤ silence
  if r.signal = .noPack then r
  else { r with
    silence := silence
    signal := if loses then .lost else if fades then .fading else r.signal
    seq := match fades, r.seq with
      | true, .opened number _ _ => .closed number
      | _, q => q
    levelStore := match fades, r.seq, r.levelStore with
      | true, .opened _ level _, none => some (4 * level)
      | true, .opened _ level _, some a => some (a - a / 4 + level)
      | _, _, a => a
    mute := if loses then .unknown else r.mute
    rawMute := if loses then none else r.rawMute
    voice := !loses && r.voice }

/-- What one minute tick makes of an estimator record that is aged (R50), with R recomputed as R53 requires. -/
def agedRecord (w : Nat) (e : EstRecord) : EstRecord :=
  match e.percent with
  | none => e
  | some p =>
    if e.age + 1 < w then { e with age := e.age + 1 }
    else
      let drain := e.windowStart.getD p - p
      { e with
        age := 0
        windowStart := some p
        drain := some drain
        minutes := some (if drain = 0 then 600 else min 600 (p * w / drain)) }

/-- What a qualified outcome for a (seat, kind) does to the list: a raise at its end or a due mark where there
is no record (R83, R75), a re-raise where the record is CLEARED_UNACKED (R84), and nothing otherwise. -/
def State.qualifiedReaches (s t : State) (n : Seat) (k : Kind) (grade : Option Grade) (detail : Option Nat) :
    Prop :=
  match s.record n k with
  | none =>
    if s.records.length < 48 then
      t.records = s.records ++ [newRecord s.params s.clock n k grade detail] ∧ t.isDue n k = s.isDue n k
    else t.records = s.records ∧ t.isDue n k = true
  | some r =>
    t.isDue n k = s.isDue n k ∧
      t.records = if r.state = .clearedUnacked then
          s.records.map fun q =>
            if q.seat = n ∧ q.kind = k then q.reRaise s.params s.clock grade detail else q
        else s.records

/-- A cleared outcome of an ACTIVE_ACKED record of a kind other than OPEN_NO_FLOOR: it takes the record out of
the list and no present value with it (R74, R86). -/
abbrev State.clearsAcked (s : State) (o : HandedOutcome) : Prop :=
  o.verdict = .cleared ∧ o.kind ≠ .openNoFloor ∧ ∃ r ∈ s.record o.seat o.kind, r.state = .activeAcked

/-- What a cleared outcome for a (seat, kind) makes of its record, whatever else the event does to the list: an
ACTIVE_UNACKED one becomes CLEARED_UNACKED and an ACTIVE_ACKED one leaves (R86), and a due mark is dropped
(R76). -/
abbrev State.clearedReaches (s t : State) (n : Seat) (k : Kind) : Prop :=
  t.isDue n k = false ∧ t.record n k = match s.record n k with
    | none => none
    | some r =>
      if r.state = .activeUnacked then
        some { r with
          state := .clearedUnacked, seenBy := ⟨false, false, false⟩, escalation := none, changedAt := s.clock }
      else none

/-- A warning that an event has qualified is in the list as an ACTIVE_UNACKED record with the detail handed, or
waits as a due mark (R83, R84, R75). -/
abbrev State.warned (t : State) (n : Seat) (k : Kind) (detail : Option Nat) : Prop :=
  t.isDue n k = true ∨ ∃ r ∈ t.record n k, r.state = .activeUnacked ∧ r.detail = detail

/-- The seats' qualifiers after records have left the list by a request: the OPEN_NO_FLOOR present value of each seat
whose OPEN_NO_FLOOR record is among them is 0 (R68, R74), and but for due marks nothing else has changed. -/
abbrev State.presentValuesReturned (s t : State) (gone : List Record) : Prop :=
  ∀ n : Seat, t.monitor n = { s.monitor n with
    due := (t.monitor n).due
    openPv := if gone.any (fun r => r.seat == n && r.kind == .openNoFloor) then 0 else (s.monitor n).openPv }

/-- What a withdrawal of the floor makes of one seat's qualifiers (R73): MUTED_SPEECH is QUIET, its clearing handed
to the list, and OPEN_NO_FLOOR counts from its held present value if mute is OPEN, or is QUALIFIED at once where that
stands at the limit; no other qualifier moves. -/
abbrev State.withdrawnFrom (s t : State) (n : Seat) : Prop :=
  t.monitor n = { s.monitor n with
      due := (t.monitor n).due
      state := { (s.monitor n).state with
        mutedSpeech := .quiet
        openNoFloor := if (s.seat n).mute = .opened then
            (if 4 * s.params.openNoFloorLimit ≤ (s.monitor n).openPv then .qualified else .qualifying)
          else .quiet }
      mutedPv := if (s.monitor n).state.mutedSpeech = .quiet then (s.monitor n).mutedPv
        else s.params.mutedSpeechQualify }
    ∧ ((s.monitor n).state.mutedSpeech = .qualified → s.clearedReaches t n .mutedSpeech)
    ∧ ((t.monitor n).state.openNoFloor = .qualified → t.warned n .openNoFloor (some ((s.monitor n).openPv / 4)))

/-- The state and present value of a RESETTING qualifier after an event that is no quarter tick: entry where the
condition holds, return where it has ceased to hold, clearing where the clear condition holds (R60). -/
def eventMove (setValue : Nat) (holds clears : Bool) : QState → Nat → QState × Nat
  | .quiet, pv =>
    if holds then (if setValue = 0 then (.qualified, 0) else (.qualifying, setValue)) else (.quiet, pv)
  | .qualifying, pv => if holds then (.qualifying, pv) else (.quiet, setValue)
  | .qualified, pv => if clears then (.quiet, setValue) else (.qualified, pv)

/-- The state and present value of a QUALIFYING qualifier whose condition holds through a quarter tick (R60). -/
def countedDown (setValue pv : Nat) : QState × Nat :=
  (if min pv setValue ≤ 1 then .qualified else .qualifying, min pv setValue - 1)

/-- The due marks in the order of their admission: seat by seat, each seat's in kind order (R89). -/
def State.dueMarks (s : State) : List (Seat × Kind) :=
  (List.finRange 128).flatMap fun n => (allKinds.filter (s.isDue n)).map fun k => (n, k)

/-- The records that due marks are admitted as (R90). -/
def State.admitted (s : State) (marks : List (Seat × Kind)) : List Record :=
  marks.map fun m => newRecord s.params s.clock m.1 m.2 (gradeOf m.2 (s.monitor m.1))
    (detailOf m.2 (s.seat m.1) (s.monitor m.1))

/-- A record after a second tick outside SETUP that lowers the timers at clock `now`, 1 being the last second of
a timer (R94). -/
def Record.lowered (p : Params) (now : Nat) (r : Record) : Record :=
  match r.state, r.escalation with
  | .activeUnacked, some left =>
    if left ≤ 1 then r.escalate p now else { r with escalation := some (left - 1) }
  | _, _ => r

/-- Besides the qualifiers, the list and the overflow notices, nothing of `t` differs from `s`. -/
def State.onlyMonitorAndList (s t : State) : Prop :=
  t = { s with monitors := t.monitors, records := t.records, links := t.links }
    ∧ ∀ x : LinkId, t.link x = { s.link x with notice := (t.link x).notice }

/-! ## The whole -/

/-- A lawful state: every law the spec states over the whole part. -/
structure State.lawful (s : State) : Prop where
  params : s.params.lawful
  time : s.timeLaw
  intake : s.intakeLaw
  curve : curveValid s.curve = true
  seats : s.seatLaw
  binding : s.bindingLaw
  strays : s.strayLaw
  strayRanges : s.strayRanges
  floor : s.floorLaw
  list : s.listLaw
  due : s.dueLaw
  setup : s.setupLaw
  qualified : s.qualifiedLaw
  unbound : s.unboundLaw
  monitor : s.monitorLaw
  condition : s.conditionLaw
  openValues : s.openLaw
  records : s.recordLaw
  links : s.linkLaw
  profile : s.profileLaw
  store : s.store.wf = true

/-! ## Timing left to the sender (log 3) -/

/-- Where a run of commands stands in the time base of R119: how many instants with ticks have begun since the
rise of RESET, one every 3686400 REFCLK periods, and which ticks of the latest one are still to be taken. -/
structure Timing where
  instants : Nat
  quarter : Bool
  second : Bool
  minute : Bool
  deriving DecidableEq, Repr

/-- Every tick of the first `n` instants has been taken. -/
def Timing.between (n : Nat) : Timing := ⟨n, false, false, false⟩

/-- The instant a next tick belongs to: the latest one while ticks of it are still to be taken, else the one
after it, at which a quarter tick falls, with every fourth a second tick, and with every sixtieth second tick a
minute tick (R119). -/
def Timing.present (t : Timing) : Timing :=
  if t.quarter || t.second || t.minute then t
  else ⟨t.instants + 1, true, (t.instants + 1) % 4 == 0, (t.instants + 1) % 240 == 0⟩

/-- A command in the time base: a tick that falls now and has not been taken, in any order at one instant
(R56, R119); the rise of RESET, from which the count begins; or a command that is no tick. -/
def Timing.after (t : Timing) : Instr → Option Timing
  | .quarterTick _ => if t.present.quarter then some { t.present with quarter := false } else none
  | .secondTick _ => if t.present.second then some { t.present with second := false } else none
  | .minuteTick => if t.present.minute then some { t.present with minute := false } else none
  | .resetPin _ _ _ => some (.between 0)
  | _ => some t

/-- A list of commands in the time base; none where a tick stands where none falls. -/
def Timing.afterAll (t : Timing) : List Instr → Option Timing
  | [] => some t
  | c :: rest =>
    match t.after c with
    | none => none
    | some u => u.afterAll rest

/-- The commands of a list keep the time base of R119. -/
def wellTimed (t : Timing) (commands : List Instr) : Bool := (t.afterAll commands).isSome

/-- The state that a list of commands leaves, one after another. -/
def State.runs : State → List Instr → State → Prop
  | s, [], t => t = s
  | s, c :: rest, t => ∃ u : State, exec c s = .next u ∧ u.runs rest t

end Sys2Proof.Machine
end

