-- ==== Sys2Proof/Certificates/Slice0/Obligations.lean ====
section
/-! DEFINITION. The statements about the VD2440 that the provers are asked to settle.  "log n" is
notes/assumptions/n.md. -/

open Sys2Proof Sys2Proof.Machine

/-! ## The queue of commands -/

/-- One step runs the command at the front of the queue on the state with the queue's rest, and on an empty
queue the block idles (the model's choice, log 1). -/
def Obligations.StepRunsTheFrontCommand : Prop :=
  (∀ (c : Instr) (rest : List Instr) (s : State),
      step { s with pending := c :: rest } = exec c { s with pending := rest })
    ∧ ∀ s : State, s.pending = [] → step s = .next s

/-- Every command completes, whatever its operands and the state: the part answers a bad frame with a flag and a
bad request with a status code (R22, R137, R141).  That a command without an event of the spec's completes too is
the model's choice (log 2, log 18), and so is that every command, RESET_PIN among them, leaves the queue as it is
(log 1, log 22). -/
def Obligations.EveryCommandCompletes : Prop :=
  ∀ (c : Instr) (s : State), ∃ t : State, exec c s = .next t ∧ t.pending = s.pending

/-! ## Reset -/

/-- RESET_PIN brings the seats, the estimators, the intake, the monitor and the list to the reset column of
R1, R11, R39, R40, R42, R58 and R80, whatever the state before. -/
def Obligations.ResetPinClearsTheTables : Prop :=
  ∀ (straps : Straps) (protect : Bool) (g : Progress) (s : State), ∃ t : State,
    exec (.resetPin straps protect g) s = .next t
      ∧ (∀ n : Seat, t.seat n = ⟨0, none, .noPack, 0, .absent, none, .unknown, none, false, 0,
          ⟨none, none, 0, none, 0, none, none⟩⟩)
      ∧ t.strays = []
      ∧ (∀ p : Port, t.port p = ⟨true, .hunt, [], ⟨false, false, false, false⟩⟩) ∧ t.lastServed = 7
      ∧ t.curve.toList = [⟨2000, 0⟩, ⟨2180, 5⟩, ⟨2300, 15⟩, ⟨2380, 30⟩, ⟨2440, 50⟩, ⟨2500, 70⟩, ⟨2580, 90⟩,
          ⟨2700, 100⟩]
      ∧ parameterNumbers.map t.params.get
          = [20, 8, 5, 32, 20, 30, 10, 12, 300, 25, 6, 16, 60, 8, 4, 20, 120, 60, 30, 2, 0]
      ∧ (∀ n : Seat, ∀ k : Kind, (t.monitor n).state.get k = .quiet ∧ t.isDue n k = false)
      ∧ (∀ n : Seat, (t.monitor n).batteryPv = 32 ∧ (t.monitor n).mutedPv = 12 ∧ (t.monitor n).weakPv = 16
          ∧ (t.monitor n).openPv = 0 ∧ (t.monitor n).grade = none ∧ (t.monitor n).held = none
          ∧ (t.monitor n).windowMark = false)
      ∧ t.windowElapsed = 0 ∧ t.records = [] ∧ t.overflow = false

/-- RESET_PIN samples the straps and brings the links, Sitting Control, the time base and the profile
controller to their reset values (R103, R104, R119, R120, R121, R122, R129, R147, R148), begins the start-up
load where LOADBOOT is high and a store is fitted, and leaves the slots as they are unless a save was in
flight (R156).  Three clauses are the model's choice: that the queue and the free values' counter stay (log 22),
that a break is over, so that `inBreak` is false, where R144 ends one at the return to mark alone (log 28), and
that the level of PROTECT sampled at the reset is kept in `protect` (log 17). -/
def Obligations.ResetPinSamplesTheStraps : Prop :=
  ∀ (straps : Straps) (protect : Bool) (g : Progress) (s : State), ∃ t : State,
    exec (.resetPin straps protect g) s = .next t
      ∧ (∀ x : LinkId, (t.link x).view = (t.link x).default ∧ (t.link x).notice = false
          ∧ (t.link x).flags = ⟨false, false, false, false⟩ ∧ (t.link x).assembly = .hunt
          ∧ (t.link x).reply = none ∧ (t.link x).hold = none ∧ (t.link x).inBreak = false
          ∧ t.attention x = false
          ∧ (t.link x).default = ⟨0, 127, ⟨true, true, true⟩,
              match (t.link x).role with
                | .presiding => .caution
                | .technical => .advisory
                | .monitor | .disabled => .urgent,
              if (t.link x).role = .technical then .advisory else .urgent, false⟩)
      ∧ (∀ x : LinkId, (t.link x).role =
          (let pins := match x with | .a => straps.roleA | .b => straps.roleB | .c => straps.roleC
           if pins = 0b00 then .disabled else if pins = 0b01 then .monitor
           else if pins = 0b10 then .presiding else .technical))
      ∧ t.sitting = .setup ∧ t.clock = 0 ∧ t.scheduled = 0 ∧ t.floor = []
      ∧ t.quarterPhase = 0 ∧ t.minutePhase = 0 ∧ t.deviceSeconds = 0
      ∧ t.profile.slotCount = (if straps.store = 0b11 then 4 else straps.store.toNat)
      ∧ t.profile.lastResult = .none
      ∧ (if straps.loadBoot = true ∧ straps.store ≠ 0b00 then
          t.profile.op = .loading ∧ t.profile.lastOp = .startUpLoad ∧ t.profile.lastSlot = some 0
         else t.profile.op = .idle ∧ t.profile.lastOp = .none ∧ t.profile.lastSlot = none)
      ∧ (s.profile.op ≠ .saving → t.store = s.store)
      ∧ t.protect = protect ∧ t.pending = s.pending ∧ t.freeCount = s.freeCount

/-- A save that the reset pin cuts short leaves the slot by how far it had gone: from the first write that the
memory has taken until it has taken the identifier write, a zero identifier; after that, the new image (R151,
R156).  How far it had gone is the model's operand `Progress`, and that a torn first write changes nothing beyond
the first 32 bytes is its reading (log 15).  The EEPROM is in its canonical form (log 14). -/
def Obligations.ResetDuringSaveLeavesTheSlot : Prop :=
  ∀ (straps : Straps) (protect : Bool) (g : Progress) (s : State) (slot : Nat),
    s.store.wf = true → s.profile.op = .saving → s.profile.lastSlot = some slot →
    s.profile.buffer.length = 604 → ∃ t : State,
      exec (.resetPin straps protect g) s = .next t
        ∧ (g.taken = 0 → ∀ a, a < 1024 * slot ∨ 1024 * slot + 32 ≤ a → t.store.read a = s.store.read a)
        ∧ (1 ≤ g.taken ∧ g.taken ≤ 19 →
            t.store.read (1024 * slot) = 0x00 ∧ t.store.read (1024 * slot + 1) = 0x00)
        ∧ (20 ≤ g.taken → ∀ i, i < 604 → t.store.read (1024 * slot + i) = s.profile.buffer.getD i 0)
        ∧ (∀ a, a < 1024 * slot ∨ 1024 * slot + 604 ≤ a → t.store.read a = s.store.read a)

/-- State.reset, the model's choice of straps and of a blank EEPROM among them (log 13, log 14), is a lawful
state. -/
def Obligations.ResetStateIsLawful : Prop := State.reset.lawful

/-! ## Report intake -/

/-- A character on a port line that completes no frame moves the port's assembly and sets its flags as R21
gives, on a STARTED port and, without the flags, on a STOPPED one, which also discards a complete frame without
a test or a flag (R25); nothing else changes. -/
def Obligations.PortCharacterMovesAssembly : Prop :=
  (∀ (s : State) (p : Port) (ch : Byte),
     (exec (.portCharacter p ch true) s = .next (s.putPort p { s.port p with
         assembly := .hunt
         flags := { (s.port p).flags with framing := (s.port p).flags.framing || (s.port p).started } }))
       ∧ ((s.port p).assembly = .hunt → exec (.portCharacter p ch false) s = .next (s.putPort p
           { s.port p with assembly := if ch = 0x5A then .length else .hunt }))
       ∧ ((s.port p).assembly = .length → exec (.portCharacter p ch false) s = .next (s.putPort p
           (if ch = 0x09 then { s.port p with assembly := .body [] }
            else if ch = 0x5A then { s.port p with assembly := .length }
            else { s.port p with
               assembly := .hunt
               flags := { (s.port p).flags with format := (s.port p).flags.format || (s.port p).started } })))
       ∧ ∀ got, (s.port p).assembly = .body got → got.length < 9 →
           exec (.portCharacter p ch false) s = .next (s.putPort p
             { s.port p with assembly := .body (got ++ [ch]) }))
    ∧ (∀ (s : State) (p : Port) (got : List Byte) (ch : Byte),
       (s.port p).started = false → (s.port p).assembly = .body got → got.length = 9 →
         exec (.portCharacter p ch false) s = .next (s.putPort p { s.port p with assembly := .hunt }))

/-- The tenth character of a frame's body on a STARTED port: the frame is judged by check, form and room in
that order, the first that fails sets its flag and discards the frame (R22), and a frame that passes joins the
FIFO's tail as the report of R23.  The port is back in HUNT. -/
def Obligations.CompleteFrameIsJudged : Prop :=
  ∀ (s : State) (p : Port) (type hi mid lo seq level vhi vlo flags check : Byte),
    (s.port p).started = true → (s.port p).assembly = .body [type, hi, mid, lo, seq, level, vhi, vlo, flags] →
      let q := { s.port p with assembly := PortAssembly.hunt }
      let sum := [0x09, type, hi, mid, lo, seq, level, vhi, vlo, flags, check].foldl (fun n (b : Byte) => n + b.toNat) 0
      let pack := 65536 * hi.toNat + 256 * mid.toNat + lo.toNat
      let mv := 256 * vhi.toNat + vlo.toNat
      exec (.portCharacter p check false) s = .next (s.putPort p
        (if sum % 256 ≠ 0 then { q with flags := { q.flags with check := true } }
         else if type ≠ 0x01 ∨ pack = 0 ∨ pack = 0xFFFFFF then { q with flags := { q.flags with format := true } }
         else if 4 ≤ q.fifo.length then { q with flags := { q.flags with overrun := true } }
         else { q with fifo := q.fifo ++ [{
            receiver := p, pack := BitVec.ofNat 24 pack, seq := seq,
            level := if level.toInt < -120 then 0 else if -20 < level.toInt then 100 else (level.toInt + 120).toNat,
            voltage := if 4095 < mv then 4095 else mv,
            switch := if flags.getLsbD 0 then .muted else .opened, voice := flags.getLsbD 1 }] }))

/-- INTAKE_PICK of a report from an unbound pack: the arbiter takes the head report of the first port in its
order that holds one (R30), and the engine notes it at the front of the stray list (R11, R32).  With every FIFO
empty nothing changes. -/
def Obligations.PickServesPortsInTurnAndNotesStrays : Prop :=
  ∀ s : State,
    ((∀ p : Port, (s.port p).fifo = []) → exec .intakePick s = .next s)
      ∧ ∀ (p : Port) (rep : Report) (rest : List Report),
          (s.port p).fifo = rep :: rest →
          (∀ q : Port, pickDistance s.lastServed q < pickDistance s.lastServed p → (s.port q).fifo = []) →
          (∀ n : Seat, (s.seat n).pack ≠ some rep.pack) →
            exec .intakePick s = .next { s with
              ports := s.ports.set p { s.port p with fifo := rest }
              lastServed := p
              strays := ({
                  pack := rep.pack, level := rep.level, receiver := rep.receiver,
                  count := match s.strays.find? (fun t => t.pack == rep.pack) with
                    | some old => min 255 (old.count + 1)
                    | none => 1
                  heardAt := s.deviceSeconds } :: s.strays.filter (fun t => t.pack != rep.pack)).take 8 }

/-- INTAKE_PICK of a report from a bound pack.  A report whose sequence is the seat's current one is an ECHO: it
raises the sample of an OPEN sequence when its level is higher and does nothing else; a LATE report, a step of 240
to 255, changes no field (R33, R34).  A taken report writes its seat in one change (R8, R33, R35 to R38): the open
sequence is closed into A, its own sequence opens, missed transmissions are counted (a step of 1 to 127 against a
current sequence, d - 1), the silence count returns to 0, the seat is HEARD, mute settles on two equal reports,
and a voltage that is not 0 reaches the estimator.  No other seat changes, and besides the seat only the intake,
the qualifiers, the list and the overflow notices may.  In SITTING and RECESS the change reaches the monitor (R4,
R57, R59; log 8): BATTERY and SIGNAL_WEAK enter, return or clear as R60 gives, from the new charge percent (R66)
and the new level average (R69), BATTERY takes or raises its grade, and BATTERY_SHORTFALL is judged (R55): that this
is done where p, D or R has changed, and not at a change of the signal state, is the model's reading (log 8), R49 and
R56 naming a change of R alone and R4 the signal state too.  In SITTING a change of mute or voice has MUTED_SPEECH
enter, return or clear by its condition (R60, R67), and a change of mute OPEN_NO_FLOOR, QUALIFIED at once where its
present value stands at the limit (R62, R68).  A changed dropout count at or above DROPOUT_LIMIT sets the window mark
and qualifies a QUIET DROPOUTS (R36, R63), and SIGNAL_LOST is QUIET (R65).  A kind newly QUALIFIED has its warning in
the list or waits as a due mark (R75, R83), a clearing reaches the record or the due mark (R76, R86), and a grade rise
the record (R85).  In SETUP no qualifier moves (R70).  In a lawful state. -/
def Obligations.BoundReportIsProcessed : Prop :=
  (∀ (s : State) (p : Port) (rep : Report) (rest : List Report) (n : Seat) (current : Byte),
     s.nextPort = some p → (s.port p).fifo = rep :: rest → s.seatOfPack rep.pack = some n →
     (s.seat n).seq.current = some current →
       let taken := { s with ports := s.ports.set p { s.port p with fifo := rest }, lastServed := p }
       (∀ level receiver, rep.seq = current → (s.seat n).seq = .opened current level receiver →
         exec .intakePick s = .next (taken.putSeat n { s.seat n with
           seq := if level < rep.level then .opened current rep.level rep.receiver
                  else .opened current level receiver }))
       ∧ (rep.seq = current → (s.seat n).seq = .closed current → exec .intakePick s = .next taken)
       ∧ (240 ≤ (rep.seq - current).toNat → exec .intakePick s = .next taken))
    ∧ (∀ (s : State) (p : Port) (rep : Report) (rest : List Report) (n : Seat),
         s.nextPort = some p → (s.port p).fifo = rep :: rest → s.seatOfPack rep.pack = some n →
         (∀ current, (s.seat n).seq.current = some current →
           (rep.seq - current).toNat ≠ 0 ∧ (rep.seq - current).toNat < 240) → ∃ t : State,
           exec .intakePick s = .next t
             ∧ t.seat n = { s.seat n with
                 signal := .heard
                 silence := 0
                 seq := .opened rep.seq rep.level rep.receiver
                 levelStore := match (s.seat n).seq, (s.seat n).levelStore with
                   | .opened _ level _, none => some (4 * level)
                   | .opened _ level _, some a => some (a - a / 4 + level)
                   | _, a => a
                 dropouts := match (s.seat n).seq.current with
                   | some current =>
                     if (rep.seq - current).toNat ≤ 127 then
                       min 255 ((s.seat n).dropouts + ((rep.seq - current).toNat - 1))
                     else min 255 (s.seat n).dropouts
                   | none => min 255 (s.seat n).dropouts
                 mute := if (s.seat n).rawMute = some rep.switch then
                     (match rep.switch with | .muted => .muted | .opened => .opened)
                   else (s.seat n).mute
                 rawMute := some rep.switch
                 voice := rep.voice
                 est := if rep.voltage = 0 then (s.seat n).est
                   else (s.seat n).est.reading s.curve s.params.estimatorWindow rep.voltage }
             ∧ (∀ m, m ≠ n → t.seat m = s.seat m)
             ∧ t.ports = s.ports.set p { s.port p with fifo := rest } ∧ t.lastServed = p
             ∧ t = { s with
                 ports := t.ports, lastServed := t.lastServed, seats := t.seats, monitors := t.monitors,
                 records := t.records, links := t.links }
             ∧ ∀ x : LinkId, t.link x = { s.link x with notice := (t.link x).notice })
    ∧ (∀ (s t : State) (p : Port) (rep : Report) (rest : List Report) (n : Seat), s.lawful →
         s.nextPort = some p → (s.port p).fifo = rep :: rest → s.seatOfPack rep.pack = some n →
         (∀ current, (s.seat n).seq.current = some current →
           (rep.seq - current).toNat ≠ 0 ∧ (rep.seq - current).toNat < 240) →
         exec .intakePick s = .next t →
           let old := s.seat n
           let new := t.seat n
           let was := s.monitor n
           let now := t.monitor n
           let figures := old.signal ≠ new.signal ∨ old.est.percent ≠ new.est.percent
             ∨ old.est.drain ≠ new.est.drain ∨ old.est.minutes ≠ new.est.minutes
           let estimate := old.est.percent ≠ new.est.percent ∨ old.est.drain ≠ new.est.drain
             ∨ old.est.minutes ≠ new.est.minutes
           let average := new.levelStore.map (· / 4)
           let speaks := s.onFloor n && new.mute == .muted && new.voice
           let critical := new.est.percent.any (· ≤ s.params.batteryCritPct)
           (s.sitting = .setup → t.monitors = s.monitors ∧ t.records = s.records)
           ∧ (s.sitting ≠ .setup →
             (now.state.battery, now.batteryPv) =
                 (if figures then eventMove s.params.batteryQualify
                    (new.est.percent.any (· ≤ s.params.batteryLowPct))
                    (new.est.percent.all (s.params.batteryLowPct + s.params.batteryHystPct ≤ ·))
                    was.state.battery was.batteryPv
                  else (was.state.battery, was.batteryPv))
             ∧ now.grade = (if now.state.battery ≠ .qualified then none
                 else if was.state.battery = .qualified then
                   (if figures ∧ critical then some .critical else was.grade)
                 else if critical then some .critical else some .low)
             ∧ (now.state.signalWeak, now.weakPv) =
                 (if old.signal ≠ new.signal ∨ old.levelStore ≠ new.levelStore then
                    eventMove s.params.weakQualify (average.any (· < s.params.weakLevel))
                      (average.any (s.params.weakLevel + s.params.weakHyst ≤ ·)) was.state.signalWeak was.weakPv
                  else (was.state.signalWeak, was.weakPv))
             ∧ now.state.batteryShortfall = (if estimate then
                 match new.est.minutes with
                 | none => .quiet
                 | some r =>
                   if r < s.required then .qualified
                   else if s.required + s.params.shortfallHystMin ≤ r then .quiet
                   else was.state.batteryShortfall
                 else was.state.batteryShortfall)
             ∧ (now.state.dropouts, now.windowMark) =
                 (if old.dropouts ≠ new.dropouts ∧ s.params.dropoutLimit ≤ new.dropouts then (.qualified, true)
                  else (was.state.dropouts, was.windowMark))
             ∧ (now.state.mutedSpeech, now.mutedPv) =
                 (if s.sitting = .sitting ∧ (old.mute ≠ new.mute ∨ old.voice ≠ new.voice) then
                    eventMove s.params.mutedSpeechQualify speaks (!speaks) was.state.mutedSpeech was.mutedPv
                  else (was.state.mutedSpeech, was.mutedPv))
             ∧ now.state.openNoFloor =
                 (if s.sitting ≠ .sitting ∨ old.mute = new.mute then was.state.openNoFloor
                  else if new.mute = .opened ∧ s.onFloor n = false then
                    (if 4 * s.params.openNoFloorLimit ≤ was.openPv then .qualified else .qualifying)
                  else .quiet)
             ∧ now.openPv = (if was.state.openNoFloor = .qualified ∧ now.state.openNoFloor = .quiet
                   ∧ (s.record n .openNoFloor).any (fun r => r.state == .activeAcked) = true then 0
                 else was.openPv)
             ∧ now.state.signalLost = .quiet
             ∧ (∀ k : Kind, was.state.get k ≠ .qualified → now.state.get k = .qualified →
                 t.warned n k (match k with
                   | .battery => new.est.percent
                   | .batteryShortfall => new.est.minutes
                   | .openNoFloor => some (now.openPv / 4)
                   | .signalWeak => average
                   | .dropouts => some new.dropouts
                   | .mutedSpeech | .signalLost => none))
             ∧ (∀ k : Kind, was.state.get k = .qualified → now.state.get k = .quiet → s.clearedReaches t n k)
             ∧ (∀ r, s.record n .battery = some r → was.state.battery = .qualified → was.grade = some .low →
                 now.grade = some .critical → t.record n .battery = some { r with
                   grade := some .critical, severity := .urgent, state := .activeUnacked
                   detail := new.est.percent, seenBy := ⟨false, false, false⟩, changedAt := s.clock
                   escalation := if s.params.escUrgent = 0 then none else some s.params.escUrgent })))

/-- PORT START and PORT STOP with a port set naming a port: each named port changes its status, PORT STOP
empties its FIFO, flags, assembly and the other ports stay, and the reply carries the eight statuses (R27).  CLEAR
PORT FLAGS clears the flags its set names on its port, and READ PORTS reports every port and the last served port;
neither changes anything else (R28, R29). -/
def Obligations.PortRequests : Prop :=
  (∀ (s : State) (x : LinkId) (set : Byte) (rest : List Byte),
     s.ready x → (s.link x).role = .technical → set ≠ 0 →
       (∃ (t : State) (statuses : Byte),
         exec (.portStart x (set :: rest)) s = .next (t.replied x 0x0B .ok [statuses])
           ∧ t = { s with ports := t.ports }
           ∧ ∀ p : Port, t.port p = { s.port p with started := set.getLsbD p.val || (s.port p).started }
               ∧ statuses.getLsbD p.val = (t.port p).started)
       ∧ ∃ (t : State) (statuses : Byte),
         exec (.portStop x (set :: rest)) s = .next (t.replied x 0x0C .ok [statuses])
           ∧ t = { s with ports := t.ports }
           ∧ ∀ p : Port, t.port p =
                 (if set.getLsbD p.val then { s.port p with started := false, fifo := [] } else s.port p)
               ∧ statuses.getLsbD p.val = (t.port p).started)
    ∧ (∀ (s : State) (x : LinkId) (rest : List Byte), s.ready x →
       (∀ (port set : Byte) (p : Port), (s.link x).role = .technical → port.toNat = p.val →
         ∃ flags : LineFlags, flags = ⟨(s.port p).flags.framing && !set.getLsbD 0,
             (s.port p).flags.check && !set.getLsbD 1, (s.port p).flags.format && !set.getLsbD 2,
             (s.port p).flags.overrun && !set.getLsbD 3⟩
           ∧ exec (.clearPortFlags x (port :: set :: rest)) s = .next
               ((s.putPort p { s.port p with flags := flags }).replied x 0x0D .ok [byte flags.code]))
       ∧ exec (.readPorts x rest) s = .next (s.replied x 0x0A .ok
           ((List.finRange 8).flatMap (fun p : Port =>
             [byte (if (s.port p).started then 1 else 0), byte (s.port p).fifo.length, byte (s.port p).flags.code])
           ++ [byte s.lastServed.val])))

/-! ## Charge estimation -/

/-- The curve function on a valid curve: the first percent up to the first voltage, the last from the last
voltage on, and between two breakpoints the line rounded down, which stays below the next percent unless the segment is
flat; it never falls as the voltage rises, and every value lies within 0 to 100 (R43). -/
def Obligations.CurveFunctionFollowsTheBreakpoints : Prop :=
  ∀ curve : Vector Breakpoint 8, curveValid curve = true →
    (∀ v, v ≤ curve[0].mv → curvePercent curve v = curve[0].percent)
      ∧ (∀ v, curve[7].mv ≤ v → curvePercent curve v = curve[7].percent)
      ∧ (∀ (i : Fin 7) v, (curve[i.val]).mv ≤ v → v < (curve[i.val + 1]).mv →
          curvePercent curve v = (curve[i.val]).percent
            + (v - (curve[i.val]).mv) * ((curve[i.val + 1]).percent - (curve[i.val]).percent)
              / ((curve[i.val + 1]).mv - (curve[i.val]).mv)
            ∧ (curvePercent curve v < (curve[i.val + 1]).percent ∨ curvePercent curve v = (curve[i.val]).percent))
      ∧ (∀ v w, v ≤ w → curvePercent curve v ≤ curvePercent curve w)
      ∧ ∀ v, curvePercent curve v ≤ 100

/-- One voltage reading starts an absent record (R46), restarts the record at the second reading in a row whose
raw percent stands 10 above p (R47), and is folded into the smoothing store otherwise (R48), with the minutes
remaining recomputed from the new p (R53). -/
def Obligations.ReadingStartsRestartsOrFolds : Prop :=
  ∀ (curve : Vector Breakpoint 8) (w v : Nat) (e : EstRecord),
    (e.store = none → e.reading curve w v
        = ⟨some (8 * v), some (curvePercent curve v), 0, some (curvePercent curve v), 0, none, none⟩)
      ∧ ∀ store p, e.store = some store → e.percent = some p →
          let high := p + 10 ≤ curvePercent curve v
          let folded := store - store / 8 + v
          (high ∧ 1 ≤ e.rise → e.reading curve w v
              = ⟨some (8 * v), some (curvePercent curve v), 0, some (curvePercent curve v), 0, none, none⟩)
          ∧ (¬(high ∧ 1 ≤ e.rise) → e.reading curve w v = { e with
              store := some folded
              percent := some (curvePercent curve (folded / 8))
              rise := if high then 1 else 0
              minutes := match e.drain with
                | none => none
                | some d =>
                  if d = 0 then some 600 else some (min 600 (curvePercent curve (folded / 8) * w / d)) })

/-- A constant voltage reading settles a record: after enough readings of v the smoothed voltage is v and the
charge percent is P(v), and stay so (R47, R48). -/
def Obligations.ConstantReadingSettles : Prop :=
  ∀ (curve : Vector Breakpoint 8) (w v : Nat) (e : EstRecord), e.lawful curve w = true →
    ∃ k, ∀ j, k ≤ j →
      ((fun r : EstRecord => r.reading curve w v)^[j] e).smoothed = some v
        ∧ ((fun r : EstRecord => r.reading curve w v)^[j] e).percent = some (curvePercent curve v)

/-- SET CURVE from a technical link in SETUP with no load in flight: a valid curve becomes the one held and
restarts all 128 estimator records, an invalid one is refused RANGE and changes nothing (R41, R42, R44). -/
def Obligations.SetCurveReplacesAndRestarts : Prop :=
  ∀ (s : State) (x : LinkId) (curve : Vector Breakpoint 8) (rest : List Byte),
    s.ready x → (s.link x).role = .technical → s.loading = false → s.sitting = .setup →
    (∀ b ∈ curve.toList, b.mv < 65536 ∧ b.percent < 256) →
      let payload := curve.toList.flatMap fun b => bytes2 b.mv ++ [byte b.percent]
      (curveValid curve = true → ∃ t : State,
        exec (.setCurve x (payload ++ rest)) s = .next (t.replied x 0x0E .ok payload)
          ∧ t = { s with curve := curve, seats := t.seats }
          ∧ ∀ n : Seat, t.seat n = { s.seat n with est := ⟨none, none, 0, none, 0, none, none⟩ })
      ∧ (curveValid curve = false → exec (.setCurve x (payload ++ rest)) s = .next (s.replied x 0x0E .range []))

/-- MINUTE_TICK ages every record whose seat is not LOST and whose p is present, and changes no other field of
any seat (R50, R51); DRAIN_WINDOW_COMPLETE does so for its seat alone when its window is due to complete (the
model's choice, log 2). -/
def Obligations.MinuteTickAgesRecords : Prop :=
  ∀ s : State,
    (∃ t : State, exec .minuteTick s = .next t
      ∧ (∀ n : Seat, t.seat n = { s.seat n with
          est := if (s.seat n).signal = .lost then (s.seat n).est
            else agedRecord s.params.estimatorWindow (s.seat n).est })
      ∧ State.onlyMonitorAndList { s with seats := t.seats } t)
    ∧ ∀ n : Seat, (s.seat n).signal ≠ .lost → (s.seat n).est.percent ≠ none →
        s.params.estimatorWindow ≤ (s.seat n).est.age + 1 → ∃ t : State,
          exec (.drainWindowComplete n) s = .next t
            ∧ t.seat n = { s.seat n with est := agedRecord s.params.estimatorWindow (s.seat n).est }
            ∧ (∀ m, m ≠ n → t.seat m = s.seat m)
            ∧ State.onlyMonitorAndList { s with seats := t.seats } t

/-- The BATTERY_SHORTFALL judgement in SITTING and RECESS: short below the requirement, sufficient from the
requirement plus the hysteresis on or with R absent, and the qualifier kept between (R54, R55).  It is made at
each minute tick with the record as that tick leaves it (R56), and by SET SCHEDULE, which takes L, clamped at 1439,
against the new requirement at once (R125).  The tick's own evaluation leaves it as it is (R59); that a seat's entry
to FADING or LOST at the tick, and ENTER_FADING and ENTER_LOST (log 2), judge it no more than that is the model's
reading (log 8): R4 has a change of the signal state feed the kind through the freeze in LOST, and R59 and R65 hold
its judgement to the events of R56. -/
def Obligations.ShortfallIsJudged : Prop :=
  (∀ s : State, s.sitting ≠ .setup → ∃ t : State, exec .minuteTick s = .next t ∧ ∀ n : Seat, s.bound n = true →
     let required := (s.scheduled - s.clock / 60) + s.params.reserveMin
     (∀ r, (t.seat n).est.minutes = some r → r < required →
         (t.monitor n).state.batteryShortfall = .qualified)
       ∧ (∀ r, (t.seat n).est.minutes = some r → required + s.params.shortfallHystMin ≤ r →
         (t.monitor n).state.batteryShortfall = .quiet)
       ∧ ((t.seat n).est.minutes = none → (t.monitor n).state.batteryShortfall = .quiet)
       ∧ (∀ r, (t.seat n).est.minutes = some r → required ≤ r → r < required + s.params.shortfallHystMin →
         (t.monitor n).state.batteryShortfall = (s.monitor n).state.batteryShortfall))
    ∧ (∀ (s : State) (x : LinkId) (hi lo : Byte) (rest : List Byte),
         s.ready x → (s.link x).role = .presiding → s.sitting ≠ .setup →
           let asked := 256 * hi.toNat + lo.toNat
           let required := (min 1439 asked - s.clock / 60) + s.params.reserveMin
           ∃ t : State, exec (.setSchedule x (hi :: lo :: rest)) s = .next t
             ∧ t.scheduled = min 1439 asked
             ∧ (∀ n : Seat, s.bound n = true →
                 (t.monitor n).state.batteryShortfall = match (s.seat n).est.minutes with
                   | none => .quiet
                   | some r =>
                     if r < required then .qualified
                     else if required + s.params.shortfallHystMin ≤ r then .quiet
                     else (s.monitor n).state.batteryShortfall)
             ∧ s.repliesIn t x 0x1A (if 1439 < asked then .adjusted else .ok)
                 (bytes2 (min 1439 asked) ++ bytes2 (s.clock / 60) ++ bytes2 required)
             ∧ t = { s with
                 scheduled := t.scheduled, monitors := t.monitors, records := t.records, links := t.links })
    ∧ (∀ (s : State) (n : Seat) (c : Instr),
         (∃ order, c = .quarterTick order) ∨ (∃ m, c = .enterFading m ∨ c = .enterLost m) → ∃ t : State,
           exec c s = .next t ∧ (t.monitor n).state.batteryShortfall = (s.monitor n).state.batteryShortfall)

/-! ## The Seat Table -/

/-- READ SEAT and READ STRAYS report without changing anything but the link: the 23 bytes of the seat record,
absent values in their reserved codes (R17, R157), and the strays in list order (R19).  READ SEATS returns up to
eight consecutive seats, ending at seat 127, ADJUSTED where the count was cut, each as READ SEAT gives it or as
the nine-byte summary (R18, 10.4). -/
def Obligations.SeatTableReadsReport : Prop :=
  (∀ (s : State) (x : LinkId) (rest : List Byte), s.ready x →
     (∀ (b : Byte) (n : Seat), b.toNat = n.val →
       let r := s.seat n
       exec (.readSeat x (b :: rest)) s = .next (s.replied x 0x06 .ok
         ([byte n.val, byte r.group] ++ bytes3 (match r.pack with | none => 0 | some p => p.toNat)
           ++ [byte (match r.signal with | .noPack => 0 | .seeking => 1 | .heard => 2 | .fading => 3 | .lost => 4),
               byte r.silence]
           ++ (match r.seq with
               | .absent => [0xFF, 0xFF, 0xFF, 0xFF, 0xFF]
               | .closed k => [0x00, k, 0x00, 0xFF, 0xFF]
               | .opened k level receiver => [0x00, k, 0x01, byte level, byte receiver.val])
           ++ [match r.levelStore with | none => 0xFF | some a => byte (a / 4),
               byte (match r.mute with | .unknown => 0 | .opened => 1 | .muted => 2),
               byte (if r.voice then 1 else 0), byte r.dropouts,
               byte (if s.floor.any (fun e => e.seat == n) then 1 else 0)]
           ++ bytes2 (match r.est.store with | none => 65535 | some v => v / 8)
           ++ [byte (r.est.percent.getD 255), byte (r.est.drain.getD 255)]
           ++ bytes2 (r.est.minutes.getD 65535))))
     ∧ (∀ b : Byte, 128 ≤ b.toNat → exec (.readSeat x (b :: rest)) s = .next (s.replied x 0x06 .range []))
     ∧ exec (.readStrays x rest) s = .next (s.replied x 0x08 .ok
         (byte s.strays.length :: s.strays.flatMap fun t =>
           bytes3 t.pack.toNat ++ [byte t.level, byte t.receiver.val, byte t.count] ++ bytes4 t.heardAt)))
    ∧ (∀ (s : State) (x : LinkId) (first count compact : Byte) (rest : List Byte), s.ready x →
       (127 < first.toNat ∨ count = 0 →
         exec (.readSeats x (first :: count :: compact :: rest)) s = .next (s.replied x 0x07 .range []))
       ∧ (first.toNat ≤ 127 → count ≠ 0 →
         let taken := min (min 8 count.toNat) (128 - first.toNat)
         let seats := ((List.finRange 128).drop first.toNat).take taken
         exec (.readSeats x (first :: count :: compact :: rest)) s = .next (s.replied x 0x07
           (if taken = count.toNat then .ok else .adjusted)
           (byte taken :: seats.flatMap fun n =>
             if compact = 0 then seatBytes n (s.seat n) (s.onFloor n)
             else [byte n.val, byte (s.seat n).signal.code, byte (s.seat n).mute.code,
                   byte (if (s.seat n).voice then 1 else 0), byte (if s.onFloor n then 1 else 0),
                   byte ((s.seat n).est.percent.getD 255)]
               ++ bytes2 ((s.seat n).est.minutes.getD 65535)
               ++ [match (s.seat n).levelStore with | none => 0xFF | some a => byte (a / 4)]))))

/-- SET GROUP writes the group to every seat of the range, bound or not, and to no other; RANGE and the clamp of
the last seat are as R16 gives, and nothing else changes. -/
def Obligations.SetGroupWritesTheRange : Prop :=
  ∀ (s : State) (x : LinkId) (first last group : Byte) (rest : List Byte),
    s.ready x → (s.link x).role = .technical → s.loading = false →
      (127 < first.toNat ∨ 15 < group.toNat ∨ last.toNat < first.toNat →
        exec (.setGroup x (first :: last :: group :: rest)) s = .next (s.replied x 0x05 .range []))
      ∧ (first.toNat ≤ 127 → group.toNat ≤ 15 → first.toNat ≤ last.toNat → ∃ t : State,
        exec (.setGroup x (first :: last :: group :: rest)) s
            = .next (t.replied x 0x05 (if 127 < last.toNat then .adjusted else .ok)
                [first, byte (min 127 last.toNat), group])
          ∧ t = { s with seats := t.seats }
          ∧ ∀ n : Seat, t.seat n = { s.seat n with
              group := if first.toNat ≤ n.val ∧ n.val ≤ last.toNat then group.toNat else (s.seat n).group })

/-- BIND PACK carried out (R13): the seat is restarted with the pack (R2), the seat the pack came from is released
and off the floor (R3), the pack's stray entry goes, the seats' qualifiers restart (R74) and no active record of
either is left, and no other seat changes.  Turned away or without effect: a pack bound elsewhere with the move flag
clear is IN_USE and names its seat; a pack already at the seat is OK with nothing changed, its previous-pack field a
free value that no rule states, within the codes of R157 (log 12); a pack ID of 000000 or FFFFFF is RANGE.  In a
lawful state. -/
def Obligations.BindPackThreeWays : Prop :=
  (∀ (s : State) (x : LinkId) (seat hi mid lo move : Byte) (rest : List Byte) (n : Seat),
     s.lawful → s.ready x → (s.link x).role = .technical → s.loading = false → seat.toNat = n.val →
     packOf hi mid lo ≠ 0 → packOf hi mid lo ≠ 0xFFFFFF → (s.seat n).pack ≠ some (packOf hi mid lo) →
     (move = 0 → ∀ m : Seat, (s.seat m).pack ≠ some (packOf hi mid lo)) → ∃ (t : State) (source : Option Seat),
       exec (.bindPack x (seat :: hi :: mid :: lo :: move :: rest)) s = .next t
         ∧ (∀ m, source = some m ↔ (s.seat m).pack = some (packOf hi mid lo))
         ∧ t.seat n = { SeatRecord.reset with
             signal := .seeking, pack := some (packOf hi mid lo), group := (s.seat n).group }
         ∧ (∀ m, source = some m → t.seat m = { SeatRecord.reset with group := (s.seat m).group })
         ∧ (∀ m, m ≠ n → source ≠ some m → t.seat m = s.seat m)
         ∧ t.strays = s.strays.filter (fun e => e.pack != packOf hi mid lo)
         ∧ t.floor = s.floor.filter (fun e => source != some e.seat)
         ∧ (∀ m, m = n ∨ source = some m → t.monitor m = .quiet s.params)
         ∧ (∀ r ∈ t.records, r.seat = n ∨ source = some r.seat → r.state = .clearedUnacked)
         ∧ s.repliesIn t x 0x03 .ok ([seat, hi, mid, lo]
             ++ [match source with | some m => byte m.val | none => 0xFF]
             ++ bytes3 (match (s.seat n).pack with | some p => p.toNat | none => 0))
         ∧ t = { s with
             seats := t.seats, strays := t.strays, floor := t.floor, monitors := t.monitors,
             records := t.records, links := t.links })
    ∧ (∀ (s : State) (x : LinkId) (seat hi mid lo move : Byte) (rest : List Byte) (n : Seat),
       s.bindingLaw → s.ready x → (s.link x).role = .technical → s.loading = false → seat.toNat = n.val →
         (packOf hi mid lo = 0 ∨ packOf hi mid lo = 0xFFFFFF →
           exec (.bindPack x (seat :: hi :: mid :: lo :: move :: rest)) s = .next (s.replied x 0x03 .range []))
         ∧ (∀ m, m ≠ n → (s.seat m).pack = some (packOf hi mid lo) → move = 0 →
           exec (.bindPack x (seat :: hi :: mid :: lo :: move :: rest)) s
             = .next (s.replied x 0x03 .inUse [byte m.val]))
         ∧ ((s.seat n).pack = some (packOf hi mid lo) → ∃ (free : Nat) (previous : PackId), previous ≠ 0xFFFFFF ∧
           exec (.bindPack x (seat :: hi :: mid :: lo :: move :: rest)) s
             = .next ({ s with freeCount := free }.replied x 0x03 .ok
                 ([seat, hi, mid, lo, 0xFF] ++ bytes3 previous.toNat))))

/-- UNBIND SEAT releases a bound seat (R15, R3): NO_PACK, every field but the group at its reset value, off the
floor, its qualifiers restarted (R74) and no active record left; an unbound seat is NOT_FOUND and nothing
changes.  In a lawful state. -/
def Obligations.UnbindSeatReleases : Prop :=
  ∀ (s : State) (x : LinkId) (seat : Byte) (rest : List Byte) (n : Seat),
    s.lawful → s.ready x → (s.link x).role = .technical → s.loading = false → seat.toNat = n.val →
      ((s.seat n).pack = none →
        exec (.unbindSeat x (seat :: rest)) s = .next (s.replied x 0x04 .notFound []))
      ∧ ∀ pack, (s.seat n).pack = some pack → ∃ t : State,
          exec (.unbindSeat x (seat :: rest)) s = .next t
            ∧ t.seat n = { SeatRecord.reset with group := (s.seat n).group }
            ∧ (∀ m, m ≠ n → t.seat m = s.seat m)
            ∧ t.floor = s.floor.filter (fun e => e.seat != n)
            ∧ t.monitor n = .quiet s.params
            ∧ (∀ r ∈ t.records, r.seat = n → r.state = .clearedUnacked)
            ∧ s.repliesIn t x 0x04 .ok (seat :: bytes3 pack.toNat)
            ∧ t = { s with
                seats := t.seats, floor := t.floor, monitors := t.monitors, records := t.records,
                links := t.links }

/-- RESTART SEATS in SETUP restarts every bound seat (R2), empties every FIFO and the stray list, returns the
bound seats' OPEN_NO_FLOOR present values to 0, and keeps bindings, groups, port status and flags, the floor and
the list (R20).  In a state that keeps the SETUP law of R93. -/
def Obligations.RestartSeatsRestartsTheBound : Prop :=
  ∀ (s : State) (x : LinkId) (rest : List Byte),
    s.setupLaw → s.ready x → (s.link x).role = .technical → s.loading = false → s.sitting = .setup → ∃ t : State,
      exec (.restartSeats x rest) s
          = .next (t.replied x 0x09 .ok [byte ((List.finRange 128).countP fun n => (s.seat n).pack.isSome)])
        ∧ (∀ n : Seat, t.seat n = if (s.seat n).pack = none then s.seat n else
            { SeatRecord.reset with
              signal := .seeking, pack := (s.seat n).pack, group := (s.seat n).group })
        ∧ (∀ p : Port, t.port p = { s.port p with fifo := [] }) ∧ t.strays = []
        ∧ (∀ n : Seat, s.bound n = true → (t.monitor n).openPv = 0)
        ∧ t = { s with seats := t.seats, ports := t.ports, strays := t.strays, monitors := t.monitors }

/-- At every quarter tick, in whatever order the blocks take it (R61), each seat is advanced as R5, R6 and R7
give, the quarter phase moves on, and besides the seats only the qualifiers, the list and the overflow notices
may change (R119).  The monitor's half, in a lawful state: every seat's present values take a set value changed
since the last tick (R60; in every sitting state, log 10); and in SITTING and RECESS, for a bound seat, a RESETTING
qualifier that is QUALIFYING is counted down by 1 while its condition holds before and after the seat's advance
(R60), OPEN_NO_FLOOR accumulates 1 where its condition holds so and keeps its value where it does not hold (R62),
and DROPOUTS is QUALIFIED and marked at a count of DROPOUT_LIMIT, and left as it is below it (R63).  ENTER_FADING
and ENTER_LOST, the parts of the tick that take one seat to FADING or LOST (the model's choice of log 2), advance
that seat as the tick would, and no other. -/
def Obligations.QuarterTickAdvancesSeats : Prop :=
  (∀ (s : State) (order : TickOrder), ∃ t : State,
     exec (.quarterTick order) s = .next t
       ∧ (∀ n : Seat, t.seat n = tickedSeat s.params (s.seat n))
       ∧ t.quarterPhase = (s.quarterPhase + 1) % 4
       ∧ State.onlyMonitorAndList
           { s with seats := t.seats, quarterPhase := t.quarterPhase, setChanged := t.setChanged } t)
    ∧ (∀ (s t : State) (order : TickOrder), s.lawful → exec (.quarterTick order) s = .next t →
       t.setChanged = ⟨false, false, false⟩
       ∧ (∀ n : Seat,
           let was := s.monitor n
           let now := t.monitor n
           (s.setChanged.battery = true → was.state.battery ≠ .qualifying →
             now.state.battery = was.state.battery → now.batteryPv = s.params.batteryQualify)
           ∧ (s.setChanged.mutedSpeech = true → was.state.mutedSpeech ≠ .qualifying →
             now.state.mutedSpeech = was.state.mutedSpeech → now.mutedPv = s.params.mutedSpeechQualify)
           ∧ (s.setChanged.signalWeak = true → was.state.signalWeak ≠ .qualifying →
             now.state.signalWeak = was.state.signalWeak → now.weakPv = s.params.weakQualify))
       ∧ ∀ n : Seat, s.bound n = true → s.sitting ≠ .setup →
           let old := s.seat n
           let new := tickedSeat s.params (s.seat n)
           let was := s.monitor n
           let now := t.monitor n
           let weak := fun r : SeatRecord => (r.signal = .heard ∨ r.signal = .fading)
             ∧ (r.levelStore.map (· / 4)).any (· < s.params.weakLevel)
           let opened := s.sitting = .sitting ∧ old.mute = .opened ∧ s.onFloor n = false
           (was.state.battery = .qualifying →
             (if old.signal = .lost then was.held = some true
              else old.est.percent.any (· ≤ s.params.batteryLowPct) = true) →
             (now.state.battery, now.batteryPv) = countedDown s.params.batteryQualify was.batteryPv)
           ∧ (was.state.signalWeak = .qualifying → weak old → weak new →
             (now.state.signalWeak, now.weakPv) = countedDown s.params.weakQualify was.weakPv)
           ∧ (was.state.mutedSpeech = .qualifying → new.signal ≠ .lost →
             (now.state.mutedSpeech, now.mutedPv) = countedDown s.params.mutedSpeechQualify was.mutedPv)
           ∧ (opened → new.signal ≠ .lost → now.openPv = min 65535 (was.openPv + 1)
             ∧ now.state.openNoFloor =
                 (if was.state.openNoFloor = .qualified ∨ 4 * s.params.openNoFloorLimit ≤ now.openPv then .qualified
                  else .qualifying))
           ∧ (¬opened → now.openPv = was.openPv)
           ∧ (s.params.dropoutLimit ≤ old.dropouts → now.state.dropouts = .qualified ∧ now.windowMark = true)
           ∧ (old.dropouts < s.params.dropoutLimit →
             now.state.dropouts = was.state.dropouts ∧ now.windowMark = was.windowMark))
    ∧ (∀ (s : State) (n : Seat),
       ((s.seat n).signal = .heard → s.params.fadeTime ≤ min 255 ((s.seat n).silence + 1) → ∃ t : State,
         exec (.enterFading n) s = .next t ∧ t.seat n = tickedSeat s.params (s.seat n)
           ∧ (∀ m, m ≠ n → t.seat m = s.seat m) ∧ State.onlyMonitorAndList { s with seats := t.seats } t)
       ∧ ((s.seat n).signal = .fading → s.params.lostTime ≤ min 255 ((s.seat n).silence + 1) → ∃ t : State,
         exec (.enterLost n) s = .next t ∧ t.seat n = tickedSeat s.params (s.seat n)
           ∧ (t.seat n).signal = .lost ∧ (t.seat n).mute = .unknown ∧ (t.seat n).rawMute = none
           ∧ (t.seat n).voice = false
           ∧ (∀ m, m ≠ n → t.seat m = s.seat m) ∧ State.onlyMonitorAndList { s with seats := t.seats } t))

/-- SECOND_TICK, in every order of the blocks (R119): device seconds and the minute phase move on, the sitting
clock rises by 1 up to 359999 outside SETUP and stands in SETUP (R121), the dropout window's time rises or, at
DROPOUT_WINDOW, returns to 0 with every dropout count (R63, R64), and outside SETUP every running timer of an
ACTIVE_UNACKED record is lowered, 1 being its last second (R94), where the window ends too, but for the DROPOUTS
records that this clears.  And over a run of commands that keeps the time base (log 3), the phases and device
seconds say how many of its instants have passed: a second tick at every fourth quarter tick and a minute tick at
every sixtieth second tick (R119). -/
def Obligations.SecondTickMovesTheClocks : Prop :=
  (∀ (s : State) (order : SecondOrder), ∃ t : State, exec (.secondTick order) s = .next t
    ∧ t.deviceSeconds = min 4294967295 (s.deviceSeconds + 1) ∧ t.minutePhase = (s.minutePhase + 1) % 60
    ∧ t.clock = (if s.sitting = .setup then s.clock else min 359999 (s.clock + 1))
    ∧ (let ends := s.params.dropoutWindow ≤ s.windowElapsed + 1
       t.windowElapsed = (if ends then 0 else s.windowElapsed + 1)
        ∧ (∀ n : Seat, t.seat n = { s.seat n with dropouts := if ends then 0 else (s.seat n).dropouts })
        ∧ (¬ends → t.monitors = s.monitors ∧ t.links = s.links
            ∧ (s.sitting = .setup → t.records = s.records)
            ∧ (s.sitting ≠ .setup → t.records.length = s.records.length ∧
                ∀ (i : Nat) (r : Record), s.records[i]? = some r → ∃ now, (now = s.clock ∨ now = t.clock)
                  ∧ t.records[i]? = some (r.lowered s.params now)))
        ∧ (s.sitting ≠ .setup → ∀ r ∈ s.records,
            r.kind ≠ .dropouts ∨ (s.monitor r.seat).state.dropouts ≠ .qualified
              ∨ (s.monitor r.seat).windowMark = true → ∃ now, (now = s.clock ∨ now = t.clock)
                ∧ r.lowered s.params now ∈ t.records))
    ∧ State.onlyMonitorAndList { s with
        seats := t.seats, clock := t.clock, deviceSeconds := t.deviceSeconds, minutePhase := t.minutePhase,
        windowElapsed := t.windowElapsed } t)
    ∧ ∀ (commands : List Instr) (s t : State) (m n : Nat),
        (Timing.between m).afterAll commands = some (.between n) → s.runs commands t →
        s.quarterPhase = m % 4 → s.minutePhase = m / 4 % 60 → s.deviceSeconds = min 4294967295 (m / 4) →
          t.quarterPhase = n % 4 ∧ t.minutePhase = n / 4 % 60 ∧ t.deviceSeconds = min 4294967295 (n / 4)

/-! ## The Condition Monitor -/

/-- DROPOUT_WINDOW_END when the window is due to end (log 2): every dropout count returns to 0, every window
mark becomes clear, and a QUALIFIED qualifier whose mark was clear becomes QUIET and loses its due mark (R64,
R76).  The other qualifiers keep their states: that no other kind is evaluated here, where R59 names every bound
seat, is the model's reading (log 26), and so is that the counts returned to 0 make no step (log 24). -/
def Obligations.DropoutWindowEndSettles : Prop :=
  ∀ s : State, s.params.dropoutWindow ≤ s.windowElapsed + 1 → ∃ t : State,
    exec .dropoutWindowEnd s = .next t ∧ t.windowElapsed = 0
      ∧ (∀ n : Seat, t.seat n = { s.seat n with dropouts := 0 })
      ∧ (∀ n : Seat, (t.monitor n).windowMark = false
          ∧ ((t.monitor n).state.dropouts =
              if (s.monitor n).state.dropouts = .qualified ∧ (s.monitor n).windowMark = false then .quiet
              else (s.monitor n).state.dropouts)
          ∧ (∀ k : Kind, k ≠ .dropouts → (t.monitor n).state.get k = (s.monitor n).state.get k)
          ∧ ((t.monitor n).state.dropouts = .quiet → (s.monitor n).state.dropouts = .qualified →
              t.isDue n .dropouts = false))
      ∧ State.onlyMonitorAndList { s with seats := t.seats, windowElapsed := t.windowElapsed } t

/-- QUALIFIER_EXPIRY, the last quarter tick of a RESETTING qualifier's wait (R60, log 2): a QUALIFYING qualifier
of a bound seat whose present value and set value leave it no more than 1, and whose condition still holds
(R66, R67, R69), becomes QUALIFIED with present value 0, BATTERY with its grade from p, and the list takes the
qualified outcome with the kind's detail.  ACCUMULATION_LIMIT, the quarter tick that brings an OPEN_NO_FLOOR
present value to its limit of four times OPEN_NO_FLOOR_LIMIT (R62, R68, log 2): the qualifier becomes QUALIFIED
with its present value raised by 1, and the list takes the outcome with the accumulated seconds as detail. -/
def Obligations.WaitedConditionsQualify : Prop :=
  (∀ (s : State) (n : Seat), s.bound n = true →
     (∀ (p : Nat), s.sitting ≠ .setup → (s.monitor n).state.battery = .qualifying →
       min (s.monitor n).batteryPv s.params.batteryQualify ≤ 1 → (s.seat n).est.percent = some p →
       (if (s.seat n).signal = .lost then (s.monitor n).held ≠ some false else p ≤ s.params.batteryLowPct) →
       ∃ t : State, exec (.qualifierExpiry n .battery) s = .next t
         ∧ (let grade := if p ≤ s.params.batteryCritPct then Grade.critical else Grade.low
            (t.monitor n).state.battery = .qualified ∧ (t.monitor n).batteryPv = 0
             ∧ (t.monitor n).grade = some grade ∧ s.qualifiedReaches t n .battery (some grade) (some p))
         ∧ (∀ m, m ≠ n → t.monitor m = s.monitor m) ∧ s.onlyMonitorAndList t)
     ∧ (s.sitting = .sitting → (s.monitor n).state.mutedSpeech = .qualifying →
       min (s.monitor n).mutedPv s.params.mutedSpeechQualify ≤ 1 →
       s.onFloor n = true → (s.seat n).mute = .muted → (s.seat n).voice = true →
       ∃ t : State, exec (.qualifierExpiry n .mutedSpeech) s = .next t
         ∧ (t.monitor n).state.mutedSpeech = .qualified ∧ (t.monitor n).mutedPv = 0
         ∧ s.qualifiedReaches t n .mutedSpeech none none
         ∧ (∀ m, m ≠ n → t.monitor m = s.monitor m) ∧ s.onlyMonitorAndList t)
     ∧ ∀ a : Nat, s.sitting ≠ .setup → (s.monitor n).state.signalWeak = .qualifying →
       min (s.monitor n).weakPv s.params.weakQualify ≤ 1 →
       (s.seat n).levelStore = some a → a / 4 < s.params.weakLevel →
       ((s.seat n).signal = .heard ∨ (s.seat n).signal = .fading) →
       ∃ t : State, exec (.qualifierExpiry n .signalWeak) s = .next t
         ∧ (t.monitor n).state.signalWeak = .qualified ∧ (t.monitor n).weakPv = 0
         ∧ s.qualifiedReaches t n .signalWeak none (some (a / 4))
         ∧ (∀ m, m ≠ n → t.monitor m = s.monitor m) ∧ s.onlyMonitorAndList t)
    ∧ (∀ (s : State) (n : Seat), s.bound n = true → s.sitting = .sitting → (s.seat n).mute = .opened →
       s.onFloor n = false → (s.monitor n).state.openNoFloor ≠ .qualified →
       4 * s.params.openNoFloorLimit ≤ min 65535 ((s.monitor n).openPv + 1) → ∃ t : State,
         exec (.accumulationLimit n) s = .next t
           ∧ (t.monitor n).state.openNoFloor = .qualified
           ∧ (t.monitor n).openPv = min 65535 ((s.monitor n).openPv + 1)
           ∧ s.qualifiedReaches t n .openNoFloor none (some (min 65535 ((s.monitor n).openPv + 1) / 4))
           ∧ (∀ m, m ≠ n → t.monitor m = s.monitor m) ∧ s.onlyMonitorAndList t)

/-- SET PARAMETER with a number of 1 to 21 and, for 5, 15 and 16, in SETUP: the value is taken into its own range and
then into its pair (R77), every other parameter stays, the reply carries both and is ADJUSTED exactly where a step
changed something (R78).  Besides, a changed BATTERY_QUALIFY, MUTED_SPEECH_QUALIFY or WEAK_QUALIFY is noted for the
next quarter tick (R60, log 10), a written ESTIMATOR_WINDOW restarts every drain window (R52), a written
DROPOUT_WINDOW its elapsed time (R63), a written escalation time lowers or stops the running timers at its severity
(R97), a FLOOR_LIMIT below the list takes the oldest entries off the floor (R132), and the others change no seat,
record, floor entry or window.  In a lawful state each seat that a lower FLOOR_LIMIT takes off the floor has
MUTED_SPEECH QUIET, its clearing handed to the list, and OPEN_NO_FLOOR counts from its held present value if mute is
OPEN, or is QUALIFIED at once where that stands at the limit and then waits as a due mark or has an ACTIVE_UNACKED
record; no other qualifier moves (R73, R132). -/
def Obligations.SetParameterWritesAndTakesEffect : Prop :=
  (∀ (s : State) (x : LinkId) (number hi lo : Byte) (rest : List Byte),
     s.ready x → (s.link x).role = .technical → s.loading = false →
     1 ≤ number.toNat → number.toNat ≤ 21 →
     (number.toNat = 5 ∨ number.toNat = 15 ∨ number.toNat = 16 → s.sitting = .setup) →
       let n := number.toNat
       let asked := 256 * hi.toNat + lo.toNat
       let range := ([(1, 99), (0, 98), (1, 20), (0, 255), (5, 60), (0, 240), (1, 60), (0, 255), (10, 3600), (0, 100),
         (1, 20), (0, 255), (10, 600), (1, 255), (2, 40), (4, 240), (0, 3600), (0, 3600), (0, 3600), (1, 4),
         (0, 1)] : List (Nat × Nat)).getD (n - 1) (0, 0)
       let own := max range.1 (min range.2 asked)
       let taken :=
         if n = 2 then (if s.params.get 1 ≤ own then s.params.get 1 - 1 else own)
         else if n = 16 then (if own ≤ s.params.get 15 then s.params.get 15 + 1 else own) else own
       let pair := if n = 1 then 2 else if n = 2 then 1 else if n = 15 then 16 else if n = 16 then 15 else 0
       let paired :=
         if n = 1 then (if own ≤ s.params.get 2 then own - 1 else s.params.get 2)
         else if n = 15 then (if s.params.get 16 ≤ own then own + 1 else s.params.get 16)
         else s.params.get pair
       ∃ t : State, exec (.setParameter x (number :: hi :: lo :: rest)) s = .next t
         ∧ t.params.get n = taken ∧ t.params.get pair = paired
         ∧ (∀ m, m ≠ n → m ≠ pair → t.params.get m = s.params.get m)
         ∧ s.repliesIn t x 0x10
             (if taken = asked ∧ paired = s.params.get pair then .ok else .adjusted)
             ([number] ++ bytes2 taken
               ++ if paired = s.params.get pair then [0, 0, 0] else byte pair :: bytes2 paired)
         ∧ t.setChanged = ⟨s.setChanged.battery || t.params.batteryQualify != s.params.batteryQualify,
             s.setChanged.mutedSpeech || t.params.mutedSpeechQualify != s.params.mutedSpeechQualify,
             s.setChanged.signalWeak || t.params.weakQualify != s.params.weakQualify⟩
         ∧ t = { s with
             params := t.params, setChanged := t.setChanged, seats := t.seats, windowElapsed := t.windowElapsed,
             floor := t.floor, monitors := t.monitors, records := t.records, links := t.links })
    ∧ (∀ (s : State) (x : LinkId) (number hi lo : Byte) (rest : List Byte) (t : State),
       s.ready x → (s.link x).role = .technical → s.loading = false →
       1 ≤ number.toNat → number.toNat ≤ 21 →
       (number.toNat = 5 ∨ number.toNat = 15 ∨ number.toNat = 16 → s.sitting = .setup) →
       exec (.setParameter x (number :: hi :: lo :: rest)) s = .next t →
         (∀ n : Seat, t.seat n = if number.toNat = 5 then
             { s.seat n with est := { (s.seat n).est with
                 age := 0, windowStart := (s.seat n).est.percent, drain := none, minutes := none } }
           else s.seat n)
         ∧ t.windowElapsed = (if number.toNat = 13 then 0 else s.windowElapsed)
         ∧ (number.toNat ≠ 20 → t.floor = s.floor ∧ t.monitors = s.monitors)
         ∧ (number.toNat = 20 → t.floor = s.floor.drop (s.floor.length - t.params.floorLimit))
         ∧ (number.toNat < 17 ∨ number.toNat = 21 → t.records = s.records)
         ∧ ∀ sev : Severity, number.toNat = 17 + sev.code → t.records = s.records.map fun r =>
             if r.severity = sev then { r with
                 escalation := match r.escalation with
                   | none => none
                   | some left =>
                     if t.params.get number.toNat = 0 then none
                     else some (min (t.params.get number.toNat) left) }
             else r)
    ∧ (∀ (s : State) (x : LinkId) (hi lo : Byte) (rest : List Byte) (t : State),
       s.lawful → s.ready x → (s.link x).role = .technical → s.loading = false →
       exec (.setParameter x (20 :: hi :: lo :: rest)) s = .next t →
         let leavers := s.floor.take (s.floor.length - t.params.floorLimit)
         ∀ n : Seat,
           ((∀ e ∈ leavers, e.seat ≠ n) → t.monitor n = { s.monitor n with due := (t.monitor n).due })
           ∧ ((∃ e ∈ leavers, e.seat = n) → s.withdrawnFrom t n))

/-- READ PARAMETER, READ CURVE and READ PROFILE STATUS report what is held, in every sitting state and while a
save, load or compare is in flight, READ PROFILE STATUS during the start-up load too (R148, R156), and change
nothing but the link and the PROTECT level sampled (R45, R79, R148), which READ PROFILE STATUS carries as its
operand (the model's choice, log 17). -/
def Obligations.ConfigurationReadsReport : Prop :=
  (∀ (s : State) (x : LinkId) (rest : List Byte), s.ready x →
    (∀ number : Byte, 1 ≤ number.toNat → number.toNat ≤ 21 →
      exec (.readParameter x (number :: rest)) s
        = .next (s.replied x 0x11 .ok (number :: bytes2 (s.params.get number.toNat))))
    ∧ exec (.readParameter x (0 :: rest)) s = .next (s.replied x 0x11 .ok
        (0 :: (List.range 21).flatMap fun i => bytes2 (s.params.get (i + 1))))
    ∧ (∀ number : Byte, 21 < number.toNat →
      exec (.readParameter x (number :: rest)) s = .next (s.replied x 0x11 .range []))
    ∧ exec (.readCurve x rest) s = .next (s.replied x 0x0F .ok
        (s.curve.toList.flatMap fun b => bytes2 b.mv ++ [byte b.percent])))
    ∧ ∀ (s : State) (x : LinkId) (rest : List Byte) (protect : Bool),
      (s.link x).hears = true → (s.link x).reply = none → exec (.readProfileStatus x rest protect) s = .next
        ({ s with protect := protect }.replied x 0x25 .ok
          [byte s.profile.slotCount, byte (if protect then 1 else 0), byte s.profile.op.code,
           byte s.profile.lastOp.code, byte (s.profile.lastSlot.getD 255), byte s.profile.lastResult.code])

/-! ## The Warning List -/

/-- A raised or admitted record has the severity and the ack roles of its kind, is ACTIVE_UNACKED, dated by the
sitting clock, read and acknowledged by nobody, with its timer at its severity's time or stopped where that is 0
(R82, R83, R90).  A re-raise, a grade rise and a clearing change a record field by field as R84, R85 and R86 give,
leave it where it stands, and change nothing else; a clearing of an ACTIVE_ACKED record takes it out of the list,
an OPEN_NO_FLOOR one with its present value (R74, log 23), and an event that hands this outcome alone then admits
due marks into its place (R86, R88).  An event whose outcomes clear several ACTIVE_ACKED records makes all the
removals and then admits into all the places (R88); a raise handed between two of them finds the place that the
first left, and one handed after the last finds the list as the admission leaves it (R83; the model's reading,
log 6). -/
def Obligations.OutcomesWriteRecords : Prop :=
  (∀ (p : Params) (clock : Nat) (n : Seat) (k : Kind) (grade : Option Grade) (detail : Option Nat),
     let severity := match k with
       | .battery => if grade = some .critical then Severity.urgent else .caution
       | .mutedSpeech | .signalWeak => .caution
       | .batteryShortfall | .openNoFloor | .dropouts => .advisory
       | .signalLost => .urgent
     let time := match severity with
       | .advisory => p.escAdvisory
       | .caution => p.escCaution
       | .urgent => p.escUrgent
     newRecord p clock n k grade detail = {
       seat := n, kind := k, grade := grade, severity := severity, state := .activeUnacked,
       raisedAt := clock, changedAt := clock, repeats := 0, escalations := 0, detail := detail,
       roles := if k = .mutedSpeech ∨ k = .openNoFloor then ⟨true, false⟩ else ⟨false, true⟩,
       ackedBy := ⟨false, false, false⟩, seenBy := ⟨false, false, false⟩,
       escalation := if time = 0 then none else some time })
    ∧ (∀ (s : State) (o : HandedOutcome) (r : Record), s.record o.seat o.kind = some r →
       let put := fun f : Record → Record =>
         { s with records := s.records.map fun (q : Record) => if q.seat = o.seat ∧ q.kind = o.kind then f q else q }
       let time : Severity → Nat := fun sev => match sev with
         | .advisory => s.params.escAdvisory
         | .caution => s.params.escCaution
         | .urgent => s.params.escUrgent
       let timer := fun sev : Severity => if time sev = 0 then none else some (time sev)
       (o.verdict = .qualified → r.state = .clearedUnacked → s.applyOutcome o = put fun q =>
           let rises := q.kind = .battery ∧ q.grade = some .low ∧ o.grade = some .critical
           let severity := if rises then .urgent else q.severity
           { q with
             state := .activeUnacked, repeats := min 255 (q.repeats + 1), detail := o.detail
             seenBy := ⟨false, false, false⟩, changedAt := s.clock
             grade := if rises then some .critical else q.grade
             severity := severity, escalation := timer severity })
       ∧ (o.verdict = .gradeRise → r.state ≠ .clearedUnacked → s.applyOutcome o = put fun q => { q with
             grade := some .critical, severity := .urgent, state := .activeUnacked, detail := o.detail
             seenBy := ⟨false, false, false⟩, escalation := timer .urgent, changedAt := s.clock })
       ∧ (o.verdict = .cleared → r.state = .activeUnacked → s.applyOutcome o = put fun q => { q with
             state := .clearedUnacked, seenBy := ⟨false, false, false⟩, escalation := none, changedAt := s.clock })
       ∧ (o.verdict = .cleared → r.state = .activeAcked →
           let left : State := { s with records := s.records.filter fun q => q.seat ≠ o.seat ∨ q.kind ≠ o.kind }
           let was := s.monitor o.seat
           (o.kind ≠ .openNoFloor → s.applyOutcome o = left)
           ∧ (o.kind = .openNoFloor → s.applyOutcome o = left.putMonitor o.seat { was with
               openPv := 0, due := { was.due with openNoFloor := false }
               state := { was.state with openNoFloor :=
                 if s.sitting = .sitting ∧ (s.seat o.seat).mute = .opened ∧ s.onFloor o.seat = false then .qualifying
                 else .quiet } })
           ∧ s.applyOutcomes [o] = (s.applyOutcome o).fillFreed))
    ∧ (∀ (s : State) (os : List HandedOutcome), os ≠ [] →
       os.Pairwise (fun a b => a.seat ≠ b.seat ∨ a.kind ≠ b.kind) → (∀ o ∈ os, s.clearsAcked o) →
         s.applyOutcomes os = ({ s with
           records := s.records.filter fun q => os.all fun o => q.seat ≠ o.seat ∨ q.kind ≠ o.kind } : State).fillFreed)
    ∧ (∀ (s : State) (first raised last : HandedOutcome), s.listLaw →
       first.seat ≠ last.seat ∨ first.kind ≠ last.kind → s.clearsAcked first → s.clearsAcked last →
       raised.verdict = .qualified → s.record raised.seat raised.kind = none →
         let without := fun (rs : List Record) (o : HandedOutcome) =>
           rs.filter fun q => q.seat ≠ o.seat ∨ q.kind ≠ o.kind
         let new := newRecord s.params s.clock raised.seat raised.kind raised.grade raised.detail
         s.applyOutcomes [first, raised, last]
             = ({ s with records := without (without s.records first) last ++ [new] } : State).fillFreed
           ∧ s.applyOutcomes [first, raised]
             = ({ s with records := without s.records first } : State).fillFreed.applyOutcome raised)

/-- A full list (R83, R89, R90, R91): a qualified outcome with no record sets its due mark, raises nothing, and
makes every enabled link's overflow notice pending if no mark was outstanding at that outcome (the moment within
the event is the model's reading, log 7); and admission into free places
takes the marks in seat order, each seat's in kind order, until the list holds 48 records or no mark is left. -/
def Obligations.DueMarksWaitAndAreAdmitted : Prop :=
  ∀ s : State,
    (∀ o : HandedOutcome, o.verdict = .qualified → s.record o.seat o.kind = none → 48 ≤ s.records.length →
      (s.applyOutcome o).records = s.records ∧ (s.applyOutcome o).isDue o.seat o.kind = true
        ∧ ∀ x : LinkId, ((s.applyOutcome o).link x).notice
            = ((s.link x).notice || ((s.link x).enabled && !s.overflow)))
    ∧ (let waiting := (List.finRange 128).flatMap fun n => (allKinds.filter (s.isDue n)).map fun k => (n, k)
       let places := 48 - s.records.length
       s.fillFreed.records = s.records ++ (waiting.take places).map (fun m =>
            newRecord s.params s.clock m.1 m.2 (gradeOf m.2 (s.monitor m.1))
              (detailOf m.2 (s.seat m.1) (s.monitor m.1)))
        ∧ ∀ (n : Seat) (k : Kind), s.fillFreed.isDue n k = (s.isDue n k && !(waiting.take places).contains (n, k)))

/-- ESCALATION_EXPIRY at the last second of a running timer in SITTING or RECESS (R94, log 2): an ADVISORY or
CAUTION record rises one severity, becomes wide, news again and counted, with the timer of its new severity
(R95); an URGENT record becomes wide and counted if it was not, and its timer stops (R96). -/
def Obligations.EscalationExpiryEscalates : Prop :=
  ∀ (s : State) (n : Seat) (k : Kind) (r : Record), s.record n k = some r → s.sitting ≠ .setup →
    r.state = .activeUnacked → r.escalation = some 1 →
      let put := fun f : Record → Record =>
        { s with records := s.records.map fun (q : Record) => if q.seat = n ∧ q.kind = k then f q else q }
      s.listLaw →
        (r.severity ≠ .urgent → exec (.escalationExpiry n k) s = .next (put fun q => { q with
            severity := if q.severity = .advisory then .caution else .urgent
            roles := ⟨true, true⟩, escalations := q.escalations + 1, seenBy := ⟨false, false, false⟩
            changedAt := s.clock
            escalation :=
              let time := if q.severity = .advisory then s.params.escCaution else s.params.escUrgent
              if time = 0 then none else some time }))
        ∧ (r.severity = .urgent → r.roles ≠ ⟨true, true⟩ → exec (.escalationExpiry n k) s = .next (put fun q =>
            { q with
              roles := ⟨true, true⟩, escalations := q.escalations + 1, changedAt := s.clock
              escalation := none }))
        ∧ (r.severity = .urgent → r.roles = ⟨true, true⟩ → exec (.escalationExpiry n k) s = .next (put fun q =>
            { q with escalation := none }))

/-- PURGE CLEARED removes every CLEARED_UNACKED record in the link's view, and no other, and admits the first due
marks into the places that are free then, behind the records that are left (R88, R89, R90, R92): the reply carries
how many it removed.  The OPEN_NO_FLOOR present value of a seat whose record is among them returns to 0 (R68, R74), and
no other qualifier moves.  In a lawful state. -/
def Obligations.PurgeClearedRemovesTheCleared : Prop :=
  ∀ (s : State) (x : LinkId) (rest : List Byte), s.lawful → s.ready x → (s.link x).role = .technical →
    let gone := s.records.filter fun r => (s.link x).view.sees r && r.state == .clearedUnacked
    let kept := s.records.filter fun r => !((s.link x).view.sees r && r.state == .clearedUnacked)
    let taken := s.dueMarks.take (48 - kept.length)
    ∃ t : State, exec (.purgeCleared x rest) s = .next t
      ∧ t.records = kept ++ s.admitted taken
      ∧ (∀ (n : Seat) (k : Kind), t.isDue n k = (s.isDue n k && !taken.contains (n, k)))
      ∧ s.presentValuesReturned t gone
      ∧ s.repliesIn t x 0x16 .ok [byte gone.length]
      ∧ t = { s with monitors := t.monitors, records := t.records, links := t.links }

/-! ## Console contexts -/

/-- An attention output is asserted exactly when its link is enabled, unmasked, and has either an unseen in-view
ACTIVE_UNACKED record at or above its present threshold or a pending overflow notice (R106, R107, R108). -/
def Obligations.AttentionIsAssertedExactly : Prop :=
  ∀ (s : State) (x : LinkId),
    s.attention x = true ↔ (s.link x).role ≠ .disabled ∧ (s.link x).view.masked = false ∧
      ((∃ r ∈ s.records, (s.link x).view.base ≤ r.seat.val ∧ r.seat.val ≤ (s.link x).view.limit
          ∧ (match r.kind with
              | .battery | .batteryShortfall => (s.link x).view.classes.power
              | .mutedSpeech | .openNoFloor => (s.link x).view.classes.floor
              | .signalWeak | .dropouts | .signalLost => (s.link x).view.classes.radio) = true
          ∧ r.state = .activeUnacked
          ∧ (if s.sitting = .recess then (s.link x).view.recessThreshold
             else (s.link x).view.sittingThreshold).code ≤ r.severity.code
          ∧ r.seenBy.get x = false)
        ∨ (s.link x).notice = true)

/-- READ UNSEEN returns the first four in-view records the link has not seen, in list order, marks exactly those
seen by the link, and carries how many it has still not seen (R111).  READ WARNINGS returns up to four in-view
records from a position of 0 to 47, marks exactly those seen by the link, and carries the total in view; a higher
position is RANGE (R112). -/
def Obligations.ListReadsMarkSeen : Prop :=
  (∀ (s : State) (x : LinkId) (rest : List Byte), s.listLaw → s.ready x →
     let fresh := s.records.filter fun r => (s.link x).view.sees r && !r.seenBy.get x
     let picked := fresh.take 4
     exec (.readUnseen x rest) s = .next
       ({ s with records := s.records.map fun r =>
           if r ∈ picked then { r with seenBy := r.seenBy.set x true } else r }.replied x 0x12 .ok
         ([byte picked.length, byte (fresh.length - picked.length)]
           ++ picked.flatMap fun (r : Record) => recordBytes { r with seenBy := r.seenBy.set x true })))
    ∧ (∀ (s : State) (x : LinkId) (position : Byte) (rest : List Byte), s.listLaw → s.ready x →
       let seen := s.records.filter fun r => (s.link x).view.sees r
       let picked := (seen.drop position.toNat).take 4
       (47 < position.toNat →
         exec (.readWarnings x (position :: rest)) s = .next (s.replied x 0x13 .range []))
       ∧ (position.toNat ≤ 47 → exec (.readWarnings x (position :: rest)) s = .next
           ({ s with records := s.records.map fun r =>
               if r ∈ picked then { r with seenBy := r.seenBy.set x true } else r }.replied x 0x13 .ok
             ([byte seen.length, position, byte picked.length]
               ++ picked.flatMap fun (r : Record) => recordBytes { r with seenBy := r.seenBy.set x true }))))

/-- The warning record as the reads send it, 20 bytes (R81, R157, 10.4), and the reply frame: A5h, LEN over CODE to
the last payload byte, CODE with its top bit set, the status code of 10.2, payload, and a CHECK that makes the sum
from LEN on 0 modulo 256, for a payload that fits (R139). -/
def Obligations.RecordAndFrameLayouts : Prop :=
  (∀ r : Record, recordBytes r =
     [byte r.seat.val,
      byte (match r.kind with
        | .battery => 1 | .batteryShortfall => 2 | .mutedSpeech => 3 | .openNoFloor => 4 | .signalWeak => 5
        | .dropouts => 6 | .signalLost => 7),
      byte (match r.grade with | none => 0 | some .low => 1 | some .critical => 2),
      byte (match r.severity with | .advisory => 0 | .caution => 1 | .urgent => 2),
      byte (match r.state with | .activeUnacked => 0 | .activeAcked => 1 | .clearedUnacked => 2)]
     ++ bytes3 r.raisedAt ++ bytes3 r.changedAt ++ [byte r.repeats, byte r.escalations]
     ++ bytes2 (r.detail.getD 65535)
     ++ [byte ((if r.roles.presiding then 1 else 0) + (if r.roles.technical then 2 else 0)),
         byte ((if r.ackedBy.a then 1 else 0) + (if r.ackedBy.b then 2 else 0) + (if r.ackedBy.c then 4 else 0)),
         byte ((if r.seenBy.a then 1 else 0) + (if r.seenBy.b then 2 else 0) + (if r.seenBy.c then 4 else 0))]
     ++ bytes2 (r.escalation.getD 0))
    ∧ (∀ (code : Byte) (st : ReplyStatus) (payload : List Byte), code.toNat < 128 → payload.length ≤ 253 →
       ∃ check : Byte,
         replyFrame code st payload = [0xA5, byte (payload.length + 2), byte (code.toNat + 128),
           byte (match st with
             | .ok => 0 | .adjusted => 1 | .busy => 2 | .role => 3 | .state => 4 | .range => 5 | .notFound => 6
             | .full => 7 | .inUse => 8 | .unknown => 9 | .writeProtected => 10)] ++ payload ++ [check]
           ∧ byteSum (replyFrame code st payload).tail % 256 = 0)

/-- ACK WARNING (R87, R114): no in-view record is NOT_FOUND; a role outside the record's ack roles is ROLE with the
severity and roles, and nothing changes; an active record becomes or stays ACTIVE_ACKED with the link in acked-by; a
CLEARED_UNACKED record leaves the list, an OPEN_NO_FLOOR one with the seat's present value returned to 0 (R68, R74),
and the first due mark is admitted into its place at the end (R88, R89, R90).  In a lawful state.  A seat above 127
or a kind byte outside 1 to 7 is RANGE (R114, R157). -/
def Obligations.AckWarningAcknowledges : Prop :=
  (∀ (s : State) (x : LinkId) (seat kind : Byte) (rest : List Byte),
     s.ready x → (s.link x).role = .presiding ∨ (s.link x).role = .technical →
     127 < seat.toNat ∨ kind = 0 ∨ 7 < kind.toNat →
       exec (.ackWarning x (seat :: kind :: rest)) s = .next (s.replied x 0x14 .range []))
  ∧ ∀ (s : State) (x : LinkId) (seat kind : Byte) (rest : List Byte) (n : Seat) (k : Kind),
    s.lawful → s.ready x → (s.link x).role = .presiding ∨ (s.link x).role = .technical →
    seat.toNat = n.val → kind.toNat = kindCode k →
      let sent := exec (.ackWarning x (seat :: kind :: rest)) s
      let admits := fun r : Record =>
        ((s.link x).role = .presiding ∧ r.roles.presiding = true)
          ∨ ((s.link x).role = .technical ∧ r.roles.technical = true)
      let put := fun f : Record → Record =>
        { s with records := s.records.map fun (q : Record) => if q.seat = n ∧ q.kind = k then f q else q }
      ((∀ r ∈ s.records, r.seat = n → r.kind = k → (s.link x).view.sees r = false) →
        sent = .next (s.replied x 0x14 .notFound []))
      ∧ ∀ r ∈ s.records, r.seat = n → r.kind = k → (s.link x).view.sees r = true →
          (¬admits r → sent = .next (s.replied x 0x14 .role [byte r.severity.code, byte r.roles.code]))
          ∧ (admits r → r.state = .activeUnacked → sent = .next
              ((put fun q => { q with
                state := .activeAcked, ackedBy := q.ackedBy.set x true, escalation := none
                changedAt := s.clock }).replied x 0x14 .ok [seat, kind, 0, 1]))
          ∧ (admits r → r.state = .activeAcked → sent = .next
              ((put fun q => { q with ackedBy := q.ackedBy.set x true }).replied x 0x14 .ok [seat, kind, 1, 1]))
          ∧ (admits r → r.state = .clearedUnacked → ∃ t : State, sent = .next t
                ∧ t.records = s.records.filter (fun q => q.seat ≠ n ∨ q.kind ≠ k) ++ s.admitted (s.dueMarks.take 1)
                ∧ (∀ (m : Seat) (j : Kind), t.isDue m j = (s.isDue m j && !(s.dueMarks.take 1).contains (m, j)))
                ∧ s.presentValuesReturned t [r]
                ∧ s.repliesIn t x 0x14 .ok [seat, kind, 2, 2]
                ∧ t = { s with monitors := t.monitors, records := t.records, links := t.links })

/-- ACK GROUP acknowledges, in one event, exactly the in-view records of the group's seats and the set's classes that
the link's role may acknowledge and that are not yet acknowledged: the active ones become ACTIVE_ACKED, the cleared
ones leave, the OPEN_NO_FLOOR present values of their seats returned to 0 (R68, R74), the first due marks are
admitted into the places then free, behind the rest (R88, R89, R90), and the reply counts them (R115).  In a lawful
state. -/
def Obligations.AckGroupAcknowledgesTheSelected : Prop :=
  ∀ (s : State) (x : LinkId) (group mask set : Byte) (rest : List Byte),
    s.lawful → s.ready x → (s.link x).role = .presiding ∨ (s.link x).role = .technical →
      (15 < group.toNat ∨ 15 < mask.toNat →
        exec (.ackGroup x (group :: mask :: set :: rest)) s = .next (s.replied x 0x15 .range []))
      ∧ (group.toNat ≤ 15 → mask.toNat ≤ 15 →
        let chosen := fun r : Record => (s.link x).view.sees r = true
          ∧ (match r.kind with
              | .battery | .batteryShortfall => set.getLsbD 0
              | .mutedSpeech | .openNoFloor => set.getLsbD 1
              | .signalWeak | .dropouts | .signalLost => set.getLsbD 2) = true
          ∧ (s.seat r.seat).group &&& mask.toNat = group.toNat &&& mask.toNat
          ∧ (((s.link x).role = .presiding ∧ r.roles.presiding = true)
              ∨ ((s.link x).role = .technical ∧ r.roles.technical = true))
          ∧ r.state ≠ .activeAcked
        ∃ (t : State) (picked kept : List Record),
          exec (.ackGroup x (group :: mask :: set :: rest)) s = .next t
            ∧ picked.Sublist s.records ∧ (∀ r ∈ s.records, r ∈ picked ↔ chosen r)
            ∧ kept = (s.records.filterMap fun r =>
                if r ∈ picked then
                  (if r.state = .clearedUnacked then none
                   else some { r with
                      state := .activeAcked, ackedBy := r.ackedBy.set x true, escalation := none
                      changedAt := s.clock })
                else some r)
            ∧ t.records = kept ++ s.admitted (s.dueMarks.take (48 - kept.length))
            ∧ (∀ (n : Seat) (k : Kind),
                t.isDue n k = (s.isDue n k && !(s.dueMarks.take (48 - kept.length)).contains (n, k)))
            ∧ s.presentValuesReturned t (picked.filter fun r => r.state == .clearedUnacked)
            ∧ s.repliesIn t x 0x15 .ok [byte picked.length]
            ∧ t = { s with monitors := t.monitors, records := t.records, links := t.links })

/-- SET VIEW writes the six items into the link's view, and into its default record when the default flag is
set, a base or limit above 127 taken as 127 and the reply then ADJUSTED; a threshold or mask outside its codes is
RANGE (R104, R117, R157).  READ VIEW and READ FLOOR report the context and the floor as they stand (R118, R134).
Nothing else changes. -/
def Obligations.ViewsAreWrittenAndRead : Prop :=
  (∀ (s : State) (x : LinkId) (base limit classes sitting recess mask dflt : Byte) (rest : List Byte), s.ready x →
     let sent := exec (.setView x (base :: limit :: classes :: sitting :: recess :: mask :: dflt :: rest)) s
     let level := fun b : Byte => if b = 0 then Severity.advisory else if b = 1 then .caution else .urgent
     let view : View := {
       base := min 127 base.toNat, limit := min 127 limit.toNat
       classes := ⟨classes.getLsbD 0, classes.getLsbD 1, classes.getLsbD 2⟩
       sittingThreshold := level sitting, recessThreshold := level recess, masked := mask == 1 }
     let default := if dflt = 0 then (s.link x).default else view
     (2 < sitting.toNat ∨ 2 < recess.toNat ∨ 1 < mask.toNat → sent = .next (s.replied x 0x17 .range []))
     ∧ (sitting.toNat ≤ 2 → recess.toNat ≤ 2 → mask.toNat ≤ 1 → sent = .next
         ((s.putLink x { s.link x with view := view, default := default }).replied x 0x17
           (if 127 < base.toNat ∨ 127 < limit.toNat then .adjusted else .ok)
           (view.toBytes ++ default.toBytes ++ [byte (s.records.filter view.sees).length]))))
    ∧ (∀ (s : State) (x : LinkId) (rest : List Byte), s.ready x →
       let l := s.link x
       let threshold := if s.sitting = .recess then l.view.recessThreshold else l.view.sittingThreshold
       let seen := s.records.filter fun r => l.view.sees r
       exec (.readView x rest) s = .next (s.replied x 0x18 .ok
         ([byte l.role.code] ++ l.view.toBytes ++ [byte threshold.code] ++ l.default.toBytes
           ++ [byte seen.length, byte (seen.filter fun r => !r.seenBy.get x).length,
               byte (if l.notice then 1 else 0), byte (if s.attention x then 1 else 0)]))
       ∧ exec (.readFloor x rest) s = .next (s.replied x 0x21 .ok
         ([byte s.sitting.code] ++ bytes2 s.params.floorLimit ++ bytes2 s.params.floorPolicy ++ [byte s.floor.length]
           ++ s.floor.flatMap fun e => [byte e.seat.val] ++ bytes3 e.grantedAt
             ++ [byte (s.seat e.seat).mute.code, byte (if (s.seat e.seat).voice then 1 else 0),
                 byte (s.seat e.seat).signal.code])))

/-! ## Sitting Control and the floor -/

/-- START SITTING (R70, R124): the state becomes SITTING, the clock 0 and L the length, clamped at 1439; every
bound seat is evaluated, so that SIGNAL_LOST is QUALIFIED exactly for the lost, OPEN_NO_FLOOR counts from 0
exactly where mute is OPEN off the floor, SIGNAL_WEAK waits, or is QUALIFIED where its set value is 0, exactly
where its condition holds, BATTERY_SHORTFALL is QUALIFIED exactly for the short (R56), and MUTED_SPEECH stays
QUIET; BATTERY and SIGNAL_WEAK wait or are QUALIFIED as R60 gives, BATTERY with its grade (R66).  The qualified
outcomes reach the empty list in ascending seat order, each seat's in kind order (R59, R83): the first 48 are its
records, each with its grade and detail, the rest wait as due marks, and if there are any, every enabled link's
overflow notice is pending (R75, R91, R109).  The reply reports the list.  In a lawful state. -/
def Obligations.StartSittingEvaluatesTheChamber : Prop :=
  ∀ (s : State) (x : LinkId) (hi lo : Byte) (rest : List Byte),
    s.lawful → s.ready x → (s.link x).role = .presiding → s.loading = false → s.sitting = .setup →
      let asked := 256 * hi.toNat + lo.toNat
      ∃ t : State, exec (.startSitting x (hi :: lo :: rest)) s = .next t
        ∧ t.sitting = .sitting ∧ t.clock = 0 ∧ t.scheduled = min 1439 asked
        ∧ (∀ n : Seat, s.bound n = true →
            ((t.monitor n).state.signalLost = .qualified ↔ (s.seat n).signal = .lost)
            ∧ (t.monitor n).state.openNoFloor = (if (s.seat n).mute = .opened then .qualifying else .quiet)
            ∧ (t.monitor n).openPv = 0 ∧ (t.monitor n).state.mutedSpeech = .quiet
            ∧ ((t.monitor n).state.dropouts = .qualified ↔ s.params.dropoutLimit ≤ (s.seat n).dropouts)
            ∧ ((t.monitor n).state.dropouts = .qualified → (t.monitor n).windowMark = true)
            ∧ ((t.monitor n).state.battery, (t.monitor n).batteryPv) =
                eventMove s.params.batteryQualify ((s.seat n).est.percent.any (· ≤ s.params.batteryLowPct)) false
                  .quiet s.params.batteryQualify
            ∧ (t.monitor n).grade = (if (t.monitor n).state.battery ≠ .qualified then none
                else if (s.seat n).est.percent.any (· ≤ s.params.batteryCritPct) then some .critical else some .low)
            ∧ ((t.monitor n).state.signalWeak, (t.monitor n).weakPv) =
                eventMove s.params.weakQualify
                  (((s.seat n).signal == .heard || (s.seat n).signal == .fading)
                    && ((s.seat n).levelStore.map (· / 4)).any (· < s.params.weakLevel))
                  false .quiet s.params.weakQualify
            ∧ ((t.monitor n).state.batteryShortfall = .qualified ↔
                ∃ r, (s.seat n).est.minutes = some r ∧ r < min 1439 asked + s.params.reserveMin))
        ∧ (let kinds : List Kind :=
             [.battery, .batteryShortfall, .mutedSpeech, .openNoFloor, .signalWeak, .dropouts, .signalLost]
           let handed := (List.finRange 128).flatMap fun n =>
             (kinds.filter fun k => (t.monitor n).state.get k == .qualified).map fun k => (n, k)
           t.records = (handed.take 48).map (fun m =>
               newRecord s.params 0 m.1 m.2 (if m.2 = .battery then (t.monitor m.1).grade else none) (match m.2 with
                 | .battery => (s.seat m.1).est.percent
                 | .batteryShortfall => (s.seat m.1).est.minutes
                 | .openNoFloor => some 0
                 | .signalWeak => (s.seat m.1).levelStore.map (· / 4)
                 | .dropouts => some (s.seat m.1).dropouts
                 | .mutedSpeech | .signalLost => none))
             ∧ (∀ (n : Seat) (k : Kind), t.isDue n k = (handed.drop 48).contains (n, k))
             ∧ ∀ y : LinkId, (t.link y).notice
                 = ((s.link y).notice || ((s.link y).enabled && decide (48 < handed.length))))
        ∧ s.repliesIn t x 0x19 (if 1439 < asked then .adjusted else .ok)
            ([0x01] ++ bytes2 (min 1439 asked) ++ [0, 0, 0]
              ++ [byte t.records.length, byte (if t.overflow then 1 else 0)])
        ∧ t = { s with
            sitting := t.sitting, clock := t.clock, scheduled := t.scheduled, monitors := t.monitors,
            records := t.records, links := t.links }

/-- RECESS (R71, R126): the floor is emptied, every bound seat's FLOOR-class qualifiers become QUIET with their
present values reset and their due marks dropped, and its ACTIVE_UNACKED FLOOR-class records become
CLEARED_UNACKED while its ACTIVE_ACKED ones leave; the other records and qualifiers stay, and the first due marks
of other kinds are admitted into the places then free (R88, R89, R90).  RESUME (R71, R127): the
state becomes SITTING, and for every bound seat OPEN_NO_FLOOR counts from 0 exactly where mute is OPEN and
MUTED_SPEECH stays QUIET; list, floor and clock stay.  That no other kind is evaluated at RECESS and RESUME,
where R59 names every bound seat, is the model's reading (log 26).  In a lawful state. -/
def Obligations.RecessAndResume : Prop :=
  (∀ (s : State) (x : LinkId) (rest : List Byte),
     s.lawful → s.ready x → (s.link x).role = .presiding → s.sitting = .sitting → ∃ t : State,
       exec (.recess x rest) s = .next t
         ∧ t.sitting = .recess ∧ t.floor = []
         ∧ (∀ n : Seat, s.bound n = true →
             (t.monitor n).state = { (s.monitor n).state with mutedSpeech := .quiet, openNoFloor := .quiet }
             ∧ (t.monitor n).mutedPv = s.params.mutedSpeechQualify ∧ (t.monitor n).openPv = 0
             ∧ t.isDue n .mutedSpeech = false ∧ t.isDue n .openNoFloor = false)
         ∧ (let kept := s.records.filterMap fun r =>
                 if r.kind = .mutedSpeech ∨ r.kind = .openNoFloor then match r.state with
                   | .activeUnacked => some { r with
                       state := .clearedUnacked, seenBy := ⟨false, false, false⟩, escalation := none
                       changedAt := s.clock }
                   | .activeAcked => none
                   | .clearedUnacked => some r
                 else some r
             let marks := s.dueMarks.filter fun m => m.2 ≠ .mutedSpeech ∧ m.2 ≠ .openNoFloor
             t.records = kept ++ s.admitted (marks.take (48 - kept.length))
             ∧ ∀ (n : Seat) (k : Kind),
                 t.isDue n k = (marks.contains (n, k) && !(marks.take (48 - kept.length)).contains (n, k)))
         ∧ s.repliesIn t x 0x1B .ok ([0x02] ++ bytes3 s.clock ++ [byte s.floor.length])
         ∧ t = { s with
             sitting := t.sitting, floor := t.floor, monitors := t.monitors, records := t.records,
             links := t.links })
    ∧ (∀ (s : State) (x : LinkId) (rest : List Byte),
       s.lawful → s.ready x → (s.link x).role = .presiding → s.sitting = .recess → ∃ t : State,
         exec (.resume x rest) s = .next (t.replied x 0x1C .ok ([0x01] ++ bytes3 s.clock))
           ∧ t = { s with sitting := .sitting, monitors := t.monitors }
           ∧ ∀ n : Seat, t.monitor n = { s.monitor n with state := { (s.monitor n).state with
               mutedSpeech := .quiet
               openNoFloor := if s.bound n = true ∧ (s.seat n).mute = .opened then .qualifying else .quiet } })

/-- END SITTING, from a presiding or a technical link (R72, R93, R128): SETUP, the floor and the list empty, no
due mark, every qualifier QUIET at its reset values; the clock, L, the seats and every notice are kept. -/
def Obligations.EndSittingEmptiesTheList : Prop :=
  ∀ (s : State) (x : LinkId) (rest : List Byte),
    s.ready x → (s.link x).role = .presiding ∨ (s.link x).role = .technical → s.sitting ≠ .setup → ∃ t : State,
      exec (.endSitting x rest) s
          = .next (t.replied x 0x1D .ok ([0x00] ++ bytes3 s.clock ++ [byte s.records.length]))
        ∧ t = { s with sitting := .setup, floor := [], records := [], monitors := t.monitors }
        ∧ t.overflow = false
        ∧ ∀ n : Seat, (∀ k : Kind, (t.monitor n).state.get k = .quiet ∧ t.isDue n k = false)
          ∧ (t.monitor n).batteryPv = s.params.batteryQualify ∧ (t.monitor n).mutedPv = s.params.mutedSpeechQualify
          ∧ (t.monitor n).weakPv = s.params.weakQualify ∧ (t.monitor n).openPv = 0
          ∧ (t.monitor n).grade = none ∧ (t.monitor n).held = none ∧ (t.monitor n).windowMark = false

/-- GRANT FLOOR in SITTING, case by case (R130): a seat already on the floor changes nothing; a place is taken at the
end of the list; a full list under REFUSE is left; under REPLACE_OLDEST the oldest leaves first.  A seat that joins
has its OPEN_NO_FLOOR present value at 0 and is off that count (R73).  In a lawful state its MUTED_SPEECH enters, if
mute is MUTED and voice is yes, as R60 and R67 give, it keeps no active OPEN_NO_FLOOR record and no due mark of it,
the seat that left has its qualifiers as a withdrawal leaves them, and no other qualifier moves (R73, R130).  The
floor list that the NOT_FOUND and FULL replies carry is the model's reading of "In every case" (log 11). -/
def Obligations.GrantFloorByCases : Prop :=
  ∀ (s : State) (x : LinkId) (seat : Byte) (rest : List Byte) (n : Seat),
    s.ready x → (s.link x).role = .presiding → s.sitting = .sitting → seat.toNat = n.val →
      let sent := exec (.grantFloor x (seat :: rest)) s
      let list := fun floor : List FloorEntry =>
        byte floor.length :: floor.flatMap fun e => byte e.seat.val :: bytes3 e.grantedAt
      let speaks := (s.seat n).mute == .muted && (s.seat n).voice
      let joins := fun (floor : List FloorEntry) (oldest : Option Seat) => ∃ t : State, sent = .next t
        ∧ t.floor = floor ++ [⟨n, s.clock⟩]
        ∧ (t.monitor n).openPv = 0 ∧ (t.monitor n).state.openNoFloor = .quiet
        ∧ (s.lawful →
            (t.monitor n).state = { (s.monitor n).state with
                openNoFloor := .quiet, mutedSpeech := (t.monitor n).state.mutedSpeech }
            ∧ ((t.monitor n).state.mutedSpeech, (t.monitor n).mutedPv)
                = eventMove s.params.mutedSpeechQualify speaks false .quiet (s.monitor n).mutedPv
            ∧ ((t.monitor n).state.mutedSpeech = .qualified → t.warned n .mutedSpeech none)
            ∧ t.isDue n .openNoFloor = false ∧ (∀ r, t.record n .openNoFloor = some r → r.state = .clearedUnacked)
            ∧ (oldest = none → (s.monitor n).state.openNoFloor = .qualified → s.clearedReaches t n .openNoFloor)
            ∧ (∀ m, oldest = some m → s.withdrawnFrom t m)
            ∧ ∀ m, m ≠ n → oldest ≠ some m → t.monitor m = { s.monitor m with due := (t.monitor m).due })
        ∧ s.repliesIn t x 0x1E .ok ((match oldest with | none => 0xFF | some m => byte m.val) :: list t.floor)
        ∧ t = { s with floor := t.floor, monitors := t.monitors, records := t.records, links := t.links }
      (s.bound n = false → sent = .next (s.replied x 0x1E .notFound (0xFF :: list s.floor)))
      ∧ (s.bound n = true →
          (s.onFloor n = true → sent = .next (s.replied x 0x1E .ok (0xFF :: list s.floor)))
          ∧ (s.onFloor n = false → s.floor.length < s.params.floorLimit → joins s.floor none)
          ∧ (s.onFloor n = false → s.params.floorLimit ≤ s.floor.length → s.params.floorPolicy = 0 →
              sent = .next (s.replied x 0x1E .full (0xFF :: list s.floor)))
          ∧ ∀ oldest others, s.onFloor n = false → s.params.floorLimit ≤ s.floor.length →
              s.params.floorPolicy ≠ 0 → s.floor = oldest :: others → joins others (some oldest.seat))

/-- WITHDRAW FLOOR takes one seat off the floor and WITHDRAW ALL every seat, in order kept behind it; in a lawful
state each seat that leaves has MUTED_SPEECH QUIET, its clearing handed to the list, and starts to count
OPEN_NO_FLOOR if its mute is OPEN, or is QUALIFIED at once at its held present value, and no other qualifier moves; a
seat not on the floor is NOT_FOUND (R73, R131). -/
def Obligations.WithdrawalsTakeTheFloor : Prop :=
  ∀ (s : State) (x : LinkId) (rest : List Byte),
    s.lawful → s.ready x → (s.link x).role = .presiding → s.sitting = .sitting →
      let kept := fun (t : State) (n : Seat) => t.monitor n = { s.monitor n with due := (t.monitor n).due }
      (∀ (seat : Byte) (n : Seat), seat.toNat = n.val →
        (s.onFloor n = false →
          exec (.withdrawFloor x (seat :: rest)) s = .next (s.replied x 0x1F .notFound []))
        ∧ (s.onFloor n = true → ∃ t : State, exec (.withdrawFloor x (seat :: rest)) s = .next t
          ∧ t.floor = s.floor.filter (fun e => e.seat != n) ∧ s.withdrawnFrom t n ∧ (∀ m, m ≠ n → kept t m)
          ∧ s.repliesIn t x 0x1F .ok
              (byte t.floor.length :: t.floor.flatMap fun e => byte e.seat.val :: bytes3 e.grantedAt)
          ∧ t = { s with floor := t.floor, monitors := t.monitors, records := t.records, links := t.links }))
      ∧ ∃ t : State, exec (.withdrawAll x rest) s = .next t ∧ t.floor = []
          ∧ (∀ n : Seat, (s.onFloor n = true → s.withdrawnFrom t n) ∧ (s.onFloor n = false → kept t n))
          ∧ s.repliesIn t x 0x20 .ok [byte s.floor.length]
          ∧ t = { s with floor := t.floor, monitors := t.monitors, records := t.records, links := t.links }

/-! ## Console links -/

/-- A character on an enabled link's line that completes no good frame moves the assembly and sets the flags as
R136 and R137 give, and on a DISABLED link (R105) or after a break (R144) nothing moves; but for the sampled
PROTECT level (log 17) nothing else changes. -/
def Obligations.LinkCharacterMovesAssembly : Prop :=
  ∀ (s : State) (x : LinkId) (ch : Byte) (stop protect : Bool),
    let l := s.link x
    let sent := exec (.linkCharacter x ch stop protect) s
    let becomes := fun l' : LinkState => sent = .next ({ s with protect := protect }.putLink x l')
    (l.hears = false → sent = .next { s with protect := protect })
    ∧ (l.hears = true →
      (stop = true → becomes { l with assembly := .hunt, flags := { l.flags with framing := true } })
      ∧ (stop = false →
        (l.assembly = .hunt → becomes { l with assembly := if ch = 0xA5 then .length else .hunt })
        ∧ (l.assembly = .length → becomes
            (if 1 ≤ ch.toNat ∧ ch.toNat ≤ 60 then { l with assembly := .body ch.toNat [] }
             else if ch = 0xA5 then l
             else { l with assembly := .hunt, flags := { l.flags with format := true } }))
        ∧ ∀ len got, l.assembly = .body len got →
          (got.length < len → becomes { l with assembly := .body len (got ++ [ch]) })
          ∧ (len ≤ got.length → (len + byteSum (got ++ [ch])) % 256 ≠ 0 →
              becomes { l with assembly := .hunt, flags := { l.flags with check := true } })))

/-- The character that completes a good frame does what the command of that request does (R137, R138; that these
commands stand for such frames is the model's choice, log 5).  A good request that finds a reply in progress is
held if the hold is empty, and discarded with OVERRUN if it is full; nothing is carried out, and `protect` takes
the operand of PROFILE SAVE and READ PROFILE STATUS alone (R138; the operand is the model's choice, log 17). -/
def Obligations.GoodFrameIsTakenHeldOrDiscarded : Prop :=
  (∀ (s : State) (x : LinkId) (code check : Byte) (payload : List Byte) (protect : Bool) (c : Instr),
     (s.link x).hears = true → (s.link x).assembly = .body (payload.length + 1) (code :: payload) →
     (payload.length + 1 + code.toNat + byteSum payload + check.toNat) % 256 = 0 →
     asRequest c = some (x, code, payload) →
     (∀ p, c = .profileSave x payload p → p = protect) → (∀ p, c = .readProfileStatus x payload p → p = protect) →
       exec (.linkCharacter x check false protect) s = exec c { s with protect := protect })
    ∧ (∀ (s : State) (x : LinkId) (code : Byte) (payload : List Byte) (c : Instr),
       asRequest c = some (x, code, payload) → (s.link x).hears = true → (s.link x).reply ≠ none → ∃ t : State,
         exec c s = .next t ∧ t = { s with links := t.links, protect := s.protectAfter c }
           ∧ (∀ y, y ≠ x → t.link y = s.link y)
           ∧ ((s.link x).hold = none → t.link x = { s.link x with assembly := .hunt, hold := some ⟨code, payload⟩ })
           ∧ ((s.link x).hold ≠ none → t.link x = { s.link x with
               assembly := .hunt, flags := { (s.link x).flags with overrun := true } }))

/-- REPLY_END (R138): with the hold empty no reply is in progress any more; with a request held, that request,
whichever it is, is taken in the same event against the state as it stands, its reply comes into progress and the
hold is empty.  On a link in HUNT this is what the request's own command does on the link now idle.  STATUS (R145)
and a CODE that names no request (R140) are written out.  With no reply in progress nothing but the sampled PROTECT
level changes (log 17, log 18). -/
def Obligations.ReplyEndTakesTheHeldRequest : Prop :=
  ∀ (s : State) (x : LinkId) (protect : Bool),
    let l := s.link x
    let sent := exec (.replyEnd x protect) s
    let idle := { s with protect := protect }.putLink x { l with reply := none, hold := none }
    (l.reply = none → sent = .next { s with protect := protect })
    ∧ (l.reply ≠ none → l.hold = none → sent = .next idle)
    ∧ (∀ r, l.reply ≠ none → l.hold = some r → sent = .next (idle.takeRequest x r)
        ∧ ((idle.takeRequest x r).link x).hold = none ∧ ((idle.takeRequest x r).link x).reply ≠ none)
    ∧ (∀ (c : Instr) code payload, l.reply ≠ none → l.hold = some ⟨code, payload⟩ → l.hears = true →
        l.assembly = .hunt → asRequest c = some (x, code, payload) →
        (∀ p, c = .profileSave x payload p → p = protect) → (∀ p, c = .readProfileStatus x payload p → p = protect) →
          sent = exec c idle)
    ∧ (∀ code payload, l.reply ≠ none → l.hold = some ⟨code, payload⟩ → s.startUpLoading = false →
        code = 0 ∨ 37 < code.toNat → sent = .next (idle.putLink x { l with
          hold := none, reply := some (replyFrame code .unknown []) }))
    ∧ ∀ payload, l.reply ≠ none → l.hold = some ⟨0x01, payload⟩ → l.enabled = true →
        ∃ body, sent = .next (idle.putLink x { l with
          hold := none, notice := false, reply := some (replyFrame 0x01 .ok body) })

/-- LINK_BREAK on an enabled link (R116, R144): assembly to HUNT, hold and reply gone, the view at its default
record, flags clear, the notice as the overflow status stands, and the link out of every record's seen-by; no
other link, record field or block changes.  While the line stays at space no further break comes and no
character is received (R144), nor any request that such characters would make up: nothing but the sampled PROTECT
level moves (log 17).  LINK_RETURN_TO_MARK ends that. -/
def Obligations.LinkBreakResetsTheContext : Prop :=
  ∀ (s : State) (x : LinkId),
    ((s.link x).enabled = true → (s.link x).inBreak = false → exec (.linkBreak x) s = .next
      { s.putLink x { s.link x with
          assembly := .hunt, hold := none, reply := none, view := (s.link x).default
          flags := ⟨false, false, false, false⟩, notice := s.overflow, inBreak := true } with
        records := s.records.map fun r => { r with seenBy := r.seenBy.set x false } })
    ∧ ((s.link x).enabled = false ∨ (s.link x).inBreak = true → exec (.linkBreak x) s = .next s)
    ∧ ((s.link x).inBreak = true →
        (∀ (ch : Byte) (stop protect : Bool),
          exec (.linkCharacter x ch stop protect) s = .next { s with protect := protect })
        ∧ ∀ (c : Instr) (code : Byte) (payload : List Byte), asRequest c = some (x, code, payload) →
            exec c s = .next { s with protect := s.protectAfter c })
    ∧ exec (.linkReturnToMark x) s = .next (s.putLink x { s.link x with inBreak := false })

/-- A request whose CODE names no request is answered UNKNOWN (R140 step 2), STATUS is answered OK in every
state, even during the start-up load, and clears its own link's notice (R109, R145), and CLEAR LINK FLAGS clears
the flags its set names on its own link (R143). -/
def Obligations.LinksAnswerTheirOwnRequests : Prop :=
  ∀ (s : State) (x : LinkId) (rest : List Byte), (s.link x).hears = true → (s.link x).reply = none →
    let l := s.link x
    (∀ code : Byte, code = 0 ∨ 37 < code.toNat → s.startUpLoading = false →
      exec (.unknownRequest x code rest) s = .next (s.replied x code .unknown []))
    ∧ exec (.status x rest) s = .next ((s.putLink x { l with notice := false }).replied x 0x01 .ok
        ([byte l.role.code, byte s.sitting.code] ++ bytes3 s.clock ++ bytes2 s.scheduled
          ++ [byte s.records.length, byte (if s.overflow then 1 else 0), byte (if l.notice then 1 else 0),
              byte s.profile.op.code, byte s.profile.lastResult.code, byte l.flags.code]))
    ∧ ∀ set : Byte, s.startUpLoading = false →
        let flags : LineFlags := ⟨l.flags.framing && !set.getLsbD 0, l.flags.check && !set.getLsbD 1,
          l.flags.format && !set.getLsbD 2, l.flags.overrun && !set.getLsbD 3⟩
        exec (.clearLinkFlags x (set :: rest)) s = .next
          ((s.putLink x { l with flags := flags }).replied x 0x02 .ok [byte flags.code])

/-- During the start-up load every request but STATUS and READ PROFILE STATUS is answered BUSY before any other
check, a CODE that names no request among them (R140 step 1, R156).  A request from a link whose role it does not
admit is answered ROLE, the roles of each CODE being those of the table of R140.  With the role admitted, a request
that an operation in flight turns away is answered BUSY (R12, R44, R78, R123, R149), then one that the sitting state
does not admit STATE, then one with a short payload, or with a port set, port, parameter number or seat outside its
range, RANGE (R13, R15, R27, R28, R78, R114, R130, R131, R140); and the parameters that SETUP alone may write are
answered STATE outside it (R78).  Each carries no payload and changes nothing else; `protect` takes the operand of
PROFILE SAVE and READ PROFILE STATUS alone (the model's choice, log 17). -/
def Obligations.RefusedRequestsChangeNothing : Prop :=
  (∀ (s : State) (x : LinkId) (code : Byte) (payload : List Byte) (c : Instr),
     asRequest c = some (x, code, payload) → code ≠ 0x01 → code ≠ 0x25 →
     (s.link x).hears = true → (s.link x).reply = none → s.startUpLoading = true →
       exec c s = .next ({ s with protect := s.protectAfter c }.replied x code .busy []))
    ∧ (∀ (s : State) (x : LinkId) (code : Byte) (payload : List Byte) (c : Instr),
       asRequest c = some (x, code, payload) → 1 ≤ code.toNat → code.toNat ≤ 37 → s.ready x →
       let refused := fun st => exec c s = .next ({ s with protect := s.protectAfter c }.replied x code st [])
       let role := (s.link x).role
       (roleAdmits code role = false → refused .role)
       ∧ (roleAdmits code role = true → s.busyFor code = true → refused .busy)
       ∧ (roleAdmits code role = true → s.busyFor code = false →
           (sittingAdmits code s.sitting = false → refused .state)
           ∧ (sittingAdmits code s.sitting = true → payload.length < layoutLength code → refused .range)
           ∧ (sittingAdmits code s.sitting = true → ∀ first rest, payload = first :: rest →
               outsideRange code first = true → refused .range)
           ∧ ∀ number hi lo rest, code = 0x10 → payload = number :: hi :: lo :: rest → s.sitting ≠ .setup →
               number.toNat = 5 ∨ number.toNat = 15 ∨ number.toNat = 16 → refused .state))

/-! ## The Profile Store -/

/-- PROFILE SAVE, LOAD and COMPARE from a technical link with the controller IDLE and a slot below the slot count
(R148, R149, R150): the operation begins with its slot, a save and a compare with the snapshot of the part's state
in the buffer, and the last result, the EEPROM and every other block stay; a save with PROTECT high, the level
being the command's operand (the model's choice, log 17), is PROTECTED, and a slot not below the count is RANGE. -/
def Obligations.ProfileOperationsBegin : Prop :=
  ∀ (s : State) (x : LinkId) (slot : Byte) (rest : List Byte) (protect : Bool),
    s.ready x → (s.link x).role = .technical → s.profile.op = .idle →
      let s' := { s with protect := protect }
      (s.profile.slotCount ≤ slot.toNat →
        exec (.profileSave x (slot :: rest) protect) s = .next (s'.replied x 0x22 .range [])
          ∧ (s.sitting = .setup →
              exec (.profileLoad x (slot :: rest)) s = .next (s.replied x 0x23 .range []))
          ∧ exec (.profileCompare x (slot :: rest)) s = .next (s.replied x 0x24 .range []))
      ∧ (slot.toNat < s.profile.slotCount →
        (protect = true →
          exec (.profileSave x (slot :: rest) protect) s = .next (s'.replied x 0x22 .writeProtected []))
        ∧ (protect = false →
          exec (.profileSave x (slot :: rest) protect) s = .next ({ s' with profile := { s.profile with
            op := .saving, lastOp := .save, lastSlot := some slot.toNat, buffer := s.snapshot slot.toNat } }.replied
              x 0x22 .ok [1, slot]))
        ∧ (s.sitting = .setup →
          exec (.profileLoad x (slot :: rest)) s = .next ({ s with profile := { s.profile with
            op := .loading, lastOp := .load, lastSlot := some slot.toNat } }.replied x 0x23 .ok [2, slot]))
        ∧ exec (.profileCompare x (slot :: rest)) s = .next ({ s with profile := { s.profile with
            op := .comparing, lastOp := .compare, lastSlot := some slot.toNat
            buffer := s.snapshot slot.toNat } }.replied x 0x24 .ok [3, slot]))

/-- The completions (R148, R151, R152, R155): a save leaves its image in its slot and DONE; a load of an unsound
or ill-formed image applies nothing and ends in CHECK_FAULT or FORMAT_FAULT; a compare ends in CHECK_FAULT, SAME
or DIFFERS; a silent memory ends any operation in STORE_FAULT.  Each returns the controller to IDLE and changes
nothing but the controller and, for a save, the EEPROM.  The EEPROM is in its canonical form (log 14). -/
def Obligations.ProfileOperationsEnd : Prop :=
  ∀ (s : State) (slot : Nat), s.store.wf = true → s.profile.lastSlot = some slot →
    let ended := fun (t : State) (result : ProfileResult) => t.profile.op = .idle ∧ t.profile.lastResult = result
      ∧ t.profile.lastOp = s.profile.lastOp ∧ t.profile.lastSlot = s.profile.lastSlot
      ∧ t = { s with profile := t.profile, store := t.store }
    let stored := s.store.readBytes (1024 * slot) 604
    let sound := imageSound stored slot
    (s.profile.op = .saving → s.profile.buffer.length = 604 → ∃ t : State, exec .saveComplete s = .next t
      ∧ ended t .done ∧ t.store.readBytes (1024 * slot) 604 = s.profile.buffer
      ∧ ∀ a, a < 1024 * slot ∨ 1024 * slot + 604 ≤ a → t.store.read a = s.store.read a)
    ∧ (s.profile.op = .loading → sound = false ∨ imageFormed stored = false → ∃ t : State,
        exec .loadComplete s = .next t ∧ t.store = s.store
          ∧ ended t (if sound = false then .checkFault else .formatFault))
    ∧ (s.profile.op = .comparing → ∃ t : State, exec .compareComplete s = .next t ∧ t.store = s.store
        ∧ ended t (if sound = false then .checkFault
                   else if stored = s.profile.buffer then .same else .differs))
    ∧ ∀ g : Progress, s.profile.op ≠ .idle → ∃ t : State, exec (.storeFault g) s = .next t ∧ ended t .storeFault
        ∧ (s.profile.op ≠ .saving → t.store = s.store)
        ∧ (s.profile.op = .saving → 1 ≤ g.taken →
            t.store.read (1024 * slot) = 0x00 ∧ t.store.read (1024 * slot + 1) = 0x00)
        ∧ ∀ a, a < 1024 * slot ∨ 1024 * slot + 604 ≤ a → s.profile.buffer.length = 604 →
            t.store.read a = s.store.read a

/-- LOAD_COMPLETE of a sound and well-formed image applies it whole (R153, R158): parameters by the two steps of R77,
the curve, the bindings and groups with every bound seat restarted and every other released, stray entries of bound
packs gone, each link's default record and view, and DONE.  The qualifiers of the seats that were or are bound take
their reset values under the new parameters (R74), and changed set values are noted for the next quarter tick (R60,
log 10).  In a lawful state, where the list and the floor have nothing to settle. -/
def Obligations.LoadCompleteAppliesTheImage : Prop :=
  ∀ (s : State) (slot : Nat), s.lawful → s.profile.op = .loading → s.profile.lastSlot = some slot →
    let img := s.store.readBytes (1024 * slot) 604
    imageSound img slot = true → imageFormed img = true → ∃ t : State, exec .loadComplete s = .next t
      ∧ t.params = parameterNumbers.foldl (fun p k => p.write k (imageParameter img k)) s.params
      ∧ t.curve = imageCurve img
      ∧ (∀ n : Seat, t.seat n = { SeatRecord.reset with
          group := min 15 (img.getD (75 + 4 * n.val) 0).toNat
          pack := imagePack img n
          signal := if imagePack img n = none then .noPack else .seeking })
      ∧ t.strays = s.strays.filter (fun e => allSeats.all fun n => imagePack img n != some e.pack)
      ∧ (∀ x : LinkId, (t.link x).view = imageView img (imageViewOffset x)
          ∧ (t.link x).default = (t.link x).view
          ∧ t.link x = { s.link x with view := (t.link x).view, default := (t.link x).default })
      ∧ t.profile.op = .idle ∧ t.profile.lastResult = .done ∧ t.windowElapsed = 0
      ∧ t.setChanged = ⟨s.setChanged.battery || t.params.batteryQualify != s.params.batteryQualify,
          s.setChanged.mutedSpeech || t.params.mutedSpeechQualify != s.params.mutedSpeechQualify,
          s.setChanged.signalWeak || t.params.weakQualify != s.params.weakQualify⟩
      ∧ (∀ n : Seat, t.monitor n = if s.bound n = true ∨ imagePack img n ≠ none then .quiet t.params else s.monitor n)
      ∧ t = { s with
          params := t.params, curve := t.curve, seats := t.seats, strays := t.strays, links := t.links,
          profile := t.profile, windowElapsed := t.windowElapsed, setChanged := t.setChanged,
          monitors := t.monitors }

/-- A snapshot decodes to the values saved (R150, R158): it is 604 bytes, sound for its own slot and for no other,
well formed, and its parameters, curve, packs, groups and default views are those of the state.  In a lawful
state. -/
def Obligations.SnapshotDecodesToTheValuesSaved : Prop :=
  ∀ (s : State) (slot : Nat), s.lawful → slot < 4 →
    let img := s.snapshot slot
    img.length = 604
      ∧ (∀ other, imageSound img other = true ↔ other = slot) ∧ imageFormed img = true
      ∧ (∀ k ∈ parameterNumbers, imageParameter img k = s.params.get k)
      ∧ imageCurve img = s.curve
      ∧ (∀ n : Seat, imagePack img n = (s.seat n).pack ∧ imageGroup img n = (s.seat n).group)
      ∧ ∀ x : LinkId, imageView img (imageViewOffset x) = (s.link x).default

/-- A byte written to the EEPROM is the byte read there, every other address reads as before, and the memory
keeps its canonical form; two memories in that form that read alike are one (R147, log 14). -/
def Obligations.StoreReadsWhatWasWritten : Prop :=
  ∀ (m : Memory) (a : Nat) (b : Byte), m.wf = true →
    (m.write a b).read a = b ∧ (∀ a', a' ≠ a → (m.write a b).read a' = m.read a') ∧ (m.write a b).wf = true
      ∧ ∀ m' : Memory, m'.wf = true → (∀ a', m.read a' = m'.read a') → m = m'

/-! ## Laws over every command -/

/-- Every step keeps the parameters in their ranges and pairs (R77), the clocks and phases in theirs (R119, R121,
R122), and the curve valid (R42); the FIFOs at four reports in range, empty on a STOPPED port (R23, R24, R25), and
the EEPROM in its canonical form (log 14); and the links and the profile controller lawful: a request held only
behind a reply (R138), nothing in progress on a DISABLED link or after a break (R105, R144), an operation's slot
below the slot count, and SETUP while a load is in flight (R149, R153). -/
def Obligations.StepKeepsValuesInRange : Prop :=
  (∀ s t : State, s.params.lawful → s.timeLaw → curveValid s.curve = true → step s = .next t →
     t.params.lawful ∧ t.timeLaw ∧ curveValid t.curve = true)
    ∧ (∀ s t : State, s.intakeLaw → s.store.wf = true → step s = .next t → t.intakeLaw ∧ t.store.wf = true)
    ∧ (∀ s t : State, s.linkLaw → s.profileLaw → step s = .next t → t.linkLaw ∧ t.profileLaw)

/-- The pack binding map never binds one pack ID to two seats, and no pack ID that is bound appears in the stray
list, which holds at most 8 entries and no pack twice (R9, R11): every step keeps it so.  The floor list never
holds more seats than FLOOR_LIMIT nor one seat twice, holds bound seats alone, and is empty whenever the sitting
state is SETUP or RECESS (R129): every step keeps it so, the parameters and the clock being in range. -/
def Obligations.StepKeepsBindingsAndFloor : Prop :=
  (∀ s t : State, s.bindingLaw → s.strayLaw → step s = .next t → t.bindingLaw ∧ t.strayLaw)
    ∧ (∀ s t : State, s.params.lawful → s.timeLaw → s.floorLaw → step s = .next t → t.floorLaw)

/-- The Warning List never holds more than 48 records nor two with one seat and kind (R80), no (seat, kind) is
both due and in it (R75), a mark is due only while it is full (R91), in SETUP it and the marks are empty (R93),
and a qualifier is QUALIFIED exactly while its (seat, kind) has an active record or a due mark (R75, R76, R86):
every step keeps all four laws. -/
def Obligations.StepKeepsTheWarningList : Prop :=
  ∀ s t : State, s.listLaw → s.dueLaw → s.setupLaw → s.qualifiedLaw → step s = .next t →
    t.listLaw ∧ t.dueLaw ∧ t.setupLaw ∧ t.qualifiedLaw

/-- Every step keeps a state lawful: all the laws together, and with them that a (seat, kind) is QUALIFIED exactly
while it has an active record or a due mark, and that a seat without a pack has neither (R58, R75, R76, R86). -/
def Obligations.StepKeepsTheStateLawful : Prop :=
  ∀ s t : State, s.lawful → step s = .next t → t.lawful

/-- A link's role holds until the next reset pin (R103), and nothing but a quarter tick moves the quarter phase
and nothing but a second tick the minute phase and device seconds (R119), whatever the command.  No request of one
link writes another link's view (section 6.4), nor does a character, a reply's end or a break on it: of
another link, a command of link `x` leaves everything as it is but the overflow notice, which it may only make
pending (R109, R144, R146). -/
def Obligations.CommandsKeepToTheirOwn : Prop :=
  (∀ (c : Instr) (s t : State), exec c s = .next t → (∀ straps protect g, c ≠ .resetPin straps protect g) →
     (∀ x : LinkId, (t.link x).role = (s.link x).role)
       ∧ ((∀ order, c ≠ .quarterTick order) → t.quarterPhase = s.quarterPhase)
       ∧ ((∀ order, c ≠ .secondTick order) → t.deviceSeconds = s.deviceSeconds ∧ t.minutePhase = s.minutePhase))
    ∧ (∀ (c : Instr) (s t : State) (x y : LinkId), y ≠ x → exec c s = .next t →
         ((∃ code payload, asRequest c = some (x, code, payload)) ∨ (∃ ch stop p, c = .linkCharacter x ch stop p)
           ∨ (∃ p, c = .replyEnd x p) ∨ c = .linkBreak x ∨ c = .linkReturnToMark x) →
           t.link y = { s.link y with notice := (t.link y).notice }
             ∧ ((s.link y).notice = true → (t.link y).notice = true))

/-- A record's severity never falls while the record remains in the list, and its ack roles never narrow (R95,
R96), whatever the command.  QUARTER_TICK is several events of the blocks in one command (R61, log 4), so that an
ACTIVE_ACKED record may leave in one and its (seat, kind) be raised anew in a later one (R88): of such a record it
says that it keeps so or that the one found after the tick is new.  In a lawful state. -/
def Obligations.SeverityNeverFalls : Prop :=
  ∀ (c : Instr) (s t : State), s.lawful → exec c s = .next t →
    ∀ r ∈ s.records, ∀ r' ∈ t.records, r'.seat = r.seat → r'.kind = r.kind →
      (r.severity.code ≤ r'.severity.code ∧ (r.roles.presiding = true → r'.roles.presiding = true)
          ∧ (r.roles.technical = true → r'.roles.technical = true))
        ∨ ((∃ order, c = .quarterTick order) ∧ r.state = .activeAcked
          ∧ r'.state = .activeUnacked ∧ r'.raisedAt = s.clock ∧ r'.repeats = 0 ∧ r'.escalations = 0)
end

