-- ==== Sys2Proof/Laws/State.lean ====
section
/-! SUPPORT. What each named update of State leaves in each field, and what reading a table back gives.  Every
lemma of a field that an update does not write says that the field is unchanged. -/

namespace Sys2Proof.Machine

variable (s : State)

/-! ## `State.putSeat`: the other fields -/

@[simp] theorem State.putSeat_quarterPhase (n : Seat) (r : SeatRecord) :
    (s.putSeat n r).quarterPhase = s.quarterPhase := rfl
@[simp] theorem State.putSeat_minutePhase (n : Seat) (r : SeatRecord) :
    (s.putSeat n r).minutePhase = s.minutePhase := rfl
@[simp] theorem State.putSeat_deviceSeconds (n : Seat) (r : SeatRecord) :
    (s.putSeat n r).deviceSeconds = s.deviceSeconds := rfl
@[simp] theorem State.putSeat_sitting (n : Seat) (r : SeatRecord) :
    (s.putSeat n r).sitting = s.sitting := rfl
@[simp] theorem State.putSeat_clock (n : Seat) (r : SeatRecord) :
    (s.putSeat n r).clock = s.clock := rfl
@[simp] theorem State.putSeat_scheduled (n : Seat) (r : SeatRecord) :
    (s.putSeat n r).scheduled = s.scheduled := rfl
@[simp] theorem State.putSeat_floor (n : Seat) (r : SeatRecord) :
    (s.putSeat n r).floor = s.floor := rfl
@[simp] theorem State.putSeat_strays (n : Seat) (r : SeatRecord) :
    (s.putSeat n r).strays = s.strays := rfl
@[simp] theorem State.putSeat_ports (n : Seat) (r : SeatRecord) :
    (s.putSeat n r).ports = s.ports := rfl
@[simp] theorem State.putSeat_lastServed (n : Seat) (r : SeatRecord) :
    (s.putSeat n r).lastServed = s.lastServed := rfl
@[simp] theorem State.putSeat_curve (n : Seat) (r : SeatRecord) :
    (s.putSeat n r).curve = s.curve := rfl
@[simp] theorem State.putSeat_params (n : Seat) (r : SeatRecord) :
    (s.putSeat n r).params = s.params := rfl
@[simp] theorem State.putSeat_monitors (n : Seat) (r : SeatRecord) :
    (s.putSeat n r).monitors = s.monitors := rfl
@[simp] theorem State.putSeat_windowElapsed (n : Seat) (r : SeatRecord) :
    (s.putSeat n r).windowElapsed = s.windowElapsed := rfl
@[simp] theorem State.putSeat_setChanged (n : Seat) (r : SeatRecord) :
    (s.putSeat n r).setChanged = s.setChanged := rfl
@[simp] theorem State.putSeat_records (n : Seat) (r : SeatRecord) :
    (s.putSeat n r).records = s.records := rfl
@[simp] theorem State.putSeat_links (n : Seat) (r : SeatRecord) :
    (s.putSeat n r).links = s.links := rfl
@[simp] theorem State.putSeat_profile (n : Seat) (r : SeatRecord) :
    (s.putSeat n r).profile = s.profile := rfl
@[simp] theorem State.putSeat_protect (n : Seat) (r : SeatRecord) :
    (s.putSeat n r).protect = s.protect := rfl
@[simp] theorem State.putSeat_store (n : Seat) (r : SeatRecord) :
    (s.putSeat n r).store = s.store := rfl
@[simp] theorem State.putSeat_freeCount (n : Seat) (r : SeatRecord) :
    (s.putSeat n r).freeCount = s.freeCount := rfl
@[simp] theorem State.putSeat_pending (n : Seat) (r : SeatRecord) :
    (s.putSeat n r).pending = s.pending := rfl

/-! ## `State.mapSeats`: the other fields -/

@[simp] theorem State.mapSeats_quarterPhase (f : Seat → SeatRecord → SeatRecord) :
    (s.mapSeats f).quarterPhase = s.quarterPhase := by simp only [State.mapSeats]
@[simp] theorem State.mapSeats_minutePhase (f : Seat → SeatRecord → SeatRecord) :
    (s.mapSeats f).minutePhase = s.minutePhase := by simp only [State.mapSeats]
@[simp] theorem State.mapSeats_deviceSeconds (f : Seat → SeatRecord → SeatRecord) :
    (s.mapSeats f).deviceSeconds = s.deviceSeconds := by simp only [State.mapSeats]
@[simp] theorem State.mapSeats_sitting (f : Seat → SeatRecord → SeatRecord) :
    (s.mapSeats f).sitting = s.sitting := by simp only [State.mapSeats]
@[simp] theorem State.mapSeats_clock (f : Seat → SeatRecord → SeatRecord) :
    (s.mapSeats f).clock = s.clock := by simp only [State.mapSeats]
@[simp] theorem State.mapSeats_scheduled (f : Seat → SeatRecord → SeatRecord) :
    (s.mapSeats f).scheduled = s.scheduled := by simp only [State.mapSeats]
@[simp] theorem State.mapSeats_floor (f : Seat → SeatRecord → SeatRecord) :
    (s.mapSeats f).floor = s.floor := by simp only [State.mapSeats]
@[simp] theorem State.mapSeats_strays (f : Seat → SeatRecord → SeatRecord) :
    (s.mapSeats f).strays = s.strays := by simp only [State.mapSeats]
@[simp] theorem State.mapSeats_ports (f : Seat → SeatRecord → SeatRecord) :
    (s.mapSeats f).ports = s.ports := by simp only [State.mapSeats]
@[simp] theorem State.mapSeats_lastServed (f : Seat → SeatRecord → SeatRecord) :
    (s.mapSeats f).lastServed = s.lastServed := by simp only [State.mapSeats]
@[simp] theorem State.mapSeats_curve (f : Seat → SeatRecord → SeatRecord) :
    (s.mapSeats f).curve = s.curve := by simp only [State.mapSeats]
@[simp] theorem State.mapSeats_params (f : Seat → SeatRecord → SeatRecord) :
    (s.mapSeats f).params = s.params := by simp only [State.mapSeats]
@[simp] theorem State.mapSeats_monitors (f : Seat → SeatRecord → SeatRecord) :
    (s.mapSeats f).monitors = s.monitors := by simp only [State.mapSeats]
@[simp] theorem State.mapSeats_windowElapsed (f : Seat → SeatRecord → SeatRecord) :
    (s.mapSeats f).windowElapsed = s.windowElapsed := by simp only [State.mapSeats]
@[simp] theorem State.mapSeats_setChanged (f : Seat → SeatRecord → SeatRecord) :
    (s.mapSeats f).setChanged = s.setChanged := by simp only [State.mapSeats]
@[simp] theorem State.mapSeats_records (f : Seat → SeatRecord → SeatRecord) :
    (s.mapSeats f).records = s.records := by simp only [State.mapSeats]
@[simp] theorem State.mapSeats_links (f : Seat → SeatRecord → SeatRecord) :
    (s.mapSeats f).links = s.links := by simp only [State.mapSeats]
@[simp] theorem State.mapSeats_profile (f : Seat → SeatRecord → SeatRecord) :
    (s.mapSeats f).profile = s.profile := by simp only [State.mapSeats]
@[simp] theorem State.mapSeats_protect (f : Seat → SeatRecord → SeatRecord) :
    (s.mapSeats f).protect = s.protect := by simp only [State.mapSeats]
@[simp] theorem State.mapSeats_store (f : Seat → SeatRecord → SeatRecord) :
    (s.mapSeats f).store = s.store := by simp only [State.mapSeats]
@[simp] theorem State.mapSeats_freeCount (f : Seat → SeatRecord → SeatRecord) :
    (s.mapSeats f).freeCount = s.freeCount := by simp only [State.mapSeats]
@[simp] theorem State.mapSeats_pending (f : Seat → SeatRecord → SeatRecord) :
    (s.mapSeats f).pending = s.pending := by simp only [State.mapSeats]

/-! ## `State.putMonitor`: the other fields -/

@[simp] theorem State.putMonitor_quarterPhase (n : Seat) (m : SeatMonitor) :
    (s.putMonitor n m).quarterPhase = s.quarterPhase := rfl
@[simp] theorem State.putMonitor_minutePhase (n : Seat) (m : SeatMonitor) :
    (s.putMonitor n m).minutePhase = s.minutePhase := rfl
@[simp] theorem State.putMonitor_deviceSeconds (n : Seat) (m : SeatMonitor) :
    (s.putMonitor n m).deviceSeconds = s.deviceSeconds := rfl
@[simp] theorem State.putMonitor_sitting (n : Seat) (m : SeatMonitor) :
    (s.putMonitor n m).sitting = s.sitting := rfl
@[simp] theorem State.putMonitor_clock (n : Seat) (m : SeatMonitor) :
    (s.putMonitor n m).clock = s.clock := rfl
@[simp] theorem State.putMonitor_scheduled (n : Seat) (m : SeatMonitor) :
    (s.putMonitor n m).scheduled = s.scheduled := rfl
@[simp] theorem State.putMonitor_floor (n : Seat) (m : SeatMonitor) :
    (s.putMonitor n m).floor = s.floor := rfl
@[simp] theorem State.putMonitor_seats (n : Seat) (m : SeatMonitor) :
    (s.putMonitor n m).seats = s.seats := rfl
@[simp] theorem State.putMonitor_strays (n : Seat) (m : SeatMonitor) :
    (s.putMonitor n m).strays = s.strays := rfl
@[simp] theorem State.putMonitor_ports (n : Seat) (m : SeatMonitor) :
    (s.putMonitor n m).ports = s.ports := rfl
@[simp] theorem State.putMonitor_lastServed (n : Seat) (m : SeatMonitor) :
    (s.putMonitor n m).lastServed = s.lastServed := rfl
@[simp] theorem State.putMonitor_curve (n : Seat) (m : SeatMonitor) :
    (s.putMonitor n m).curve = s.curve := rfl
@[simp] theorem State.putMonitor_params (n : Seat) (m : SeatMonitor) :
    (s.putMonitor n m).params = s.params := rfl
@[simp] theorem State.putMonitor_windowElapsed (n : Seat) (m : SeatMonitor) :
    (s.putMonitor n m).windowElapsed = s.windowElapsed := rfl
@[simp] theorem State.putMonitor_setChanged (n : Seat) (m : SeatMonitor) :
    (s.putMonitor n m).setChanged = s.setChanged := rfl
@[simp] theorem State.putMonitor_records (n : Seat) (m : SeatMonitor) :
    (s.putMonitor n m).records = s.records := rfl
@[simp] theorem State.putMonitor_links (n : Seat) (m : SeatMonitor) :
    (s.putMonitor n m).links = s.links := rfl
@[simp] theorem State.putMonitor_profile (n : Seat) (m : SeatMonitor) :
    (s.putMonitor n m).profile = s.profile := rfl
@[simp] theorem State.putMonitor_protect (n : Seat) (m : SeatMonitor) :
    (s.putMonitor n m).protect = s.protect := rfl
@[simp] theorem State.putMonitor_store (n : Seat) (m : SeatMonitor) :
    (s.putMonitor n m).store = s.store := rfl
@[simp] theorem State.putMonitor_freeCount (n : Seat) (m : SeatMonitor) :
    (s.putMonitor n m).freeCount = s.freeCount := rfl
@[simp] theorem State.putMonitor_pending (n : Seat) (m : SeatMonitor) :
    (s.putMonitor n m).pending = s.pending := rfl

/-! ## `State.mapMonitors`: the other fields -/

@[simp] theorem State.mapMonitors_quarterPhase (f : Seat → SeatMonitor → SeatMonitor) :
    (s.mapMonitors f).quarterPhase = s.quarterPhase := by simp only [State.mapMonitors]
@[simp] theorem State.mapMonitors_minutePhase (f : Seat → SeatMonitor → SeatMonitor) :
    (s.mapMonitors f).minutePhase = s.minutePhase := by simp only [State.mapMonitors]
@[simp] theorem State.mapMonitors_deviceSeconds (f : Seat → SeatMonitor → SeatMonitor) :
    (s.mapMonitors f).deviceSeconds = s.deviceSeconds := by simp only [State.mapMonitors]
@[simp] theorem State.mapMonitors_sitting (f : Seat → SeatMonitor → SeatMonitor) :
    (s.mapMonitors f).sitting = s.sitting := by simp only [State.mapMonitors]
@[simp] theorem State.mapMonitors_clock (f : Seat → SeatMonitor → SeatMonitor) :
    (s.mapMonitors f).clock = s.clock := by simp only [State.mapMonitors]
@[simp] theorem State.mapMonitors_scheduled (f : Seat → SeatMonitor → SeatMonitor) :
    (s.mapMonitors f).scheduled = s.scheduled := by simp only [State.mapMonitors]
@[simp] theorem State.mapMonitors_floor (f : Seat → SeatMonitor → SeatMonitor) :
    (s.mapMonitors f).floor = s.floor := by simp only [State.mapMonitors]
@[simp] theorem State.mapMonitors_seats (f : Seat → SeatMonitor → SeatMonitor) :
    (s.mapMonitors f).seats = s.seats := by simp only [State.mapMonitors]
@[simp] theorem State.mapMonitors_strays (f : Seat → SeatMonitor → SeatMonitor) :
    (s.mapMonitors f).strays = s.strays := by simp only [State.mapMonitors]
@[simp] theorem State.mapMonitors_ports (f : Seat → SeatMonitor → SeatMonitor) :
    (s.mapMonitors f).ports = s.ports := by simp only [State.mapMonitors]
@[simp] theorem State.mapMonitors_lastServed (f : Seat → SeatMonitor → SeatMonitor) :
    (s.mapMonitors f).lastServed = s.lastServed := by simp only [State.mapMonitors]
@[simp] theorem State.mapMonitors_curve (f : Seat → SeatMonitor → SeatMonitor) :
    (s.mapMonitors f).curve = s.curve := by simp only [State.mapMonitors]
@[simp] theorem State.mapMonitors_params (f : Seat → SeatMonitor → SeatMonitor) :
    (s.mapMonitors f).params = s.params := by simp only [State.mapMonitors]
@[simp] theorem State.mapMonitors_windowElapsed (f : Seat → SeatMonitor → SeatMonitor) :
    (s.mapMonitors f).windowElapsed = s.windowElapsed := by simp only [State.mapMonitors]
@[simp] theorem State.mapMonitors_setChanged (f : Seat → SeatMonitor → SeatMonitor) :
    (s.mapMonitors f).setChanged = s.setChanged := by simp only [State.mapMonitors]
@[simp] theorem State.mapMonitors_records (f : Seat → SeatMonitor → SeatMonitor) :
    (s.mapMonitors f).records = s.records := by simp only [State.mapMonitors]
@[simp] theorem State.mapMonitors_links (f : Seat → SeatMonitor → SeatMonitor) :
    (s.mapMonitors f).links = s.links := by simp only [State.mapMonitors]
@[simp] theorem State.mapMonitors_profile (f : Seat → SeatMonitor → SeatMonitor) :
    (s.mapMonitors f).profile = s.profile := by simp only [State.mapMonitors]
@[simp] theorem State.mapMonitors_protect (f : Seat → SeatMonitor → SeatMonitor) :
    (s.mapMonitors f).protect = s.protect := by simp only [State.mapMonitors]
@[simp] theorem State.mapMonitors_store (f : Seat → SeatMonitor → SeatMonitor) :
    (s.mapMonitors f).store = s.store := by simp only [State.mapMonitors]
@[simp] theorem State.mapMonitors_freeCount (f : Seat → SeatMonitor → SeatMonitor) :
    (s.mapMonitors f).freeCount = s.freeCount := by simp only [State.mapMonitors]
@[simp] theorem State.mapMonitors_pending (f : Seat → SeatMonitor → SeatMonitor) :
    (s.mapMonitors f).pending = s.pending := by simp only [State.mapMonitors]

/-! ## `State.takeSetValues`: the other fields -/

@[simp] theorem State.takeSetValues_quarterPhase :
    (s.takeSetValues).quarterPhase = s.quarterPhase := by simp only [State.takeSetValues, State.mapMonitors]
@[simp] theorem State.takeSetValues_minutePhase :
    (s.takeSetValues).minutePhase = s.minutePhase := by simp only [State.takeSetValues, State.mapMonitors]
@[simp] theorem State.takeSetValues_deviceSeconds :
    (s.takeSetValues).deviceSeconds = s.deviceSeconds := by simp only [State.takeSetValues, State.mapMonitors]
@[simp] theorem State.takeSetValues_sitting :
    (s.takeSetValues).sitting = s.sitting := by simp only [State.takeSetValues, State.mapMonitors]
@[simp] theorem State.takeSetValues_clock :
    (s.takeSetValues).clock = s.clock := by simp only [State.takeSetValues, State.mapMonitors]
@[simp] theorem State.takeSetValues_scheduled :
    (s.takeSetValues).scheduled = s.scheduled := by simp only [State.takeSetValues, State.mapMonitors]
@[simp] theorem State.takeSetValues_floor :
    (s.takeSetValues).floor = s.floor := by simp only [State.takeSetValues, State.mapMonitors]
@[simp] theorem State.takeSetValues_seats :
    (s.takeSetValues).seats = s.seats := by simp only [State.takeSetValues, State.mapMonitors]
@[simp] theorem State.takeSetValues_strays :
    (s.takeSetValues).strays = s.strays := by simp only [State.takeSetValues, State.mapMonitors]
@[simp] theorem State.takeSetValues_ports :
    (s.takeSetValues).ports = s.ports := by simp only [State.takeSetValues, State.mapMonitors]
@[simp] theorem State.takeSetValues_lastServed :
    (s.takeSetValues).lastServed = s.lastServed := by simp only [State.takeSetValues, State.mapMonitors]
@[simp] theorem State.takeSetValues_curve :
    (s.takeSetValues).curve = s.curve := by simp only [State.takeSetValues, State.mapMonitors]
@[simp] theorem State.takeSetValues_params :
    (s.takeSetValues).params = s.params := by simp only [State.takeSetValues, State.mapMonitors]
@[simp] theorem State.takeSetValues_windowElapsed :
    (s.takeSetValues).windowElapsed = s.windowElapsed := by simp only [State.takeSetValues, State.mapMonitors]
@[simp] theorem State.takeSetValues_records :
    (s.takeSetValues).records = s.records := by simp only [State.takeSetValues, State.mapMonitors]
@[simp] theorem State.takeSetValues_links :
    (s.takeSetValues).links = s.links := by simp only [State.takeSetValues, State.mapMonitors]
@[simp] theorem State.takeSetValues_profile :
    (s.takeSetValues).profile = s.profile := by simp only [State.takeSetValues, State.mapMonitors]
@[simp] theorem State.takeSetValues_protect :
    (s.takeSetValues).protect = s.protect := by simp only [State.takeSetValues, State.mapMonitors]
@[simp] theorem State.takeSetValues_store :
    (s.takeSetValues).store = s.store := by simp only [State.takeSetValues, State.mapMonitors]
@[simp] theorem State.takeSetValues_freeCount :
    (s.takeSetValues).freeCount = s.freeCount := by simp only [State.takeSetValues, State.mapMonitors]
@[simp] theorem State.takeSetValues_pending :
    (s.takeSetValues).pending = s.pending := by simp only [State.takeSetValues, State.mapMonitors]

/-! ## `State.putDue`: the other fields -/

@[simp] theorem State.putDue_quarterPhase (n : Seat) (k : Kind) (d : Bool) :
    (s.putDue n k d).quarterPhase = s.quarterPhase := rfl
@[simp] theorem State.putDue_minutePhase (n : Seat) (k : Kind) (d : Bool) :
    (s.putDue n k d).minutePhase = s.minutePhase := rfl
@[simp] theorem State.putDue_deviceSeconds (n : Seat) (k : Kind) (d : Bool) :
    (s.putDue n k d).deviceSeconds = s.deviceSeconds := rfl
@[simp] theorem State.putDue_sitting (n : Seat) (k : Kind) (d : Bool) :
    (s.putDue n k d).sitting = s.sitting := rfl
@[simp] theorem State.putDue_clock (n : Seat) (k : Kind) (d : Bool) :
    (s.putDue n k d).clock = s.clock := rfl
@[simp] theorem State.putDue_scheduled (n : Seat) (k : Kind) (d : Bool) :
    (s.putDue n k d).scheduled = s.scheduled := rfl
@[simp] theorem State.putDue_floor (n : Seat) (k : Kind) (d : Bool) :
    (s.putDue n k d).floor = s.floor := rfl
@[simp] theorem State.putDue_seats (n : Seat) (k : Kind) (d : Bool) :
    (s.putDue n k d).seats = s.seats := rfl
@[simp] theorem State.putDue_strays (n : Seat) (k : Kind) (d : Bool) :
    (s.putDue n k d).strays = s.strays := rfl
@[simp] theorem State.putDue_ports (n : Seat) (k : Kind) (d : Bool) :
    (s.putDue n k d).ports = s.ports := rfl
@[simp] theorem State.putDue_lastServed (n : Seat) (k : Kind) (d : Bool) :
    (s.putDue n k d).lastServed = s.lastServed := rfl
@[simp] theorem State.putDue_curve (n : Seat) (k : Kind) (d : Bool) :
    (s.putDue n k d).curve = s.curve := rfl
@[simp] theorem State.putDue_params (n : Seat) (k : Kind) (d : Bool) :
    (s.putDue n k d).params = s.params := rfl
@[simp] theorem State.putDue_windowElapsed (n : Seat) (k : Kind) (d : Bool) :
    (s.putDue n k d).windowElapsed = s.windowElapsed := rfl
@[simp] theorem State.putDue_setChanged (n : Seat) (k : Kind) (d : Bool) :
    (s.putDue n k d).setChanged = s.setChanged := rfl
@[simp] theorem State.putDue_records (n : Seat) (k : Kind) (d : Bool) :
    (s.putDue n k d).records = s.records := rfl
@[simp] theorem State.putDue_links (n : Seat) (k : Kind) (d : Bool) :
    (s.putDue n k d).links = s.links := rfl
@[simp] theorem State.putDue_profile (n : Seat) (k : Kind) (d : Bool) :
    (s.putDue n k d).profile = s.profile := rfl
@[simp] theorem State.putDue_protect (n : Seat) (k : Kind) (d : Bool) :
    (s.putDue n k d).protect = s.protect := rfl
@[simp] theorem State.putDue_store (n : Seat) (k : Kind) (d : Bool) :
    (s.putDue n k d).store = s.store := rfl
@[simp] theorem State.putDue_freeCount (n : Seat) (k : Kind) (d : Bool) :
    (s.putDue n k d).freeCount = s.freeCount := rfl
@[simp] theorem State.putDue_pending (n : Seat) (k : Kind) (d : Bool) :
    (s.putDue n k d).pending = s.pending := rfl

/-! ## `State.putPort`: the other fields -/

@[simp] theorem State.putPort_quarterPhase (p : Port) (q : PortState) :
    (s.putPort p q).quarterPhase = s.quarterPhase := rfl
@[simp] theorem State.putPort_minutePhase (p : Port) (q : PortState) :
    (s.putPort p q).minutePhase = s.minutePhase := rfl
@[simp] theorem State.putPort_deviceSeconds (p : Port) (q : PortState) :
    (s.putPort p q).deviceSeconds = s.deviceSeconds := rfl
@[simp] theorem State.putPort_sitting (p : Port) (q : PortState) :
    (s.putPort p q).sitting = s.sitting := rfl
@[simp] theorem State.putPort_clock (p : Port) (q : PortState) :
    (s.putPort p q).clock = s.clock := rfl
@[simp] theorem State.putPort_scheduled (p : Port) (q : PortState) :
    (s.putPort p q).scheduled = s.scheduled := rfl
@[simp] theorem State.putPort_floor (p : Port) (q : PortState) :
    (s.putPort p q).floor = s.floor := rfl
@[simp] theorem State.putPort_seats (p : Port) (q : PortState) :
    (s.putPort p q).seats = s.seats := rfl
@[simp] theorem State.putPort_strays (p : Port) (q : PortState) :
    (s.putPort p q).strays = s.strays := rfl
@[simp] theorem State.putPort_lastServed (p : Port) (q : PortState) :
    (s.putPort p q).lastServed = s.lastServed := rfl
@[simp] theorem State.putPort_curve (p : Port) (q : PortState) :
    (s.putPort p q).curve = s.curve := rfl
@[simp] theorem State.putPort_params (p : Port) (q : PortState) :
    (s.putPort p q).params = s.params := rfl
@[simp] theorem State.putPort_monitors (p : Port) (q : PortState) :
    (s.putPort p q).monitors = s.monitors := rfl
@[simp] theorem State.putPort_windowElapsed (p : Port) (q : PortState) :
    (s.putPort p q).windowElapsed = s.windowElapsed := rfl
@[simp] theorem State.putPort_setChanged (p : Port) (q : PortState) :
    (s.putPort p q).setChanged = s.setChanged := rfl
@[simp] theorem State.putPort_records (p : Port) (q : PortState) :
    (s.putPort p q).records = s.records := rfl
@[simp] theorem State.putPort_links (p : Port) (q : PortState) :
    (s.putPort p q).links = s.links := rfl
@[simp] theorem State.putPort_profile (p : Port) (q : PortState) :
    (s.putPort p q).profile = s.profile := rfl
@[simp] theorem State.putPort_protect (p : Port) (q : PortState) :
    (s.putPort p q).protect = s.protect := rfl
@[simp] theorem State.putPort_store (p : Port) (q : PortState) :
    (s.putPort p q).store = s.store := rfl
@[simp] theorem State.putPort_freeCount (p : Port) (q : PortState) :
    (s.putPort p q).freeCount = s.freeCount := rfl
@[simp] theorem State.putPort_pending (p : Port) (q : PortState) :
    (s.putPort p q).pending = s.pending := rfl

/-! ## `State.mapPorts`: the other fields -/

@[simp] theorem State.mapPorts_quarterPhase (f : Port → PortState → PortState) :
    (s.mapPorts f).quarterPhase = s.quarterPhase := by simp only [State.mapPorts]
@[simp] theorem State.mapPorts_minutePhase (f : Port → PortState → PortState) :
    (s.mapPorts f).minutePhase = s.minutePhase := by simp only [State.mapPorts]
@[simp] theorem State.mapPorts_deviceSeconds (f : Port → PortState → PortState) :
    (s.mapPorts f).deviceSeconds = s.deviceSeconds := by simp only [State.mapPorts]
@[simp] theorem State.mapPorts_sitting (f : Port → PortState → PortState) :
    (s.mapPorts f).sitting = s.sitting := by simp only [State.mapPorts]
@[simp] theorem State.mapPorts_clock (f : Port → PortState → PortState) :
    (s.mapPorts f).clock = s.clock := by simp only [State.mapPorts]
@[simp] theorem State.mapPorts_scheduled (f : Port → PortState → PortState) :
    (s.mapPorts f).scheduled = s.scheduled := by simp only [State.mapPorts]
@[simp] theorem State.mapPorts_floor (f : Port → PortState → PortState) :
    (s.mapPorts f).floor = s.floor := by simp only [State.mapPorts]
@[simp] theorem State.mapPorts_seats (f : Port → PortState → PortState) :
    (s.mapPorts f).seats = s.seats := by simp only [State.mapPorts]
@[simp] theorem State.mapPorts_strays (f : Port → PortState → PortState) :
    (s.mapPorts f).strays = s.strays := by simp only [State.mapPorts]
@[simp] theorem State.mapPorts_lastServed (f : Port → PortState → PortState) :
    (s.mapPorts f).lastServed = s.lastServed := by simp only [State.mapPorts]
@[simp] theorem State.mapPorts_curve (f : Port → PortState → PortState) :
    (s.mapPorts f).curve = s.curve := by simp only [State.mapPorts]
@[simp] theorem State.mapPorts_params (f : Port → PortState → PortState) :
    (s.mapPorts f).params = s.params := by simp only [State.mapPorts]
@[simp] theorem State.mapPorts_monitors (f : Port → PortState → PortState) :
    (s.mapPorts f).monitors = s.monitors := by simp only [State.mapPorts]
@[simp] theorem State.mapPorts_windowElapsed (f : Port → PortState → PortState) :
    (s.mapPorts f).windowElapsed = s.windowElapsed := by simp only [State.mapPorts]
@[simp] theorem State.mapPorts_setChanged (f : Port → PortState → PortState) :
    (s.mapPorts f).setChanged = s.setChanged := by simp only [State.mapPorts]
@[simp] theorem State.mapPorts_records (f : Port → PortState → PortState) :
    (s.mapPorts f).records = s.records := by simp only [State.mapPorts]
@[simp] theorem State.mapPorts_links (f : Port → PortState → PortState) :
    (s.mapPorts f).links = s.links := by simp only [State.mapPorts]
@[simp] theorem State.mapPorts_profile (f : Port → PortState → PortState) :
    (s.mapPorts f).profile = s.profile := by simp only [State.mapPorts]
@[simp] theorem State.mapPorts_protect (f : Port → PortState → PortState) :
    (s.mapPorts f).protect = s.protect := by simp only [State.mapPorts]
@[simp] theorem State.mapPorts_store (f : Port → PortState → PortState) :
    (s.mapPorts f).store = s.store := by simp only [State.mapPorts]
@[simp] theorem State.mapPorts_freeCount (f : Port → PortState → PortState) :
    (s.mapPorts f).freeCount = s.freeCount := by simp only [State.mapPorts]
@[simp] theorem State.mapPorts_pending (f : Port → PortState → PortState) :
    (s.mapPorts f).pending = s.pending := by simp only [State.mapPorts]

/-! ## `State.putLink`: the other fields -/

@[simp] theorem State.putLink_quarterPhase (x : LinkId) (l : LinkState) :
    (s.putLink x l).quarterPhase = s.quarterPhase := rfl
@[simp] theorem State.putLink_minutePhase (x : LinkId) (l : LinkState) :
    (s.putLink x l).minutePhase = s.minutePhase := rfl
@[simp] theorem State.putLink_deviceSeconds (x : LinkId) (l : LinkState) :
    (s.putLink x l).deviceSeconds = s.deviceSeconds := rfl
@[simp] theorem State.putLink_sitting (x : LinkId) (l : LinkState) :
    (s.putLink x l).sitting = s.sitting := rfl
@[simp] theorem State.putLink_clock (x : LinkId) (l : LinkState) :
    (s.putLink x l).clock = s.clock := rfl
@[simp] theorem State.putLink_scheduled (x : LinkId) (l : LinkState) :
    (s.putLink x l).scheduled = s.scheduled := rfl
@[simp] theorem State.putLink_floor (x : LinkId) (l : LinkState) :
    (s.putLink x l).floor = s.floor := rfl
@[simp] theorem State.putLink_seats (x : LinkId) (l : LinkState) :
    (s.putLink x l).seats = s.seats := rfl
@[simp] theorem State.putLink_strays (x : LinkId) (l : LinkState) :
    (s.putLink x l).strays = s.strays := rfl
@[simp] theorem State.putLink_ports (x : LinkId) (l : LinkState) :
    (s.putLink x l).ports = s.ports := rfl
@[simp] theorem State.putLink_lastServed (x : LinkId) (l : LinkState) :
    (s.putLink x l).lastServed = s.lastServed := rfl
@[simp] theorem State.putLink_curve (x : LinkId) (l : LinkState) :
    (s.putLink x l).curve = s.curve := rfl
@[simp] theorem State.putLink_params (x : LinkId) (l : LinkState) :
    (s.putLink x l).params = s.params := rfl
@[simp] theorem State.putLink_monitors (x : LinkId) (l : LinkState) :
    (s.putLink x l).monitors = s.monitors := rfl
@[simp] theorem State.putLink_windowElapsed (x : LinkId) (l : LinkState) :
    (s.putLink x l).windowElapsed = s.windowElapsed := rfl
@[simp] theorem State.putLink_setChanged (x : LinkId) (l : LinkState) :
    (s.putLink x l).setChanged = s.setChanged := rfl
@[simp] theorem State.putLink_records (x : LinkId) (l : LinkState) :
    (s.putLink x l).records = s.records := rfl
@[simp] theorem State.putLink_profile (x : LinkId) (l : LinkState) :
    (s.putLink x l).profile = s.profile := rfl
@[simp] theorem State.putLink_protect (x : LinkId) (l : LinkState) :
    (s.putLink x l).protect = s.protect := rfl
@[simp] theorem State.putLink_store (x : LinkId) (l : LinkState) :
    (s.putLink x l).store = s.store := rfl
@[simp] theorem State.putLink_freeCount (x : LinkId) (l : LinkState) :
    (s.putLink x l).freeCount = s.freeCount := rfl
@[simp] theorem State.putLink_pending (x : LinkId) (l : LinkState) :
    (s.putLink x l).pending = s.pending := rfl

/-! ## `State.noticeOverflow`: the other fields -/

@[simp] theorem State.noticeOverflow_quarterPhase :
    (s.noticeOverflow).quarterPhase = s.quarterPhase := rfl
@[simp] theorem State.noticeOverflow_minutePhase :
    (s.noticeOverflow).minutePhase = s.minutePhase := rfl
@[simp] theorem State.noticeOverflow_deviceSeconds :
    (s.noticeOverflow).deviceSeconds = s.deviceSeconds := rfl
@[simp] theorem State.noticeOverflow_sitting :
    (s.noticeOverflow).sitting = s.sitting := rfl
@[simp] theorem State.noticeOverflow_clock :
    (s.noticeOverflow).clock = s.clock := rfl
@[simp] theorem State.noticeOverflow_scheduled :
    (s.noticeOverflow).scheduled = s.scheduled := rfl
@[simp] theorem State.noticeOverflow_floor :
    (s.noticeOverflow).floor = s.floor := rfl
@[simp] theorem State.noticeOverflow_seats :
    (s.noticeOverflow).seats = s.seats := rfl
@[simp] theorem State.noticeOverflow_strays :
    (s.noticeOverflow).strays = s.strays := rfl
@[simp] theorem State.noticeOverflow_ports :
    (s.noticeOverflow).ports = s.ports := rfl
@[simp] theorem State.noticeOverflow_lastServed :
    (s.noticeOverflow).lastServed = s.lastServed := rfl
@[simp] theorem State.noticeOverflow_curve :
    (s.noticeOverflow).curve = s.curve := rfl
@[simp] theorem State.noticeOverflow_params :
    (s.noticeOverflow).params = s.params := rfl
@[simp] theorem State.noticeOverflow_monitors :
    (s.noticeOverflow).monitors = s.monitors := rfl
@[simp] theorem State.noticeOverflow_windowElapsed :
    (s.noticeOverflow).windowElapsed = s.windowElapsed := rfl
@[simp] theorem State.noticeOverflow_setChanged :
    (s.noticeOverflow).setChanged = s.setChanged := rfl
@[simp] theorem State.noticeOverflow_records :
    (s.noticeOverflow).records = s.records := rfl
@[simp] theorem State.noticeOverflow_profile :
    (s.noticeOverflow).profile = s.profile := rfl
@[simp] theorem State.noticeOverflow_protect :
    (s.noticeOverflow).protect = s.protect := rfl
@[simp] theorem State.noticeOverflow_store :
    (s.noticeOverflow).store = s.store := rfl
@[simp] theorem State.noticeOverflow_freeCount :
    (s.noticeOverflow).freeCount = s.freeCount := rfl
@[simp] theorem State.noticeOverflow_pending :
    (s.noticeOverflow).pending = s.pending := rfl

/-! ## `State.samplePin`: the other fields -/

@[simp] theorem State.samplePin_quarterPhase (b : Bool) :
    (s.samplePin b).quarterPhase = s.quarterPhase := rfl
@[simp] theorem State.samplePin_minutePhase (b : Bool) :
    (s.samplePin b).minutePhase = s.minutePhase := rfl
@[simp] theorem State.samplePin_deviceSeconds (b : Bool) :
    (s.samplePin b).deviceSeconds = s.deviceSeconds := rfl
@[simp] theorem State.samplePin_sitting (b : Bool) :
    (s.samplePin b).sitting = s.sitting := rfl
@[simp] theorem State.samplePin_clock (b : Bool) :
    (s.samplePin b).clock = s.clock := rfl
@[simp] theorem State.samplePin_scheduled (b : Bool) :
    (s.samplePin b).scheduled = s.scheduled := rfl
@[simp] theorem State.samplePin_floor (b : Bool) :
    (s.samplePin b).floor = s.floor := rfl
@[simp] theorem State.samplePin_seats (b : Bool) :
    (s.samplePin b).seats = s.seats := rfl
@[simp] theorem State.samplePin_strays (b : Bool) :
    (s.samplePin b).strays = s.strays := rfl
@[simp] theorem State.samplePin_ports (b : Bool) :
    (s.samplePin b).ports = s.ports := rfl
@[simp] theorem State.samplePin_lastServed (b : Bool) :
    (s.samplePin b).lastServed = s.lastServed := rfl
@[simp] theorem State.samplePin_curve (b : Bool) :
    (s.samplePin b).curve = s.curve := rfl
@[simp] theorem State.samplePin_params (b : Bool) :
    (s.samplePin b).params = s.params := rfl
@[simp] theorem State.samplePin_monitors (b : Bool) :
    (s.samplePin b).monitors = s.monitors := rfl
@[simp] theorem State.samplePin_windowElapsed (b : Bool) :
    (s.samplePin b).windowElapsed = s.windowElapsed := rfl
@[simp] theorem State.samplePin_setChanged (b : Bool) :
    (s.samplePin b).setChanged = s.setChanged := rfl
@[simp] theorem State.samplePin_records (b : Bool) :
    (s.samplePin b).records = s.records := rfl
@[simp] theorem State.samplePin_links (b : Bool) :
    (s.samplePin b).links = s.links := rfl
@[simp] theorem State.samplePin_profile (b : Bool) :
    (s.samplePin b).profile = s.profile := rfl
@[simp] theorem State.samplePin_store (b : Bool) :
    (s.samplePin b).store = s.store := rfl
@[simp] theorem State.samplePin_freeCount (b : Bool) :
    (s.samplePin b).freeCount = s.freeCount := rfl
@[simp] theorem State.samplePin_pending (b : Bool) :
    (s.samplePin b).pending = s.pending := rfl

/-! ## `State.appendRecord`: the other fields -/

@[simp] theorem State.appendRecord_quarterPhase (r : Record) :
    (s.appendRecord r).quarterPhase = s.quarterPhase := rfl
@[simp] theorem State.appendRecord_minutePhase (r : Record) :
    (s.appendRecord r).minutePhase = s.minutePhase := rfl
@[simp] theorem State.appendRecord_deviceSeconds (r : Record) :
    (s.appendRecord r).deviceSeconds = s.deviceSeconds := rfl
@[simp] theorem State.appendRecord_sitting (r : Record) :
    (s.appendRecord r).sitting = s.sitting := rfl
@[simp] theorem State.appendRecord_clock (r : Record) :
    (s.appendRecord r).clock = s.clock := rfl
@[simp] theorem State.appendRecord_scheduled (r : Record) :
    (s.appendRecord r).scheduled = s.scheduled := rfl
@[simp] theorem State.appendRecord_floor (r : Record) :
    (s.appendRecord r).floor = s.floor := rfl
@[simp] theorem State.appendRecord_seats (r : Record) :
    (s.appendRecord r).seats = s.seats := rfl
@[simp] theorem State.appendRecord_strays (r : Record) :
    (s.appendRecord r).strays = s.strays := rfl
@[simp] theorem State.appendRecord_ports (r : Record) :
    (s.appendRecord r).ports = s.ports := rfl
@[simp] theorem State.appendRecord_lastServed (r : Record) :
    (s.appendRecord r).lastServed = s.lastServed := rfl
@[simp] theorem State.appendRecord_curve (r : Record) :
    (s.appendRecord r).curve = s.curve := rfl
@[simp] theorem State.appendRecord_params (r : Record) :
    (s.appendRecord r).params = s.params := rfl
@[simp] theorem State.appendRecord_monitors (r : Record) :
    (s.appendRecord r).monitors = s.monitors := rfl
@[simp] theorem State.appendRecord_windowElapsed (r : Record) :
    (s.appendRecord r).windowElapsed = s.windowElapsed := rfl
@[simp] theorem State.appendRecord_setChanged (r : Record) :
    (s.appendRecord r).setChanged = s.setChanged := rfl
@[simp] theorem State.appendRecord_links (r : Record) :
    (s.appendRecord r).links = s.links := rfl
@[simp] theorem State.appendRecord_profile (r : Record) :
    (s.appendRecord r).profile = s.profile := rfl
@[simp] theorem State.appendRecord_protect (r : Record) :
    (s.appendRecord r).protect = s.protect := rfl
@[simp] theorem State.appendRecord_store (r : Record) :
    (s.appendRecord r).store = s.store := rfl
@[simp] theorem State.appendRecord_freeCount (r : Record) :
    (s.appendRecord r).freeCount = s.freeCount := rfl
@[simp] theorem State.appendRecord_pending (r : Record) :
    (s.appendRecord r).pending = s.pending := rfl

/-! ## `State.updateRecord`: the other fields -/

@[simp] theorem State.updateRecord_quarterPhase (n : Seat) (k : Kind) (f : Record → Record) :
    (s.updateRecord n k f).quarterPhase = s.quarterPhase := rfl
@[simp] theorem State.updateRecord_minutePhase (n : Seat) (k : Kind) (f : Record → Record) :
    (s.updateRecord n k f).minutePhase = s.minutePhase := rfl
@[simp] theorem State.updateRecord_deviceSeconds (n : Seat) (k : Kind) (f : Record → Record) :
    (s.updateRecord n k f).deviceSeconds = s.deviceSeconds := rfl
@[simp] theorem State.updateRecord_sitting (n : Seat) (k : Kind) (f : Record → Record) :
    (s.updateRecord n k f).sitting = s.sitting := rfl
@[simp] theorem State.updateRecord_clock (n : Seat) (k : Kind) (f : Record → Record) :
    (s.updateRecord n k f).clock = s.clock := rfl
@[simp] theorem State.updateRecord_scheduled (n : Seat) (k : Kind) (f : Record → Record) :
    (s.updateRecord n k f).scheduled = s.scheduled := rfl
@[simp] theorem State.updateRecord_floor (n : Seat) (k : Kind) (f : Record → Record) :
    (s.updateRecord n k f).floor = s.floor := rfl
@[simp] theorem State.updateRecord_seats (n : Seat) (k : Kind) (f : Record → Record) :
    (s.updateRecord n k f).seats = s.seats := rfl
@[simp] theorem State.updateRecord_strays (n : Seat) (k : Kind) (f : Record → Record) :
    (s.updateRecord n k f).strays = s.strays := rfl
@[simp] theorem State.updateRecord_ports (n : Seat) (k : Kind) (f : Record → Record) :
    (s.updateRecord n k f).ports = s.ports := rfl
@[simp] theorem State.updateRecord_lastServed (n : Seat) (k : Kind) (f : Record → Record) :
    (s.updateRecord n k f).lastServed = s.lastServed := rfl
@[simp] theorem State.updateRecord_curve (n : Seat) (k : Kind) (f : Record → Record) :
    (s.updateRecord n k f).curve = s.curve := rfl
@[simp] theorem State.updateRecord_params (n : Seat) (k : Kind) (f : Record → Record) :
    (s.updateRecord n k f).params = s.params := rfl
@[simp] theorem State.updateRecord_monitors (n : Seat) (k : Kind) (f : Record → Record) :
    (s.updateRecord n k f).monitors = s.monitors := rfl
@[simp] theorem State.updateRecord_windowElapsed (n : Seat) (k : Kind) (f : Record → Record) :
    (s.updateRecord n k f).windowElapsed = s.windowElapsed := rfl
@[simp] theorem State.updateRecord_setChanged (n : Seat) (k : Kind) (f : Record → Record) :
    (s.updateRecord n k f).setChanged = s.setChanged := rfl
@[simp] theorem State.updateRecord_links (n : Seat) (k : Kind) (f : Record → Record) :
    (s.updateRecord n k f).links = s.links := rfl
@[simp] theorem State.updateRecord_profile (n : Seat) (k : Kind) (f : Record → Record) :
    (s.updateRecord n k f).profile = s.profile := rfl
@[simp] theorem State.updateRecord_protect (n : Seat) (k : Kind) (f : Record → Record) :
    (s.updateRecord n k f).protect = s.protect := rfl
@[simp] theorem State.updateRecord_store (n : Seat) (k : Kind) (f : Record → Record) :
    (s.updateRecord n k f).store = s.store := rfl
@[simp] theorem State.updateRecord_freeCount (n : Seat) (k : Kind) (f : Record → Record) :
    (s.updateRecord n k f).freeCount = s.freeCount := rfl
@[simp] theorem State.updateRecord_pending (n : Seat) (k : Kind) (f : Record → Record) :
    (s.updateRecord n k f).pending = s.pending := rfl

/-! ## `State.retimeRecords`: the other fields -/

@[simp] theorem State.retimeRecords_quarterPhase (sev : Severity) :
    (s.retimeRecords sev).quarterPhase = s.quarterPhase := rfl
@[simp] theorem State.retimeRecords_minutePhase (sev : Severity) :
    (s.retimeRecords sev).minutePhase = s.minutePhase := rfl
@[simp] theorem State.retimeRecords_deviceSeconds (sev : Severity) :
    (s.retimeRecords sev).deviceSeconds = s.deviceSeconds := rfl
@[simp] theorem State.retimeRecords_sitting (sev : Severity) :
    (s.retimeRecords sev).sitting = s.sitting := rfl
@[simp] theorem State.retimeRecords_clock (sev : Severity) :
    (s.retimeRecords sev).clock = s.clock := rfl
@[simp] theorem State.retimeRecords_scheduled (sev : Severity) :
    (s.retimeRecords sev).scheduled = s.scheduled := rfl
@[simp] theorem State.retimeRecords_floor (sev : Severity) :
    (s.retimeRecords sev).floor = s.floor := rfl
@[simp] theorem State.retimeRecords_seats (sev : Severity) :
    (s.retimeRecords sev).seats = s.seats := rfl
@[simp] theorem State.retimeRecords_strays (sev : Severity) :
    (s.retimeRecords sev).strays = s.strays := rfl
@[simp] theorem State.retimeRecords_ports (sev : Severity) :
    (s.retimeRecords sev).ports = s.ports := rfl
@[simp] theorem State.retimeRecords_lastServed (sev : Severity) :
    (s.retimeRecords sev).lastServed = s.lastServed := rfl
@[simp] theorem State.retimeRecords_curve (sev : Severity) :
    (s.retimeRecords sev).curve = s.curve := rfl
@[simp] theorem State.retimeRecords_params (sev : Severity) :
    (s.retimeRecords sev).params = s.params := rfl
@[simp] theorem State.retimeRecords_monitors (sev : Severity) :
    (s.retimeRecords sev).monitors = s.monitors := rfl
@[simp] theorem State.retimeRecords_windowElapsed (sev : Severity) :
    (s.retimeRecords sev).windowElapsed = s.windowElapsed := rfl
@[simp] theorem State.retimeRecords_setChanged (sev : Severity) :
    (s.retimeRecords sev).setChanged = s.setChanged := rfl
@[simp] theorem State.retimeRecords_links (sev : Severity) :
    (s.retimeRecords sev).links = s.links := rfl
@[simp] theorem State.retimeRecords_profile (sev : Severity) :
    (s.retimeRecords sev).profile = s.profile := rfl
@[simp] theorem State.retimeRecords_protect (sev : Severity) :
    (s.retimeRecords sev).protect = s.protect := rfl
@[simp] theorem State.retimeRecords_store (sev : Severity) :
    (s.retimeRecords sev).store = s.store := rfl
@[simp] theorem State.retimeRecords_freeCount (sev : Severity) :
    (s.retimeRecords sev).freeCount = s.freeCount := rfl
@[simp] theorem State.retimeRecords_pending (sev : Severity) :
    (s.retimeRecords sev).pending = s.pending := rfl

/-! ## `State.markSeen`: the other fields -/

@[simp] theorem State.markSeen_quarterPhase (x : LinkId) (rs : List Record) :
    (s.markSeen x rs).quarterPhase = s.quarterPhase := rfl
@[simp] theorem State.markSeen_minutePhase (x : LinkId) (rs : List Record) :
    (s.markSeen x rs).minutePhase = s.minutePhase := rfl
@[simp] theorem State.markSeen_deviceSeconds (x : LinkId) (rs : List Record) :
    (s.markSeen x rs).deviceSeconds = s.deviceSeconds := rfl
@[simp] theorem State.markSeen_sitting (x : LinkId) (rs : List Record) :
    (s.markSeen x rs).sitting = s.sitting := rfl
@[simp] theorem State.markSeen_clock (x : LinkId) (rs : List Record) :
    (s.markSeen x rs).clock = s.clock := rfl
@[simp] theorem State.markSeen_scheduled (x : LinkId) (rs : List Record) :
    (s.markSeen x rs).scheduled = s.scheduled := rfl
@[simp] theorem State.markSeen_floor (x : LinkId) (rs : List Record) :
    (s.markSeen x rs).floor = s.floor := rfl
@[simp] theorem State.markSeen_seats (x : LinkId) (rs : List Record) :
    (s.markSeen x rs).seats = s.seats := rfl
@[simp] theorem State.markSeen_strays (x : LinkId) (rs : List Record) :
    (s.markSeen x rs).strays = s.strays := rfl
@[simp] theorem State.markSeen_ports (x : LinkId) (rs : List Record) :
    (s.markSeen x rs).ports = s.ports := rfl
@[simp] theorem State.markSeen_lastServed (x : LinkId) (rs : List Record) :
    (s.markSeen x rs).lastServed = s.lastServed := rfl
@[simp] theorem State.markSeen_curve (x : LinkId) (rs : List Record) :
    (s.markSeen x rs).curve = s.curve := rfl
@[simp] theorem State.markSeen_params (x : LinkId) (rs : List Record) :
    (s.markSeen x rs).params = s.params := rfl
@[simp] theorem State.markSeen_monitors (x : LinkId) (rs : List Record) :
    (s.markSeen x rs).monitors = s.monitors := rfl
@[simp] theorem State.markSeen_windowElapsed (x : LinkId) (rs : List Record) :
    (s.markSeen x rs).windowElapsed = s.windowElapsed := rfl
@[simp] theorem State.markSeen_setChanged (x : LinkId) (rs : List Record) :
    (s.markSeen x rs).setChanged = s.setChanged := rfl
@[simp] theorem State.markSeen_links (x : LinkId) (rs : List Record) :
    (s.markSeen x rs).links = s.links := rfl
@[simp] theorem State.markSeen_profile (x : LinkId) (rs : List Record) :
    (s.markSeen x rs).profile = s.profile := rfl
@[simp] theorem State.markSeen_protect (x : LinkId) (rs : List Record) :
    (s.markSeen x rs).protect = s.protect := rfl
@[simp] theorem State.markSeen_store (x : LinkId) (rs : List Record) :
    (s.markSeen x rs).store = s.store := rfl
@[simp] theorem State.markSeen_freeCount (x : LinkId) (rs : List Record) :
    (s.markSeen x rs).freeCount = s.freeCount := rfl
@[simp] theorem State.markSeen_pending (x : LinkId) (rs : List Record) :
    (s.markSeen x rs).pending = s.pending := rfl

/-! ## `State.leaveFloor`: the other fields -/

@[simp] theorem State.leaveFloor_quarterPhase (n : Seat) :
    (s.leaveFloor n).quarterPhase = s.quarterPhase := rfl
@[simp] theorem State.leaveFloor_minutePhase (n : Seat) :
    (s.leaveFloor n).minutePhase = s.minutePhase := rfl
@[simp] theorem State.leaveFloor_deviceSeconds (n : Seat) :
    (s.leaveFloor n).deviceSeconds = s.deviceSeconds := rfl
@[simp] theorem State.leaveFloor_sitting (n : Seat) :
    (s.leaveFloor n).sitting = s.sitting := rfl
@[simp] theorem State.leaveFloor_clock (n : Seat) :
    (s.leaveFloor n).clock = s.clock := rfl
@[simp] theorem State.leaveFloor_scheduled (n : Seat) :
    (s.leaveFloor n).scheduled = s.scheduled := rfl
@[simp] theorem State.leaveFloor_seats (n : Seat) :
    (s.leaveFloor n).seats = s.seats := rfl
@[simp] theorem State.leaveFloor_strays (n : Seat) :
    (s.leaveFloor n).strays = s.strays := rfl
@[simp] theorem State.leaveFloor_ports (n : Seat) :
    (s.leaveFloor n).ports = s.ports := rfl
@[simp] theorem State.leaveFloor_lastServed (n : Seat) :
    (s.leaveFloor n).lastServed = s.lastServed := rfl
@[simp] theorem State.leaveFloor_curve (n : Seat) :
    (s.leaveFloor n).curve = s.curve := rfl
@[simp] theorem State.leaveFloor_params (n : Seat) :
    (s.leaveFloor n).params = s.params := rfl
@[simp] theorem State.leaveFloor_monitors (n : Seat) :
    (s.leaveFloor n).monitors = s.monitors := rfl
@[simp] theorem State.leaveFloor_windowElapsed (n : Seat) :
    (s.leaveFloor n).windowElapsed = s.windowElapsed := rfl
@[simp] theorem State.leaveFloor_setChanged (n : Seat) :
    (s.leaveFloor n).setChanged = s.setChanged := rfl
@[simp] theorem State.leaveFloor_records (n : Seat) :
    (s.leaveFloor n).records = s.records := rfl
@[simp] theorem State.leaveFloor_links (n : Seat) :
    (s.leaveFloor n).links = s.links := rfl
@[simp] theorem State.leaveFloor_profile (n : Seat) :
    (s.leaveFloor n).profile = s.profile := rfl
@[simp] theorem State.leaveFloor_protect (n : Seat) :
    (s.leaveFloor n).protect = s.protect := rfl
@[simp] theorem State.leaveFloor_store (n : Seat) :
    (s.leaveFloor n).store = s.store := rfl
@[simp] theorem State.leaveFloor_freeCount (n : Seat) :
    (s.leaveFloor n).freeCount = s.freeCount := rfl
@[simp] theorem State.leaveFloor_pending (n : Seat) :
    (s.leaveFloor n).pending = s.pending := rfl

/-! ## `State.joinFloor`: the other fields -/

@[simp] theorem State.joinFloor_quarterPhase (n : Seat) :
    (s.joinFloor n).quarterPhase = s.quarterPhase := rfl
@[simp] theorem State.joinFloor_minutePhase (n : Seat) :
    (s.joinFloor n).minutePhase = s.minutePhase := rfl
@[simp] theorem State.joinFloor_deviceSeconds (n : Seat) :
    (s.joinFloor n).deviceSeconds = s.deviceSeconds := rfl
@[simp] theorem State.joinFloor_sitting (n : Seat) :
    (s.joinFloor n).sitting = s.sitting := rfl
@[simp] theorem State.joinFloor_clock (n : Seat) :
    (s.joinFloor n).clock = s.clock := rfl
@[simp] theorem State.joinFloor_scheduled (n : Seat) :
    (s.joinFloor n).scheduled = s.scheduled := rfl
@[simp] theorem State.joinFloor_seats (n : Seat) :
    (s.joinFloor n).seats = s.seats := rfl
@[simp] theorem State.joinFloor_strays (n : Seat) :
    (s.joinFloor n).strays = s.strays := rfl
@[simp] theorem State.joinFloor_ports (n : Seat) :
    (s.joinFloor n).ports = s.ports := rfl
@[simp] theorem State.joinFloor_lastServed (n : Seat) :
    (s.joinFloor n).lastServed = s.lastServed := rfl
@[simp] theorem State.joinFloor_curve (n : Seat) :
    (s.joinFloor n).curve = s.curve := rfl
@[simp] theorem State.joinFloor_params (n : Seat) :
    (s.joinFloor n).params = s.params := rfl
@[simp] theorem State.joinFloor_monitors (n : Seat) :
    (s.joinFloor n).monitors = s.monitors := rfl
@[simp] theorem State.joinFloor_windowElapsed (n : Seat) :
    (s.joinFloor n).windowElapsed = s.windowElapsed := rfl
@[simp] theorem State.joinFloor_setChanged (n : Seat) :
    (s.joinFloor n).setChanged = s.setChanged := rfl
@[simp] theorem State.joinFloor_records (n : Seat) :
    (s.joinFloor n).records = s.records := rfl
@[simp] theorem State.joinFloor_links (n : Seat) :
    (s.joinFloor n).links = s.links := rfl
@[simp] theorem State.joinFloor_profile (n : Seat) :
    (s.joinFloor n).profile = s.profile := rfl
@[simp] theorem State.joinFloor_protect (n : Seat) :
    (s.joinFloor n).protect = s.protect := rfl
@[simp] theorem State.joinFloor_store (n : Seat) :
    (s.joinFloor n).store = s.store := rfl
@[simp] theorem State.joinFloor_freeCount (n : Seat) :
    (s.joinFloor n).freeCount = s.freeCount := rfl
@[simp] theorem State.joinFloor_pending (n : Seat) :
    (s.joinFloor n).pending = s.pending := rfl

/-! ## `State.dropStray`: the other fields -/

@[simp] theorem State.dropStray_quarterPhase (p : PackId) :
    (s.dropStray p).quarterPhase = s.quarterPhase := rfl
@[simp] theorem State.dropStray_minutePhase (p : PackId) :
    (s.dropStray p).minutePhase = s.minutePhase := rfl
@[simp] theorem State.dropStray_deviceSeconds (p : PackId) :
    (s.dropStray p).deviceSeconds = s.deviceSeconds := rfl
@[simp] theorem State.dropStray_sitting (p : PackId) :
    (s.dropStray p).sitting = s.sitting := rfl
@[simp] theorem State.dropStray_clock (p : PackId) :
    (s.dropStray p).clock = s.clock := rfl
@[simp] theorem State.dropStray_scheduled (p : PackId) :
    (s.dropStray p).scheduled = s.scheduled := rfl
@[simp] theorem State.dropStray_floor (p : PackId) :
    (s.dropStray p).floor = s.floor := rfl
@[simp] theorem State.dropStray_seats (p : PackId) :
    (s.dropStray p).seats = s.seats := rfl
@[simp] theorem State.dropStray_ports (p : PackId) :
    (s.dropStray p).ports = s.ports := rfl
@[simp] theorem State.dropStray_lastServed (p : PackId) :
    (s.dropStray p).lastServed = s.lastServed := rfl
@[simp] theorem State.dropStray_curve (p : PackId) :
    (s.dropStray p).curve = s.curve := rfl
@[simp] theorem State.dropStray_params (p : PackId) :
    (s.dropStray p).params = s.params := rfl
@[simp] theorem State.dropStray_monitors (p : PackId) :
    (s.dropStray p).monitors = s.monitors := rfl
@[simp] theorem State.dropStray_windowElapsed (p : PackId) :
    (s.dropStray p).windowElapsed = s.windowElapsed := rfl
@[simp] theorem State.dropStray_setChanged (p : PackId) :
    (s.dropStray p).setChanged = s.setChanged := rfl
@[simp] theorem State.dropStray_records (p : PackId) :
    (s.dropStray p).records = s.records := rfl
@[simp] theorem State.dropStray_links (p : PackId) :
    (s.dropStray p).links = s.links := rfl
@[simp] theorem State.dropStray_profile (p : PackId) :
    (s.dropStray p).profile = s.profile := rfl
@[simp] theorem State.dropStray_protect (p : PackId) :
    (s.dropStray p).protect = s.protect := rfl
@[simp] theorem State.dropStray_store (p : PackId) :
    (s.dropStray p).store = s.store := rfl
@[simp] theorem State.dropStray_freeCount (p : PackId) :
    (s.dropStray p).freeCount = s.freeCount := rfl
@[simp] theorem State.dropStray_pending (p : PackId) :
    (s.dropStray p).pending = s.pending := rfl

/-! ## `State.endProfile`: the other fields -/

@[simp] theorem State.endProfile_quarterPhase (res : ProfileResult) :
    (s.endProfile res).quarterPhase = s.quarterPhase := rfl
@[simp] theorem State.endProfile_minutePhase (res : ProfileResult) :
    (s.endProfile res).minutePhase = s.minutePhase := rfl
@[simp] theorem State.endProfile_deviceSeconds (res : ProfileResult) :
    (s.endProfile res).deviceSeconds = s.deviceSeconds := rfl
@[simp] theorem State.endProfile_sitting (res : ProfileResult) :
    (s.endProfile res).sitting = s.sitting := rfl
@[simp] theorem State.endProfile_clock (res : ProfileResult) :
    (s.endProfile res).clock = s.clock := rfl
@[simp] theorem State.endProfile_scheduled (res : ProfileResult) :
    (s.endProfile res).scheduled = s.scheduled := rfl
@[simp] theorem State.endProfile_floor (res : ProfileResult) :
    (s.endProfile res).floor = s.floor := rfl
@[simp] theorem State.endProfile_seats (res : ProfileResult) :
    (s.endProfile res).seats = s.seats := rfl
@[simp] theorem State.endProfile_strays (res : ProfileResult) :
    (s.endProfile res).strays = s.strays := rfl
@[simp] theorem State.endProfile_ports (res : ProfileResult) :
    (s.endProfile res).ports = s.ports := rfl
@[simp] theorem State.endProfile_lastServed (res : ProfileResult) :
    (s.endProfile res).lastServed = s.lastServed := rfl
@[simp] theorem State.endProfile_curve (res : ProfileResult) :
    (s.endProfile res).curve = s.curve := rfl
@[simp] theorem State.endProfile_params (res : ProfileResult) :
    (s.endProfile res).params = s.params := rfl
@[simp] theorem State.endProfile_monitors (res : ProfileResult) :
    (s.endProfile res).monitors = s.monitors := rfl
@[simp] theorem State.endProfile_windowElapsed (res : ProfileResult) :
    (s.endProfile res).windowElapsed = s.windowElapsed := rfl
@[simp] theorem State.endProfile_setChanged (res : ProfileResult) :
    (s.endProfile res).setChanged = s.setChanged := rfl
@[simp] theorem State.endProfile_records (res : ProfileResult) :
    (s.endProfile res).records = s.records := rfl
@[simp] theorem State.endProfile_links (res : ProfileResult) :
    (s.endProfile res).links = s.links := rfl
@[simp] theorem State.endProfile_protect (res : ProfileResult) :
    (s.endProfile res).protect = s.protect := rfl
@[simp] theorem State.endProfile_store (res : ProfileResult) :
    (s.endProfile res).store = s.store := rfl
@[simp] theorem State.endProfile_freeCount (res : ProfileResult) :
    (s.endProfile res).freeCount = s.freeCount := rfl
@[simp] theorem State.endProfile_pending (res : ProfileResult) :
    (s.endProfile res).pending = s.pending := rfl

/-! ## What the updates write -/

@[simp] theorem State.samplePin_protect (b : Bool) : (s.samplePin b).protect = b := rfl

@[simp] theorem State.appendRecord_records (r : Record) : (s.appendRecord r).records = s.records ++ [r] := rfl

@[simp] theorem State.updateRecord_records (n : Seat) (k : Kind) (f : Record → Record) :
    (s.updateRecord n k f).records = s.records.map fun r => if r.isFor n k then f r else r := rfl

@[simp] theorem State.joinFloor_floor (n : Seat) : (s.joinFloor n).floor = s.floor ++ [⟨n, s.clock⟩] := rfl

@[simp] theorem State.leaveFloor_floor (n : Seat) :
    (s.leaveFloor n).floor = s.floor.filter fun e => e.seat != n := rfl

/-! ## Seats -/

@[simp] theorem State.seat_putSeat (n m : Seat) (r : SeatRecord) :
    (s.putSeat n r).seat m = if m = n then r else s.seat m := by
  simp only [State.seat, State.putSeat, Fin.getElem_fin, Vector.getElem_set, Fin.ext_iff, eq_comm]

@[simp] theorem State.seat_mapSeats (f : Seat → SeatRecord → SeatRecord) (n : Seat) :
    (s.mapSeats f).seat n = f n (s.seat n) := by simp [State.seat, State.mapSeats]

@[simp] theorem State.seat_putMonitor (n m : Seat) (v : SeatMonitor) : (s.putMonitor n v).seat m = s.seat m := rfl

@[simp] theorem State.seat_mapMonitors (f : Seat → SeatMonitor → SeatMonitor) (n : Seat) :
    (s.mapMonitors f).seat n = s.seat n := by simp only [State.seat, State.mapMonitors]

@[simp] theorem State.seat_putLink (x : LinkId) (l : LinkState) (n : Seat) : (s.putLink x l).seat n = s.seat n :=
  rfl

/-! ## Monitors -/

@[simp] theorem State.monitor_putMonitor (n m : Seat) (v : SeatMonitor) :
    (s.putMonitor n v).monitor m = if m = n then v else s.monitor m := by
  simp only [State.monitor, State.putMonitor, Fin.getElem_fin, Vector.getElem_set, Fin.ext_iff, eq_comm]

@[simp] theorem State.monitor_mapMonitors (f : Seat → SeatMonitor → SeatMonitor) (n : Seat) :
    (s.mapMonitors f).monitor n = f n (s.monitor n) := by simp [State.monitor, State.mapMonitors]

@[simp] theorem State.monitor_putSeat (n m : Seat) (r : SeatRecord) : (s.putSeat n r).monitor m = s.monitor m := rfl

@[simp] theorem State.monitor_mapSeats (f : Seat → SeatRecord → SeatRecord) (n : Seat) :
    (s.mapSeats f).monitor n = s.monitor n := by simp only [State.monitor, State.mapSeats]

@[simp] theorem State.monitor_putLink (x : LinkId) (l : LinkState) (n : Seat) :
    (s.putLink x l).monitor n = s.monitor n := rfl

/-! ## Ports -/

@[simp] theorem State.port_putPort (p q : Port) (v : PortState) :
    (s.putPort p v).port q = if q = p then v else s.port q := by
  simp only [State.port, State.putPort, Fin.getElem_fin, Vector.getElem_set, Fin.ext_iff, eq_comm]

@[simp] theorem State.port_mapPorts (f : Port → PortState → PortState) (p : Port) :
    (s.mapPorts f).port p = f p (s.port p) := by simp [State.port, State.mapPorts]

@[simp] theorem State.port_putLink (x : LinkId) (l : LinkState) (p : Port) : (s.putLink x l).port p = s.port p :=
  rfl

/-! ## Links -/

@[simp] theorem PerLink.get_set {α : Type} (v : PerLink α) (x y : LinkId) (a : α) :
    (v.set x a).get y = if y = x then a else v.get y := by cases x <;> cases y <;> rfl

@[simp] theorem PerLink.set_get {α : Type} (v : PerLink α) (x : LinkId) : v.set x (v.get x) = v := by
  cases x <;> rfl

@[simp] theorem PerLink.set_set {α : Type} (v : PerLink α) (x : LinkId) (a b : α) :
    (v.set x a).set x b = v.set x b := by cases x <;> rfl

@[simp] theorem PerLink.get_map {α β : Type} (f : α → β) (v : PerLink α) (x : LinkId) :
    (v.map f).get x = f (v.get x) := by cases x <;> rfl

theorem PerLink.ext_get {α : Type} {u v : PerLink α} (h : ∀ x, u.get x = v.get x) : u = v := by
  have ha := h .a
  have hb := h .b
  have hc := h .c
  cases u
  cases v
  simp_all [PerLink.get]

@[simp] theorem State.link_putLink (x y : LinkId) (l : LinkState) :
    (s.putLink x l).link y = if y = x then l else s.link y := PerLink.get_set ..

@[simp] theorem State.putLink_link (x : LinkId) : s.putLink x (s.link x) = s := by
  simp [State.putLink, State.link]

@[simp] theorem State.putLink_putLink (x : LinkId) (l m : LinkState) :
    (s.putLink x l).putLink x m = s.putLink x m := by simp [State.putLink]

@[simp] theorem State.link_samplePin (b : Bool) (x : LinkId) : (s.samplePin b).link x = s.link x := rfl

@[simp] theorem State.link_putSeat (n : Seat) (r : SeatRecord) (x : LinkId) : (s.putSeat n r).link x = s.link x :=
  rfl

@[simp] theorem State.link_putMonitor (n : Seat) (m : SeatMonitor) (x : LinkId) :
    (s.putMonitor n m).link x = s.link x := rfl

@[simp] theorem State.link_noticeOverflow (x : LinkId) : s.noticeOverflow.link x
    = { s.link x with notice := (s.link x).notice || (s.link x).enabled } := by cases x <;> rfl

/-! ## Kinds -/

@[simp] theorem PerKind.get_set {α : Type} (v : PerKind α) (j k : Kind) (a : α) :
    (v.set j a).get k = if k = j then a else v.get k := by cases j <;> cases k <;> rfl

@[simp] theorem PerKind.get_of (f : Kind → Bool) (k : Kind) : (PerKind.of f).get k = f k := by cases k <;> rfl

@[simp] theorem PerKind.get_every (k : Kind) : PerKind.every.get k = true := PerKind.get_of ..

@[simp] theorem PerKind.get_nothing (k : Kind) : PerKind.nothing.get k = false := PerKind.get_of ..

@[simp] theorem PerKind.get_only (j k : Kind) : (PerKind.only j).get k = (k == j) := PerKind.get_of ..

@[simp] theorem PerKind.get_union (u v : PerKind Bool) (k : Kind) : (u.union v).get k = (u.get k || v.get k) :=
  PerKind.get_of ..

@[simp] theorem mem_allKinds (k : Kind) : k ∈ allKinds := by cases k <;> decide

@[simp] theorem mem_allLinks (x : LinkId) : x ∈ allLinks := by cases x <;> decide

@[simp] theorem mem_allSeats (n : Seat) : n ∈ allSeats := List.mem_finRange n

@[simp] theorem State.isDue_putDue (n m : Seat) (j k : Kind) (d : Bool) :
    (s.putDue n j d).isDue m k = if m = n ∧ k = j then d else s.isDue m k := by
  by_cases h : m = n
  · subst h
    simp [State.isDue, State.putDue]
  · simp [State.isDue, State.putDue, h]

end Sys2Proof.Machine
end

