-- ==== Sys2Proof/Laws/Memory.lean ====
section
/-! SUPPORT. The EEPROM's memory: every operation keeps the canonical form, and what a read gives after a
write. -/

namespace Sys2Proof.Machine

/-- A memory in canonical form whose first address lies above `a` (or which is empty). -/
def Memory.above (a : Nat) (m : Memory) : Prop := ∀ c ∈ m.head?, a < c.1

theorem Memory.wf_cons (c : Host.Cell) (m : Memory) :
    Memory.wf (c :: m) = true ↔ c.2 ≠ Config.blankByte ∧ Memory.above c.1 m ∧ m.wf = true := by
  cases m with
  | nil => simp [Memory.wf, Memory.above]
  | cons d m => simp [Memory.wf, Memory.above, and_assoc]

theorem Memory.above_mono {a b : Nat} {m : Memory} (h : a ≤ b) (hm : Memory.above b m) : Memory.above a m :=
  fun c hc => Nat.lt_of_le_of_lt h (hm c hc)

theorem Memory.above_of_wf {a : Nat} {c : Host.Cell} {m : Memory} (ha : a < c.1) : Memory.above a (c :: m) := by
  simp [Memory.above, ha]

/-- Below its first address a memory in canonical form reads as blank memory. -/
theorem Memory.read_of_above {a : Nat} {m : Memory} (hm : m.wf = true) (h : Memory.above a m) :
    m.read a = Config.blankByte := by
  induction m with
  | nil => rfl
  | cons c m ih =>
    have hc : a < c.1 := h c (by simp)
    have hw := (Memory.wf_cons c m).1 hm
    simp only [Memory.read]
    rw [if_neg (Nat.ne_of_gt hc)]
    exact ih hw.2.2 (Memory.above_mono (Nat.le_of_lt hc) hw.2.1)

/-- A write above `a` leaves a memory above `a`. -/
theorem Memory.above_write {a address : Nat} {b : Byte} {m : Memory} (hm : m.wf = true)
    (h : Memory.above a m) (ha : a < address) : Memory.above a (m.write address b) := by
  cases m with
  | nil => simp only [Memory.write]; split <;> simp [Memory.above, ha]
  | cons c m =>
    have hc : a < c.1 := h c (by simp)
    have hw := (Memory.wf_cons c m).1 hm
    simp only [Memory.write]
    split
    · split <;> simp [Memory.above, ha, hc]
    · split
      · split
        · exact Memory.above_mono (Nat.le_of_lt hc) hw.2.1
        · simp [Memory.above, ha]
      · simp [Memory.above, hc]

/-- A write keeps the canonical form. -/
theorem Memory.wf_write {m : Memory} (address : Nat) (b : Byte) (hm : m.wf = true) :
    (m.write address b).wf = true := by
  induction m with
  | nil =>
    simp only [Memory.write]
    split
    · rfl
    · simpa [Memory.wf]
  | cons c m ih =>
    have hw := (Memory.wf_cons c m).1 hm
    simp only [Memory.write]
    split
    · split
      · exact hm
      · rename_i hlt hb
        exact (Memory.wf_cons ..).2 ⟨hb, Memory.above_of_wf hlt, hm⟩
    · split
      · split
        · exact hw.2.2
        · rename_i heq hb
          exact (Memory.wf_cons ..).2 ⟨hb, heq ▸ hw.2.1, hw.2.2⟩
      · rename_i hlt hne
        exact (Memory.wf_cons ..).2
          ⟨hw.1, Memory.above_write hw.2.2 hw.2.1 (by omega), ih hw.2.2⟩

theorem Memory.wf_writeBytes {m : Memory} (address : Nat) (bs : List Byte) (hm : m.wf = true) :
    (m.writeBytes address bs).wf = true := by
  induction bs generalizing m address with
  | nil => exact hm
  | cons b bs ih => exact ih (address + 1) (Memory.wf_write address b hm)

theorem Memory.wf_writePages {m : Memory} (address : Nat) (pages : List (Nat × List Byte)) (hm : m.wf = true) :
    (m.writePages address pages).wf = true := by
  induction pages generalizing m with
  | nil => exact hm
  | cons page pages ih => exact ih (Memory.wf_writeBytes _ _ hm)

theorem Memory.wf_cutSave {m : Memory} (address : Nat) (img : List Byte) (g : Progress) (hm : m.wf = true) :
    (m.cutSave address img g).wf = true := by
  have hw := Memory.wf_writePages address ((savePages img).take g.taken) hm
  simp only [Memory.cutSave]
  split
  · exact hw
  · split
    · exact hw
    · exact Memory.wf_writeBytes _ _ hw

theorem State.reset_store_wf : State.reset.store.wf = true := rfl

/-- Another address reads as before. -/
theorem Memory.read_write_ne {m : Memory} {address a : Nat} (b : Byte) (h : a ≠ address) :
    (m.write address b).read a = m.read a := by
  induction m with
  | nil =>
    simp only [Memory.write]
    split
    · rfl
    · simp [Memory.read, Ne.symm h]
  | cons c m ih =>
    simp only [Memory.write]
    split
    · split
      · rfl
      · simp [Memory.read, Ne.symm h]
    · split
      · rename_i heq
        split <;> simp [Memory.read, ← heq, Ne.symm h]
      · simp only [Memory.read, ih]

/-- The written address reads as the byte written. -/
theorem Memory.read_write_self {m : Memory} (address : Nat) (b : Byte) (hm : m.wf = true) :
    (m.write address b).read address = b := by
  induction m with
  | nil =>
    simp only [Memory.write]
    split
    · rename_i hb
      exact hb.symm
    · simp [Memory.read]
  | cons c m ih =>
    have hw := (Memory.wf_cons c m).1 hm
    simp only [Memory.write]
    split
    · rename_i hlt
      split
      · rename_i hb
        rw [Memory.read_of_above hm (Memory.above_of_wf hlt), hb]
      · simp [Memory.read]
    · split
      · rename_i heq
        split
        · rename_i hb
          rw [Memory.read_of_above hw.2.2 (heq ▸ hw.2.1), hb]
        · simp [Memory.read]
      · rename_i hlt hne
        simp only [Memory.read]
        rw [if_neg (fun h => hne h.symm)]
        exact ih hw.2.2

/-- Bytes below or above a run of writes read as before. -/
theorem Memory.read_writeBytes_of_outside {m : Memory} {address a : Nat} (bs : List Byte)
    (h : a < address ∨ address + bs.length ≤ a) : (m.writeBytes address bs).read a = m.read a := by
  induction bs generalizing m address with
  | nil => rfl
  | cons b bs ih =>
    simp only [List.length_cons] at h
    simp only [Memory.writeBytes]
    rw [ih (by omega), Memory.read_write_ne b (by omega)]

/-- The bytes of a run of writes read as they were written. -/
theorem Memory.read_writeBytes {m : Memory} (address : Nat) (bs : List Byte) (hm : m.wf = true) {i : Nat}
    (h : i < bs.length) : (m.writeBytes address bs).read (address + i) = bs[i] := by
  induction bs generalizing m address i with
  | nil => simp at h
  | cons b bs ih =>
    simp only [Memory.writeBytes]
    cases i with
    | zero =>
      rw [Memory.read_writeBytes_of_outside bs (by omega)]
      simpa using Memory.read_write_self address b hm
    | succ i =>
      rw [show address + (i + 1) = address + 1 + i by omega]
      exact ih (address + 1) (Memory.wf_write _ _ hm) (by simpa using h)

@[simp] theorem Memory.length_readBytes (m : Memory) (address count : Nat) :
    (m.readBytes address count).length = count := by simp [Memory.readBytes]

/-- A run of bytes written reads back as it was written. -/
theorem Memory.readBytes_writeBytes {m : Memory} (address : Nat) (bs : List Byte) (hm : m.wf = true) {count : Nat}
    (h : count = bs.length) : (m.writeBytes address bs).readBytes address count = bs := by
  subst h
  refine List.ext_getElem (by simp) fun i hi hb => ?_
  simp only [Memory.readBytes, List.getElem_map, List.getElem_range]
  exact Memory.read_writeBytes address bs hm hb

end Sys2Proof.Machine
end

