-- ==== Sys2Proof/Laws/WarningList.lean ====
section
/-! SUPPORT. What the operations of the Warning List can do: besides the qualifiers, the list and the overflow
notices they touch nothing, and each says what it makes of the list and the due marks. -/

namespace Sys2Proof.Machine

/-! ## The frame -/

@[simp] theorem State.onlyMonitorAndList_refl (s : State) : s.onlyMonitorAndList s := ⟨rfl, fun _ => rfl⟩

theorem State.onlyMonitorAndList_trans {s t u : State} (h : s.onlyMonitorAndList t)
    (g : t.onlyMonitorAndList u) : s.onlyMonitorAndList u := by
  refine ⟨g.1.trans ?_, fun x => ?_⟩
  · rw [h.1]
  · rw [g.2 x, h.2 x]

theorem State.onlyMonitorAndList_putMonitor (s : State) (n : Seat) (m : SeatMonitor) :
    s.onlyMonitorAndList (s.putMonitor n m) := ⟨rfl, fun _ => rfl⟩

theorem State.onlyMonitorAndList_mapMonitors (s : State) (f : Seat → SeatMonitor → SeatMonitor) :
    s.onlyMonitorAndList (s.mapMonitors f) :=
  ⟨by simp only [State.mapMonitors], fun _ => by simp only [State.link, State.mapMonitors]⟩

theorem State.onlyMonitorAndList_appendRecord (s : State) (r : Record) :
    s.onlyMonitorAndList (s.appendRecord r) := ⟨rfl, fun _ => rfl⟩

theorem State.onlyMonitorAndList_updateRecord (s : State) (n : Seat) (k : Kind) (f : Record → Record) :
    s.onlyMonitorAndList (s.updateRecord n k f) := ⟨rfl, fun _ => rfl⟩

theorem State.onlyMonitorAndList_noticeOverflow (s : State) : s.onlyMonitorAndList s.noticeOverflow :=
  ⟨rfl, fun x => by simp⟩

theorem State.onlyMonitorAndList_setDue (s : State) (n : Seat) (k : Kind) : s.onlyMonitorAndList (s.setDue n k) := by
  simp only [State.setDue]
  split
  · exact s.onlyMonitorAndList_putMonitor ..
  · exact State.onlyMonitorAndList_trans (s.onlyMonitorAndList_putMonitor ..)
      (State.onlyMonitorAndList_noticeOverflow _)

theorem State.onlyMonitorAndList_raise (s : State) (o : HandedOutcome) : s.onlyMonitorAndList (s.raise o) := by
  simp only [State.raise]
  split
  · exact s.onlyMonitorAndList_appendRecord _
  · exact s.onlyMonitorAndList_setDue ..

theorem State.onlyMonitorAndList_removeRecord (s : State) (n : Seat) (k : Kind) :
    s.onlyMonitorAndList (s.removeRecord n k) := by
  simp only [State.removeRecord]
  split
  · exact ⟨rfl, fun _ => rfl⟩
  · exact ⟨rfl, fun _ => rfl⟩

theorem State.onlyMonitorAndList_admitMark (s : State) (n : Seat) (k : Kind) :
    s.onlyMonitorAndList (s.admitMark n k) := ⟨rfl, fun _ => rfl⟩

theorem State.onlyMonitorAndList_fillPlaces (places : Nat) (s : State) :
    s.onlyMonitorAndList (s.fillPlaces places) := by
  induction places generalizing s with
  | zero => exact s.onlyMonitorAndList_refl
  | succ places ih =>
    simp only [State.fillPlaces]
    split
    · exact s.onlyMonitorAndList_refl
    · exact State.onlyMonitorAndList_trans (s.onlyMonitorAndList_admitMark ..) (ih _)

theorem State.onlyMonitorAndList_fillFreed (s : State) : s.onlyMonitorAndList s.fillFreed :=
  s.onlyMonitorAndList_fillPlaces _

theorem State.onlyMonitorAndList_applyOutcome (s : State) (o : HandedOutcome) :
    s.onlyMonitorAndList (s.applyOutcome o) := by
  simp only [State.applyOutcome]
  split
  · exact s.onlyMonitorAndList_raise o
  · split
    · exact s.onlyMonitorAndList_updateRecord ..
    · exact s.onlyMonitorAndList_refl
  · exact s.onlyMonitorAndList_refl
  · split
    · exact s.onlyMonitorAndList_refl
    · exact s.onlyMonitorAndList_updateRecord ..
  · exact s.onlyMonitorAndList_refl
  · split
    · exact s.onlyMonitorAndList_updateRecord ..
    · exact s.onlyMonitorAndList_removeRecord ..
    · exact s.onlyMonitorAndList_refl

theorem State.onlyMonitorAndList_applyHanded (freed : Bool) (s : State) (os : List HandedOutcome) :
    s.onlyMonitorAndList (s.applyHanded freed os) := by
  induction os generalizing freed s with
  | nil => exact s.onlyMonitorAndList_refl
  | cons o os ih =>
    have one := s.onlyMonitorAndList_applyOutcome o
    simp only [State.applyHanded]
    split
    · split
      · exact State.onlyMonitorAndList_trans one (ih ..)
      · exact State.onlyMonitorAndList_trans one
          (State.onlyMonitorAndList_trans (State.onlyMonitorAndList_fillFreed _) (ih ..))
    · exact State.onlyMonitorAndList_trans one (ih ..)

theorem State.onlyMonitorAndList_applyOutcomes (s : State) (os : List HandedOutcome) :
    s.onlyMonitorAndList (s.applyOutcomes os) := s.onlyMonitorAndList_applyHanded false os

@[simp] theorem State.applyOutcomes_nil (s : State) : s.applyOutcomes [] = s := rfl

/-- An event that hands one outcome: a record it removes gives its place to due marks at once (R88). -/
theorem State.applyOutcomes_singleton (s : State) (o : HandedOutcome) :
    s.applyOutcomes [o] = if s.removes o then (s.applyOutcome o).fillFreed else s.applyOutcome o := by
  simp [State.applyOutcomes, State.applyHanded]

/-- Outcomes that remove nothing are applied one after another. -/
theorem State.applyOutcomes_cons_of_not_removes {s : State} {o : HandedOutcome} (h : s.removes o = false)
    (os : List HandedOutcome) : s.applyOutcomes (o :: os) = (s.applyOutcome o).applyOutcomes os := by
  simp [State.applyOutcomes, State.applyHanded, h]

theorem State.onlyMonitorAndList_acknowledge (s : State) (x : LinkId) (r : Record) :
    s.onlyMonitorAndList (s.acknowledge x r) := by
  simp only [State.acknowledge]
  split
  · exact s.onlyMonitorAndList_updateRecord ..
  · exact s.onlyMonitorAndList_updateRecord ..
  · exact s.onlyMonitorAndList_removeRecord ..

theorem State.onlyMonitorAndList_removeAll (s : State) (rs : List Record) : s.onlyMonitorAndList (s.removeAll rs) := by
  simp only [State.removeAll]
  split
  · exact s.onlyMonitorAndList_refl
  · refine State.onlyMonitorAndList_trans ?_ (State.onlyMonitorAndList_fillFreed _)
    rename_i h
    clear h
    induction rs generalizing s with
    | nil => exact s.onlyMonitorAndList_refl
    | cons r rs ih => exact State.onlyMonitorAndList_trans (s.onlyMonitorAndList_removeRecord ..) (ih _)

/-! ## What the frame keeps -/

section
variable {s t : State} (h : s.onlyMonitorAndList t)
include h

theorem State.onlyMonitorAndList_seat (n : Seat) : t.seat n = s.seat n := by rw [h.1]; rfl

theorem State.onlyMonitorAndList_port (p : Port) : t.port p = s.port p := by rw [h.1]; rfl

theorem State.onlyMonitorAndList_floor : t.floor = s.floor := by rw [h.1]

theorem State.onlyMonitorAndList_params : t.params = s.params := by rw [h.1]

theorem State.onlyMonitorAndList_sitting : t.sitting = s.sitting := by rw [h.1]

theorem State.onlyMonitorAndList_clock : t.clock = s.clock := by rw [h.1]

theorem State.onlyMonitorAndList_pending : t.pending = s.pending := by rw [h.1]

theorem State.onlyMonitorAndList_onFloor (n : Seat) : t.onFloor n = s.onFloor n := by rw [h.1]; rfl

theorem State.onlyMonitorAndList_bound (n : Seat) : t.bound n = s.bound n := by rw [h.1]; rfl

end

/-! ## Records, due marks and the overflow status -/

theorem Record.isFor_iff (n : Seat) (k : Kind) (r : Record) : r.isFor n k = true ↔ r.seat = n ∧ r.kind = k := by
  simp [Record.isFor]

/-- The list holds a record for a (seat, kind) exactly when `State.record` finds one. -/
theorem State.record_eq_none (s : State) (n : Seat) (k : Kind) :
    s.record n k = none ↔ ∀ r ∈ s.records, r.isFor n k = false := by
  simp [State.record]

theorem State.mem_of_record {s : State} {n : Seat} {k : Kind} {r : Record} (h : s.record n k = some r) :
    r ∈ s.records ∧ r.seat = n ∧ r.kind = k :=
  ⟨List.mem_of_find?_eq_some h, (Record.isFor_iff ..).1 (by simpa using List.find?_some h)⟩

theorem State.overflow_iff (s : State) : s.overflow = true ↔ ∃ n k, s.isDue n k = true := by
  simp [State.overflow]

/-- The due mark that admission takes first is outstanding. -/
theorem State.isDue_of_firstDue {s : State} {n : Seat} {k : Kind} (h : s.firstDue = some (n, k)) :
    s.isDue n k = true := by
  simp only [State.firstDue] at h
  obtain ⟨m, -, hm⟩ := List.exists_of_findSome?_eq_some h
  simp only [Option.map_eq_some_iff, Prod.mk.injEq] at hm
  obtain ⟨j, hj, rfl, rfl⟩ := hm
  exact by simpa using List.find?_some hj

theorem State.firstDue_eq_none (s : State) : s.firstDue = none ↔ s.overflow = false := by
  simp [State.firstDue, State.overflow]

/-- A raise: a record at the end while there is a place, a due mark otherwise (R83). -/
theorem State.raise_spec (s : State) (o : HandedOutcome) :
    (s.records.length < 48 → s.raise o
        = s.appendRecord (newRecord s.params s.clock o.seat o.kind o.grade o.detail))
      ∧ (48 ≤ s.records.length → s.raise o = s.setDue o.seat o.kind) :=
  ⟨fun h => if_pos h, fun h => if_neg (Nat.not_lt.2 h)⟩

@[simp] theorem State.setDue_records (s : State) (n : Seat) (k : Kind) : (s.setDue n k).records = s.records := by
  simp only [State.setDue]
  split <;> rfl

@[simp] theorem State.isDue_setDue (s : State) (n m : Seat) (j k : Kind) :
    (s.setDue n j).isDue m k = if m = n ∧ k = j then true else s.isDue m k := by
  have h : (s.setDue n j).isDue m k = (s.putDue n j true).isDue m k := by
    simp only [State.setDue]
    split <;> rfl
  rw [h, State.isDue_putDue]

@[simp] theorem State.removeRecord_records (s : State) (n : Seat) (k : Kind) :
    (s.removeRecord n k).records = s.records.filter fun r => !r.isFor n k := by
  simp only [State.removeRecord]
  split <;> rfl

end Sys2Proof.Machine
end

