-- ==== Sys2Proof/Laws/Monitor.lean ====
section
/-! SUPPORT. What the operations of the Condition Monitor can do: the frame of an evaluation, and what the
qualifier types make of their states. -/

namespace Sys2Proof.Machine

/-! ## Frames -/

theorem State.onlyMonitorAndList_evaluate (s : State) (tick : Bool) (kinds : Seat → PerKind Bool) :
    s.onlyMonitorAndList (s.evaluate tick kinds) :=
  State.onlyMonitorAndList_trans (s.onlyMonitorAndList_mapMonitors _) (State.onlyMonitorAndList_applyOutcomes ..)

theorem State.onlyMonitorAndList_restartMonitors (s : State) (who : Seat → Bool) :
    s.onlyMonitorAndList (s.restartMonitors who) :=
  State.onlyMonitorAndList_trans (s.onlyMonitorAndList_mapMonitors _)
    (State.onlyMonitorAndList_trans (State.onlyMonitorAndList_mapMonitors ..)
      (State.onlyMonitorAndList_applyOutcomes ..))

theorem State.onlyMonitorAndList_recessMonitors (s : State) : s.onlyMonitorAndList s.recessMonitors :=
  State.onlyMonitorAndList_trans (s.onlyMonitorAndList_mapMonitors _) (State.onlyMonitorAndList_applyOutcomes ..)

theorem State.onlyMonitorAndList_startMonitors (s : State) : s.onlyMonitorAndList s.startMonitors :=
  State.onlyMonitorAndList_trans (s.onlyMonitorAndList_mapMonitors _) (State.onlyMonitorAndList_evaluate ..)

theorem State.onlyMonitorAndList_withdrawn (s : State) (who : Seat → Bool) :
    s.onlyMonitorAndList (s.withdrawn who) := s.onlyMonitorAndList_evaluate ..

theorem State.onlyMonitorAndList_granted (s : State) (n : Seat) : s.onlyMonitorAndList (s.granted n) :=
  State.onlyMonitorAndList_trans (s.onlyMonitorAndList_putMonitor ..) (State.onlyMonitorAndList_evaluate ..)

theorem State.onlyMonitorAndList_replaced (s : State) (oldest joined : Seat) :
    s.onlyMonitorAndList (s.replaced oldest joined) :=
  State.onlyMonitorAndList_trans (s.onlyMonitorAndList_withdrawn _) (State.onlyMonitorAndList_granted ..)

/-- Nothing is evaluated in SETUP, nor for a seat that is not bound (R58, R70). -/
theorem State.evaluated_of_not_evaluates {s : State} {n : Seat} (h : s.evaluates n = false) (tick : Bool)
    (kinds : Seat → PerKind Bool) : s.evaluated tick kinds n = (s.monitor n, []) := by
  simp [State.evaluated, h]

theorem State.evaluates_eq_false_of_setup {s : State} (h : s.sitting = .setup) (n : Seat) :
    s.evaluates n = false := by simp [State.evaluates, h]

/-- With no kinds to evaluate a seat's qualifiers stay and hand nothing on. -/
theorem State.evaluateSeat_nothing (s : State) (tick : Bool) (n : Seat) (m : SeatMonitor) :
    s.evaluateSeat tick n .nothing m = (m, []) := by
  simp [State.evaluateSeat, allKinds]

theorem State.monitor_evaluateAll (s : State) (tick : Bool) (kinds : Seat → PerKind Bool) (n : Seat) :
    (s.evaluateAll tick kinds).monitor n = (s.evaluated tick kinds n).1 := by
  simp [State.evaluateAll]

/-- An event in SETUP changes nothing through the Condition Monitor (R70). -/
theorem State.evaluate_of_setup {s : State} (h : s.sitting = .setup) (tick : Bool)
    (kinds : Seat → PerKind Bool) : s.evaluate tick kinds = s := by
  have hn : ∀ n, s.evaluated tick kinds n = (s.monitor n, []) := fun n =>
    State.evaluated_of_not_evaluates (State.evaluates_eq_false_of_setup h n) tick kinds
  have hm : s.evaluateAll tick kinds = s := by
    simp only [State.evaluateAll, State.mapMonitors, hn, State.monitor]
    have : (Vector.ofFn fun n : Seat => s.monitors[n]) = s.monitors := by
      ext i hi
      simp
    rw [this]
  have ho : s.outcomes tick kinds = [] := by simp [State.outcomes, hn]
  simp [State.evaluate, ho, hm]

/-! ## RESETTING qualifiers (R60) -/

/-- After an evaluation a RESETTING qualifier whose condition holds has left QUIET. -/
theorem resetting_of_holds {tick clears : Bool} {setValue : Nat} {q : QState} {pv : Nat}
    (hc : clears = false) : (resetting tick setValue true clears q pv).1 ≠ .quiet := by
  subst hc
  cases tick <;> cases q <;> simp [resetting, resettingTick, resettingEvent] <;> split <;> simp

/-- A RESETTING qualifier hands a qualified outcome exactly when it enters QUALIFIED, and a cleared one
exactly when it leaves it. -/
theorem resetting_verdict {tick holds clears : Bool} {setValue : Nat} {q q' : QState} {pv pv' : Nat}
    {v : Option Verdict} (h : resetting tick setValue holds clears q pv = (q', pv', v)) :
    (v = some .qualified ↔ q ≠ .qualified ∧ q' = .qualified)
      ∧ (v = some .cleared ↔ q = .qualified ∧ q' ≠ .qualified) ∧ v ≠ some .gradeRise := by
  cases tick <;> cases q <;> simp only [resetting, resettingTick, resettingEvent, if_true, if_false,
    Bool.false_eq_true] at h <;> split at h <;> (try split at h) <;>
    (simp only [Prod.mk.injEq] at h; obtain ⟨rfl, -, rfl⟩ := h; simp)

/-! ## Changed set values (R60) -/

/-- What the changed set values make of one seat's qualifiers: three present values, and nothing else. -/
theorem SeatMonitor.takeSetValues_eq (p : Params) (c : SetChanged) (m : SeatMonitor) :
    ∃ b v w, m.takeSetValues p c = { m with batteryPv := b, mutedPv := v, weakPv := w }
      ∧ (b = m.batteryPv ∨ b = p.batteryQualify) ∧ (v = m.mutedPv ∨ v = p.mutedSpeechQualify)
      ∧ (w = m.weakPv ∨ w = p.weakQualify) :=
  ⟨_, _, _, rfl, (ite_eq_or_eq ..).symm, (ite_eq_or_eq ..).symm, (ite_eq_or_eq ..).symm⟩

@[simp] theorem State.seat_takeSetValues (s : State) (n : Seat) : s.takeSetValues.seat n = s.seat n := by
  simp only [State.takeSetValues, State.seat, State.mapMonitors]

@[simp] theorem State.monitor_takeSetValues (s : State) (n : Seat) :
    s.takeSetValues.monitor n = (s.monitor n).takeSetValues s.params s.setChanged := by
  simp [State.takeSetValues, State.monitor, State.mapMonitors]

@[simp] theorem State.takeSetValues_setChanged (s : State) : s.takeSetValues.setChanged = .none := by
  simp only [State.takeSetValues]

/-- Besides the present values and the note of the changes, nothing differs. -/
theorem State.takeSetValues_eq (s : State) :
    s.takeSetValues = { s with monitors := s.takeSetValues.monitors, setChanged := .none } := by
  simp only [State.takeSetValues, State.mapMonitors]

/-! ## The ACCUMULATING qualifier (R62) -/

/-- After an event the ACCUMULATING qualifier is out of QUIET exactly while its condition holds. -/
theorem accumulatingEvent_state (limit : Nat) (holds : Bool) (q : QState) (pv : Nat) :
    (accumulatingEvent limit holds q pv).1 ≠ .quiet ↔ holds = true := by
  cases q <;> cases holds <;> simp [accumulatingEvent]
  split <;> simp

/-- After a quarter tick too, and its present value has risen by one where the condition holds. -/
theorem accumulatingTick_state (limit : Nat) (holds : Bool) (q : QState) (pv : Nat) :
    ((accumulatingTick limit holds q pv).1 ≠ .quiet ↔ holds = true)
      ∧ (accumulatingTick limit holds q pv).2.1 = if holds then min 65535 (pv + 1) else pv := by
  cases q <;> cases holds <;> simp [accumulatingTick, bump, Config.openPvMax] <;> split <;> simp

end Sys2Proof.Machine
end

