-- ==== Sys2Proof/WellFormed.lean ====
section
/-! DEFINITION. Which commands can occur on the lines at all. -/

namespace Sys2Proof

/-- LEN counts CODE and the payload and is at most 60, so a payload has at most 59 bytes (R135). -/
def payloadFits (payload : List Byte) : Bool := payload.length ≤ 59

/-- The CODEs 01h to 25h name requests; every other CODE names none (10.5, R140). -/
def namesRequest (code : Byte) : Bool := 1 ≤ code.toNat && code.toNat ≤ 37

/-- The kinds whose qualifier is RESETTING (chapter 4, kind table). -/
def Kind.resetting : Kind → Bool
  | .battery | .mutedSpeech | .signalWeak => true
  | .batteryShortfall | .openNoFloor | .dropouts | .signalLost => false

/-- A page write of a save is at most 32 bytes, and an operation makes at most 604 transfers (R151). -/
def Progress.fits (p : Progress) : Bool := p.torn.length ≤ 32 && p.taken ≤ 604

/-- The commands that the lines and the part can present. -/
def Instr.wellFormed : Instr → Bool
  | .resetPin _ _ g | .storeFault g => g.fits
  | .qualifierExpiry _ k => k.resetting
  | .unknownRequest _ code p => !namesRequest code && payloadFits p
  | .status _ p | .clearLinkFlags _ p | .bindPack _ p | .unbindSeat _ p | .setGroup _ p | .readSeat _ p
  | .readSeats _ p | .readStrays _ p | .restartSeats _ p | .readPorts _ p | .portStart _ p | .portStop _ p
  | .clearPortFlags _ p | .setCurve _ p | .readCurve _ p | .setParameter _ p | .readParameter _ p
  | .purgeCleared _ p | .readUnseen _ p | .readWarnings _ p | .ackWarning _ p | .ackGroup _ p | .setView _ p
  | .readView _ p | .startSitting _ p | .setSchedule _ p | .recess _ p | .resume _ p | .endSitting _ p
  | .grantFloor _ p | .withdrawFloor _ p | .withdrawAll _ p | .readFloor _ p | .profileSave _ p _
  | .profileLoad _ p | .profileCompare _ p | .readProfileStatus _ p _ => payloadFits p
  | .portCharacter _ _ _ | .intakePick | .quarterTick _ | .enterFading _ | .enterLost _
  | .accumulationLimit _ | .secondTick _ | .dropoutWindowEnd | .escalationExpiry _ _ | .minuteTick
  | .drainWindowComplete _ | .linkCharacter _ _ _ _ | .replyEnd _ _ | .linkBreak _ | .saveComplete
  | .loadComplete | .compareComplete | .linkReturnToMark _ => true

end Sys2Proof
end

