-- ==== Sys2Proof/Laws/Requests.lean ====
section
/-! SUPPORT. How a request is taken: the commands of the requests are `requestReaches` of their CODE, a ready link
takes the request at once, and the reply is the only change of the link besides what the request does. -/

namespace Sys2Proof.Machine

/-! ## Codes -/

/-- Every request is found again from its CODE (10.5). -/
@[simp] theorem requestOf_code (q : Request) : requestOf q.code = some q := by cases q <;> decide

/-- A CODE outside 01h to 25h names no request (R140). -/
theorem requestOf_eq_none {code : Byte} (h : namesRequest code = false) : requestOf code = none := by
  revert h
  revert code
  decide

/-! ## Taking a request -/

/-- A request command does what a complete good frame of its CODE does (log 5), with the PROTECT level where the
command carries one (log 17). -/
theorem exec_of_asRequest {i : Instr} {x : LinkId} {code : Byte} {payload : List Byte}
    (h : asRequest i = some (x, code, payload)) (s : State) :
    ∃ protect : Bool, exec i s = .next ((s.samplePin protect).requestReaches x code payload) := by
  have hs : s.samplePin s.protect = s := rfl
  cases i <;> simp only [asRequest, Option.some.injEq, Prod.mk.injEq, reduceCtorEq] at h <;>
    obtain ⟨rfl, rfl, rfl⟩ := h <;>
    first
      | exact ⟨s.protect, by rw [hs]; rfl⟩
      | exact ⟨_, rfl⟩

/-- A link that hears takes a good request at once where no reply is in progress (R138). -/
theorem State.requestReaches_of_idle {s : State} {x : LinkId} (hh : (s.link x).hears = true)
    (hr : (s.link x).reply = none) (code : Byte) (payload : List Byte) :
    s.requestReaches x code payload
      = (s.putLink x { s.link x with assembly := .hunt }).takeRequest x ⟨code, payload⟩ := by
  simp [State.requestReaches, hh, State.goodRequest, hr]

/-- A link that hears nothing takes no request (R105, R144). -/
theorem State.requestReaches_of_deaf {s : State} {x : LinkId} (hh : (s.link x).hears = false) (code : Byte)
    (payload : List Byte) : s.requestReaches x code payload = s := by
  simp [State.requestReaches, hh]

/-- Outside the start-up load a CODE that names a request is judged by the rule that owns it (R140). -/
theorem State.judgeRequest_of_code {s : State} (hs : s.startUpLoading = false) (x : LinkId) (q : Request)
    (payload : List Byte) : s.judgeRequest x ⟨q.code, payload⟩ = serve q x payload s := by
  simp [State.judgeRequest, hs]

/-- A CODE that names no request is UNKNOWN (R140 step 2). -/
theorem State.judgeRequest_of_unknown {s : State} (hs : s.startUpLoading = false) (x : LinkId) {code : Byte}
    (hc : namesRequest code = false) (payload : List Byte) :
    s.judgeRequest x ⟨code, payload⟩ = s.refuse .unknown := by
  simp [State.judgeRequest, hs, requestOf_eq_none hc]

/-- A request is taken: what the rule makes of the state, with the reply in progress on the link (R139). -/
theorem State.takeRequest_eq (s : State) (x : LinkId) (r : HeldRequest) :
    s.takeRequest x r = (s.judgeRequest x r).state.putLink x
      { (s.judgeRequest x r).state.link x with
        reply := some (replyFrame r.code (s.judgeRequest x r).status (s.judgeRequest x r).payload) } := rfl

/-- A request that is refused leaves everything but the link's assembly and reply as it was (R139, R140). -/
theorem State.takeRequest_of_refused {s : State} {x : LinkId} {r : HeldRequest} {st : ReplyStatus}
    {payload : List Byte} (h : (s.putLink x { s.link x with assembly := .hunt }).judgeRequest x r
      = ⟨s.putLink x { s.link x with assembly := .hunt }, st, payload⟩) :
    (s.putLink x { s.link x with assembly := .hunt }).takeRequest x r = s.replied x r.code st payload := by
  rw [State.takeRequest_eq, h]
  simp [State.replied, LinkState.replying]

/-! ## The reply on its link -/

@[simp] theorem State.replied_link (s : State) (x y : LinkId) (code : Byte) (st : ReplyStatus)
    (payload : List Byte) : (s.replied x code st payload).link y
      = if y = x then (s.link x).replying code st payload else s.link y := by simp [State.replied]

@[simp] theorem State.replied_seat (s : State) (x : LinkId) (code : Byte) (st : ReplyStatus)
    (payload : List Byte) (n : Seat) : (s.replied x code st payload).seat n = s.seat n := rfl

@[simp] theorem State.replied_records (s : State) (x : LinkId) (code : Byte) (st : ReplyStatus)
    (payload : List Byte) : (s.replied x code st payload).records = s.records := rfl

/-! ## The shapes of replies -/

@[simp] theorem length_bytes2 (n : Nat) : (bytes2 n).length = 2 := rfl

@[simp] theorem length_bytes3 (n : Nat) : (bytes3 n).length = 3 := rfl

@[simp] theorem length_bytes4 (n : Nat) : (bytes4 n).length = 4 := rfl

/-- A seat record is 23 bytes and a summary 9 (10.4). -/
theorem length_seatBytes (n : Seat) (r : SeatRecord) (onFloor : Bool) :
    (seatBytes n r onFloor).length = 23 ∧ (seatSummary n r onFloor).length = 9 := by
  simp [seatBytes, seatSummary, packBytes, orFFFF]

/-- A warning record is 20 bytes (10.4). -/
theorem length_recordBytes (r : Record) : (recordBytes r).length = 20 := by simp [recordBytes, orFFFF]

/-- Two bytes, most significant first, give their number back. -/
theorem number2_bytes2 {n : Nat} (h : n < 65536) : number2 (byte (n / 256)) (byte n) = n := by
  simp only [number2, byte, BitVec.toNat_ofNat]
  omega

/-! ## What a snapshot reads -/

/-- A snapshot reads the parameters, the curve, the seats and the links' default records, and nothing else
(R150). -/
theorem State.snapshot_congr {s t : State} (hp : s.params = t.params) (hc : s.curve = t.curve)
    (hs : s.seats = t.seats) (hl : ∀ x, (s.link x).default = (t.link x).default) (slot : Nat) :
    s.snapshot slot = t.snapshot slot := by
  simp only [State.snapshot, State.imageBody, hp, hc, hs, hl]

end Sys2Proof.Machine
end

