-- ==== Sys2Proof/Laws/PerInstr.lean ====
section
/-! SUPPORT. The family of statements that is made per command: LEN of a frame is at most 60 (R135), so the payload
of a well-formed request has at most 59 bytes. -/

namespace Sys2Proof.Laws.PayloadFits

open Sys2Proof.Machine

/-- Of a well-formed command that is a request, the frame fits: CODE and payload are at most 60 characters. -/
def Statement (i : Instr) : Prop :=
  i.wellFormed = true → ∀ x code payload, asRequest i = some (x, code, payload) → payload.length + 1 ≤ 60

/-- A request whose payload fits has a frame that fits. -/
theorem of_payload {i : Instr} {y : LinkId} {c : Byte} {q : List Byte} (hr : asRequest i = some (y, c, q))
    (hw : i.wellFormed = true → payloadFits q = true) : Statement i := by
  intro h x code payload hp
  rw [hr] at hp
  obtain ⟨-, -, rfl⟩ : y = x ∧ c = code ∧ q = payload := by simpa using hp
  have := hw h
  simp only [payloadFits, decide_eq_true_eq] at this
  omega

/-- A command that is no request has no frame. -/
theorem of_none {i : Instr} (hr : asRequest i = none) : Statement i := by
  intro _ x code payload hp
  rw [hr] at hp
  cases hp

theorem resetPin (straps : Straps) (protect : Bool) (progress : Progress) :
    Statement (.resetPin straps protect progress) := of_none rfl

theorem portCharacter (port : Port) (ch : Byte) (stopAtSpace : Bool) :
    Statement (.portCharacter port ch stopAtSpace) := of_none rfl

theorem intakePick :
    Statement (.intakePick) := of_none rfl

theorem quarterTick (order : TickOrder) :
    Statement (.quarterTick order) := of_none rfl

theorem enterFading (seat : Seat) :
    Statement (.enterFading seat) := of_none rfl

theorem enterLost (seat : Seat) :
    Statement (.enterLost seat) := of_none rfl

theorem qualifierExpiry (seat : Seat) (kind : Kind) :
    Statement (.qualifierExpiry seat kind) := of_none rfl

theorem accumulationLimit (seat : Seat) :
    Statement (.accumulationLimit seat) := of_none rfl

theorem secondTick (order : SecondOrder) :
    Statement (.secondTick order) := of_none rfl

theorem dropoutWindowEnd :
    Statement (.dropoutWindowEnd) := of_none rfl

theorem escalationExpiry (seat : Seat) (kind : Kind) :
    Statement (.escalationExpiry seat kind) := of_none rfl

theorem minuteTick :
    Statement (.minuteTick) := of_none rfl

theorem drainWindowComplete (seat : Seat) :
    Statement (.drainWindowComplete seat) := of_none rfl

theorem linkCharacter (link : LinkId) (ch : Byte) (stopAtSpace : Bool) (protect : Bool) :
    Statement (.linkCharacter link ch stopAtSpace protect) := of_none rfl

theorem replyEnd (link : LinkId) (protect : Bool) :
    Statement (.replyEnd link protect) := of_none rfl

theorem linkBreak (link : LinkId) :
    Statement (.linkBreak link) := of_none rfl

theorem unknownRequest (link : LinkId) (code : Byte) (payload : List Byte) :
    Statement (.unknownRequest link code payload) := of_payload rfl fun h => by
    simp only [Instr.wellFormed, Bool.and_eq_true] at h
    exact h.2

theorem status (link : LinkId) (payload : List Byte) :
    Statement (.status link payload) := of_payload rfl id

theorem clearLinkFlags (link : LinkId) (payload : List Byte) :
    Statement (.clearLinkFlags link payload) := of_payload rfl id

theorem bindPack (link : LinkId) (payload : List Byte) :
    Statement (.bindPack link payload) := of_payload rfl id

theorem unbindSeat (link : LinkId) (payload : List Byte) :
    Statement (.unbindSeat link payload) := of_payload rfl id

theorem setGroup (link : LinkId) (payload : List Byte) :
    Statement (.setGroup link payload) := of_payload rfl id

theorem readSeat (link : LinkId) (payload : List Byte) :
    Statement (.readSeat link payload) := of_payload rfl id

theorem readSeats (link : LinkId) (payload : List Byte) :
    Statement (.readSeats link payload) := of_payload rfl id

theorem readStrays (link : LinkId) (payload : List Byte) :
    Statement (.readStrays link payload) := of_payload rfl id

theorem restartSeats (link : LinkId) (payload : List Byte) :
    Statement (.restartSeats link payload) := of_payload rfl id

theorem readPorts (link : LinkId) (payload : List Byte) :
    Statement (.readPorts link payload) := of_payload rfl id

theorem portStart (link : LinkId) (payload : List Byte) :
    Statement (.portStart link payload) := of_payload rfl id

theorem portStop (link : LinkId) (payload : List Byte) :
    Statement (.portStop link payload) := of_payload rfl id

theorem clearPortFlags (link : LinkId) (payload : List Byte) :
    Statement (.clearPortFlags link payload) := of_payload rfl id

theorem setCurve (link : LinkId) (payload : List Byte) :
    Statement (.setCurve link payload) := of_payload rfl id

theorem readCurve (link : LinkId) (payload : List Byte) :
    Statement (.readCurve link payload) := of_payload rfl id

theorem setParameter (link : LinkId) (payload : List Byte) :
    Statement (.setParameter link payload) := of_payload rfl id

theorem readParameter (link : LinkId) (payload : List Byte) :
    Statement (.readParameter link payload) := of_payload rfl id

theorem purgeCleared (link : LinkId) (payload : List Byte) :
    Statement (.purgeCleared link payload) := of_payload rfl id

theorem readUnseen (link : LinkId) (payload : List Byte) :
    Statement (.readUnseen link payload) := of_payload rfl id

theorem readWarnings (link : LinkId) (payload : List Byte) :
    Statement (.readWarnings link payload) := of_payload rfl id

theorem ackWarning (link : LinkId) (payload : List Byte) :
    Statement (.ackWarning link payload) := of_payload rfl id

theorem ackGroup (link : LinkId) (payload : List Byte) :
    Statement (.ackGroup link payload) := of_payload rfl id

theorem setView (link : LinkId) (payload : List Byte) :
    Statement (.setView link payload) := of_payload rfl id

theorem readView (link : LinkId) (payload : List Byte) :
    Statement (.readView link payload) := of_payload rfl id

theorem startSitting (link : LinkId) (payload : List Byte) :
    Statement (.startSitting link payload) := of_payload rfl id

theorem setSchedule (link : LinkId) (payload : List Byte) :
    Statement (.setSchedule link payload) := of_payload rfl id

theorem recess (link : LinkId) (payload : List Byte) :
    Statement (.recess link payload) := of_payload rfl id

theorem resume (link : LinkId) (payload : List Byte) :
    Statement (.resume link payload) := of_payload rfl id

theorem endSitting (link : LinkId) (payload : List Byte) :
    Statement (.endSitting link payload) := of_payload rfl id

theorem grantFloor (link : LinkId) (payload : List Byte) :
    Statement (.grantFloor link payload) := of_payload rfl id

theorem withdrawFloor (link : LinkId) (payload : List Byte) :
    Statement (.withdrawFloor link payload) := of_payload rfl id

theorem withdrawAll (link : LinkId) (payload : List Byte) :
    Statement (.withdrawAll link payload) := of_payload rfl id

theorem readFloor (link : LinkId) (payload : List Byte) :
    Statement (.readFloor link payload) := of_payload rfl id

theorem profileSave (link : LinkId) (payload : List Byte) (protect : Bool) :
    Statement (.profileSave link payload protect) := of_payload rfl id

theorem profileLoad (link : LinkId) (payload : List Byte) :
    Statement (.profileLoad link payload) := of_payload rfl id

theorem profileCompare (link : LinkId) (payload : List Byte) :
    Statement (.profileCompare link payload) := of_payload rfl id

theorem readProfileStatus (link : LinkId) (payload : List Byte) (protect : Bool) :
    Statement (.readProfileStatus link payload protect) := of_payload rfl id

theorem saveComplete :
    Statement (.saveComplete) := of_none rfl

theorem loadComplete :
    Statement (.loadComplete) := of_none rfl

theorem compareComplete :
    Statement (.compareComplete) := of_none rfl

theorem storeFault (progress : Progress) :
    Statement (.storeFault progress) := of_none rfl

theorem linkReturnToMark (link : LinkId) :
    Statement (.linkReturnToMark link) := of_none rfl

end Sys2Proof.Laws.PayloadFits
end

