-- ==== Sys2Proof/Laws/SeatTable.lean ====
section
/-! SUPPORT. What the operations of the Seat Table, of the parameters and of the arbiter can do. -/

namespace Sys2Proof.Machine

/-! ## The pack binding map -/

theorem State.seatOfPack_eq_none (s : State) (pack : PackId) :
    s.seatOfPack pack = none ↔ ∀ n : Seat, (s.seat n).pack ≠ some pack := by
  simp [State.seatOfPack]

theorem State.pack_of_seatOfPack {s : State} {pack : PackId} {n : Seat} (h : s.seatOfPack pack = some n) :
    (s.seat n).pack = some pack := by
  simpa using List.find?_some h

/-- While the map binds no pack to two seats, `seatOfPack` reads it backwards (R9). -/
theorem State.seatOfPack_eq_some {s : State} (hb : s.bindingLaw) (pack : PackId) (n : Seat) :
    s.seatOfPack pack = some n ↔ (s.seat n).pack = some pack := by
  refine ⟨State.pack_of_seatOfPack, fun h => ?_⟩
  cases hm : s.seatOfPack pack with
  | none => exact absurd h ((State.seatOfPack_eq_none s pack).1 hm n)
  | some m =>
    have hp := State.pack_of_seatOfPack hm
    exact congrArg some (hb.1 m n (hp.trans h.symm) (by simp [hp]))

/-- The map is lawful while the packs it binds, in seat order, are valid and no pack stands twice. -/
theorem State.bindingLaw_of_packs {s : State}
    (hn : (allSeats.filterMap fun n => (s.seat n).pack).Nodup)
    (hv : (allSeats.filterMap fun n => (s.seat n).pack).all validPack = true) : s.bindingLaw := by
  have hp := List.pairwise_filterMap.1 hn
  have lt : ∀ n m : Seat, n < m → ∀ p, (s.seat n).pack = some p → (s.seat m).pack ≠ some p := by
    intro n m h p hn hm
    have := List.pairwise_iff_getElem.1 hp n.val m.val (by simp [allSeats]) (by simp [allSeats]) h
    simp only [allSeats, List.getElem_finRange, Fin.eta, Fin.cast_mk] at this
    exact this p hn p hm rfl
  refine ⟨fun n m h hne => ?_, fun n p hp => ?_⟩
  · obtain ⟨p, hn⟩ := Option.ne_none_iff_exists'.1 hne
    rcases Nat.lt_trichotomy n.val m.val with hlt | heq | hgt
    · exact absurd (h ▸ hn) (lt n m hlt p hn)
    · exact Fin.ext heq
    · exact absurd hn (lt m n hgt p (h ▸ hn))
  · exact List.all_eq_true.1 hv p (List.mem_filterMap.2 ⟨n, mem_allSeats n, hp⟩)

/-! ## Restart and release (R2, R3) -/

theorem SeatRecord.restart_eq (r : SeatRecord) : r.restart
    = { SeatRecord.reset with signal := .seeking, pack := r.pack, group := r.group } := rfl

theorem SeatRecord.release_eq (r : SeatRecord) : r.release = { SeatRecord.reset with group := r.group } := rfl

/-! ## Frames -/

/-- One seat's change: that record is replaced and handed over; besides, only what an evaluation may touch. -/
theorem State.changeSeat_spec (s : State) (n : Seat) (r : SeatRecord) :
    (s.putSeat n r).onlyMonitorAndList (s.changeSeat n r) := State.onlyMonitorAndList_evaluate ..

@[simp] theorem State.seat_changeSeat (s : State) (n m : Seat) (r : SeatRecord) :
    (s.changeSeat n r).seat m = if m = n then r else s.seat m := by
  rw [State.onlyMonitorAndList_seat (s.changeSeat_spec n r), State.seat_putSeat]

/-- Every seat's change at once. -/
theorem State.changeSeats_spec (s : State) (f : Seat → SeatRecord → SeatRecord) :
    (s.mapSeats f).onlyMonitorAndList (s.changeSeats f) := State.onlyMonitorAndList_evaluate ..

@[simp] theorem State.seat_changeSeats (s : State) (f : Seat → SeatRecord → SeatRecord) (n : Seat) :
    (s.changeSeats f).seat n = f n (s.seat n) := by
  rw [State.onlyMonitorAndList_seat (s.changeSeats_spec f), State.seat_mapSeats]

/-! ## Parameters -/

theorem Params.get_of_large (p : Params) {m : Nat} (h : 22 ≤ m) : p.get m = 0 := by
  obtain ⟨k, rfl⟩ := Nat.exists_eq_add_of_le' h
  rfl

/-- A parameter put reads back, and every other one reads as before. -/
theorem Params.get_put (p : Params) {n : Nat} (h : 1 ≤ n ∧ n ≤ 21) (v m : Nat) :
    (p.put n v).get m = if m = n then v else p.get m := by
  obtain ⟨hlo, hhi⟩ := h
  obtain hm | hm : m ≤ 21 ∨ 22 ≤ m := by omega
  · interval_cases n <;> interval_cases m <;> rfl
  · rw [Params.get_of_large _ hm, Params.get_of_large _ hm, if_neg (by omega)]

/-- A value taken into a range lies in it. -/
theorem clampTo_mem {lo hi : Nat} (h : lo ≤ hi) (n : Nat) : lo ≤ clampTo lo hi n ∧ clampTo lo hi n ≤ hi := by
  simp only [clampTo]
  omega

/-! ## The arbiter (R30) -/

/-- The arbiter's pick holds a report. -/
theorem State.fifo_of_nextPort {s : State} {p : Port} (h : s.nextPort = some p) : (s.port p).fifo ≠ [] := by
  have := List.find?_some h
  simpa using this

/-- There is no pick exactly while every FIFO is empty. -/
theorem State.nextPort_eq_none (s : State) : s.nextPort = none ↔ ∀ p : Port, (s.port p).fifo = [] := by
  have hp : ∀ last p : Port, p ∈ pickOrder last := by decide
  simp only [State.nextPort, List.find?_eq_none, Bool.not_eq_true', Bool.not_eq_false,
    List.isEmpty_iff]
  exact ⟨fun h p => by simpa using h p (hp _ p), fun h p _ => by simpa using h p⟩

end Sys2Proof.Machine
end

