-- ==== Sys2Proof/Tests/Slice0.lean ====
section
/-! SUPPORT. The model's own tests: ill-formed commands, the spec's worked figures, and for every statement with
hypotheses a concrete state and operands that meet them. -/

namespace Sys2Proof.Tests

open Sys2Proof Sys2Proof.Machine

set_option Elab.async false

/-! ## Ill-formed commands are refused -/

/-- A save has no page of 33 bytes (R151). -/
theorem test_illFormed_longPage :
    (Instr.storeFault ⟨3, List.replicate 33 0⟩).wellFormed = false := by decide

/-- No operation makes 605 transfers (R151, R152). -/
theorem test_illFormed_tooFar :
    (Instr.resetPin ⟨2, 3, 1, 3, false⟩ false ⟨605, []⟩).wellFormed = false := by decide

/-- DROPOUTS is no RESETTING kind (chapter 4, kind table). -/
theorem test_illFormed_expiryOfDropouts : (Instr.qualifierExpiry 5 .dropouts).wellFormed = false := by decide

/-- CODE 25h names a request, so a frame of it is no unknown request (10.5). -/
theorem test_illFormed_knownCode : (Instr.unknownRequest .a 0x25 []).wellFormed = false := by decide

/-- LEN 61 is no request (R135). -/
theorem test_illFormed_longPayload : (Instr.status .b (List.replicate 60 0)).wellFormed = false := by decide

theorem test_illFormed_longUnknown :
    (Instr.unknownRequest .b 0x26 (List.replicate 60 0)).wellFormed = false := by decide

/-- The longest request, LEN 60, and the first CODE above the requests are well formed. -/
theorem test_wellFormed_boundaries :
    (Instr.setCurve .b (List.replicate 59 0)).wellFormed = true
      ∧ (Instr.unknownRequest .b 0x26 []).wellFormed = true ∧ (Instr.qualifierExpiry 5 .signalWeak).wellFormed = true
      ∧ (Instr.storeFault ⟨604, List.replicate 32 0⟩).wellFormed = true := by decide

/-! ## Words of the table -/

/-- No row of the table gives bits, so no word spells a command and the queue stays as it is (log 21). -/
theorem test_noWordSpellsACommand :
    decodeTableWord 8 1 = none ∧ (State.reset.withFetchWord 8 1).pending = [] := by decide

/-! ## Small states -/

/-- The state after a command. -/
def done (i : Instr) (s : State) : State :=
  match exec i s with
  | .next t => t
  | .fault _ | .refused _ => State.reset

/-- A HEARD seat with an open microphone, and no estimator record (the table that begins 2.7). -/
def heardSeat (pack : PackId) : SeatRecord :=
  { SeatRecord.reset with
    pack := some pack, signal := .heard, seq := .opened 40 52 2, levelStore := some 200, mute := .opened
    rawMute := some .opened, voice := true }

/-- State.reset with seat 3 bound and SEEKING: a lawful SETUP state. -/
def setupState : State :=
  State.reset.putSeat 3 { SeatRecord.reset with pack := some 0x3A0001, signal := .seeking }

/-- The same in RECESS. -/
def recessState : State := { setupState with sitting := .recess }

/-- A sitting with two seats on the floor and three records in the list: seat 0 speaks into a muted microphone on
the floor, seat 1 is LOST with its record unacknowledged, seat 2 has an open microphone off the floor with its
record acknowledged, seat 3 is open on the floor, and seat 4 has a cleared DROPOUTS record. -/
def chamber : State :=
  let seated := (((((State.reset.putSeat 0 { heardSeat 0x3A0001 with mute := .muted, rawMute := some .muted }).putSeat
    1 { SeatRecord.reset with pack := some 0x3A0002, signal := .lost, silence := 20, seq := .closed 7 }).putSeat
    2 (heardSeat 0x3A0003)).putSeat 3 (heardSeat 0x3A0004)).putSeat
    4 { heardSeat 0x3A0005 with mute := .muted, rawMute := some .muted })
  let quiet := SeatMonitor.quiet .defaults
  let judged := ((seated.putMonitor 0
      { quiet with state := { quiet.state with mutedSpeech := .qualifying }, mutedPv := 5 }).putMonitor
    1 { quiet with state := { quiet.state with signalLost := .qualified }, held := some false }).putMonitor
    2 { quiet with state := { quiet.state with openNoFloor := .qualified }, openPv := 1200 }
  { judged with
    sitting := .sitting, clock := 100, floor := [⟨0, 50⟩, ⟨3, 60⟩], pending := [.minuteTick]
    records := [
      newRecord .defaults 90 1 .signalLost none none,
      { newRecord .defaults 80 2 .openNoFloor none (some 300) with
        state := .activeAcked, escalation := none, ackedBy := ⟨true, false, false⟩ },
      { newRecord .defaults 70 4 .dropouts none (some 9) with state := .clearedUnacked, escalation := none }] }

/-! ## The worked figures of chapter 2 -/

/-- 2.7: copies of transmission 41 at ports 5 and 2, last served port 3. -/
def twoCopies : State :=
  let copy (p : Port) (level : Nat) : Report := ⟨p, 0x3A07C2, 41, level, 0, .opened, true⟩
  let s := { State.reset.putSeat 37 (heardSeat 0x3A07C2) with lastServed := 3 }
  (s.putPort 5 { s.port 5 with fifo := [copy 5 61] }).putPort 2 { s.port 2 with fifo := [copy 2 55] }

/-- The RP5 copy is taken first: A = 202, sequence 41 open at 61 from receiver 5. -/
theorem test_pick_takesPortFive :
    (done .intakePick twoCopies).lastServed = 5
      ∧ ((done .intakePick twoCopies).seat 37).levelStore = some 202
      ∧ ((done .intakePick twoCopies).seat 37).seq = .opened 41 61 5 := by decide +kernel

/-- The RP2 copy is then an ECHO below 61, and the seat is unchanged. -/
theorem test_pick_echoBelowLeavesTheSeat :
    (done .intakePick (done .intakePick twoCopies)).lastServed = 2
      ∧ (done .intakePick (done .intakePick twoCopies)).seat 37 = (done .intakePick twoCopies).seat 37 := by
  decide +kernel

/-- 2.7: transmission 44 against 42 open at 58 with A = 213: one missed, A = 218; the copy of 42 then is LATE. -/
theorem test_report_gapAndLateCopy :
    let seat := { heardSeat 0x3A07C2 with seq := .opened 42 58 2, levelStore := some 213 }
    let r44 := seat.report defaultCurve 20 ⟨5, 0x3A07C2, 44, 60, 0, .opened, true⟩
    r44.levelStore = some 218 ∧ r44.dropouts = 1 ∧ r44.seq = .opened 44 60 5
      ∧ r44.report defaultCurve 20 ⟨2, 0x3A07C2, 42, 58, 0, .opened, true⟩ = r44 := by decide

/-- 2.8: returning from LOST with current sequence 130 CLOSED. -/
theorem test_report_returningFromSilence :
    let q := SeqState.closed 130
    q.classify 150 = .taken 19 ∧ q.classify 4 = .resync ∧ q.classify 0 = .taken 125
      ∧ q.classify 120 = .late ∧ q.classify 130 = .echo := by decide

/-- R23: −65 dBm is level 55 and −59 dBm is level 61; below −120 dBm the level is 0, above −20 dBm it is 100. -/
theorem test_levelOf :
    levelOf 0xBF = 55 ∧ levelOf 0xC5 = 61 ∧ levelOf 0x80 = 0 ∧ levelOf 0x88 = 0 ∧ levelOf 0xEC = 100
      ∧ levelOf 0x00 = 100 := by decide

/-- 10.1: a report frame, character by character, joins its port's FIFO. -/
theorem test_portCharacter_goodFrame :
    let frame : List Byte := [0x5A, 0x09, 0x01, 0x3A, 0x07, 0xC2, 0x29, 0xBF, 0x09, 0xA6, 0x02, 0x5A]
    ((frame.foldl (fun s ch => done (.portCharacter 2 ch false) s) State.reset).port 2).fifo
      = [⟨2, 0x3A07C2, 41, 55, 2470, .opened, true⟩] := by decide +kernel

/-! ## The worked figures of chapter 3 -/

/-- 3.8: the default curve. -/
theorem test_curvePercent_default :
    [1500, 2000, 2090, 2180, 2299, 2300, 2317, 2430, 2465, 2470, 2540, 2648, 2699, 2700, 3900].map
        (curvePercent defaultCurve)
      = [0, 0, 2, 5, 14, 15, 18, 46, 58, 60, 80, 95, 99, 100, 100] := by decide

/-- 3.8: a curve listing 2440 mV twice is not valid, one with equal percents is. -/
theorem test_curveValid :
    curveValid (defaultCurve.set 5 ⟨2440, 70⟩) = false ∧ curveValid (defaultCurve.set 6 ⟨2580, 70⟩) = true := by
  decide

/-- 3.9: the first reading, 2470 mV, and the next, 2430 mV. -/
theorem test_reading_firstAndFold :
    let first := EstRecord.restarted.reading defaultCurve 20 2470
    first = ⟨some 19760, some 60, 0, some 60, 0, none, none⟩
      ∧ (first.reading defaultCurve 20 2430).store = some 19720
      ∧ (first.reading defaultCurve 20 2430).percent = some 58 := by decide

/-- 3.10: a fresh battery: one high reading is folded, the second restarts the record. -/
theorem test_reading_batteryChange :
    let e : EstRecord := ⟨some 18160, some 12, 0, some 15, 8, some 3, some 80⟩
    let once := e.reading defaultCurve 20 2650
    once = ⟨some 18540, some 18, 1, some 15, 8, some 3, some 120⟩
      ∧ once.reading defaultCurve 20 2648 = ⟨some 21184, some 95, 0, some 95, 0, none, none⟩ := by decide

/-- 3.9: the twentieth minute tick completes the window with D = 4 and R = 280. -/
theorem test_minuteTick_completesTheWindow :
    (⟨some 19400, some 56, 0, some 60, 19, none, none⟩ : EstRecord).ageOnce 20
      = ⟨some 19400, some 56, 0, some 56, 0, some 4, some 280⟩ := by decide

/-- 3.11: minutes remaining at its limits. -/
theorem test_minutesLeft :
    minutesLeft 60 none 20 = none ∧ minutesLeft 40 (some 6) 20 = some 133 ∧ minutesLeft 7 (some 9) 20 = some 15
      ∧ minutesLeft 0 (some 5) 20 = some 0 ∧ minutesLeft 0 (some 0) 20 = some 600
      ∧ minutesLeft 100 (some 1) 60 = some 600 := by decide

/-- 3.9: against 140 and 130 minutes required with a hysteresis of 10. -/
theorem test_shortfallJudgement :
    shortfallJudgement 140 10 (some 133) = some true ∧ shortfallJudgement 130 10 (some 133) = none
      ∧ shortfallJudgement 123 10 (some 133) = some false ∧ shortfallJudgement 140 10 none = some false := by decide

/-! ## The worked figures of chapters 4 and 5 -/

/-- 4.8: six quarter ticks leave 6 of 12, a pause returns to QUIET and 12. -/
theorem test_resetting_mutedSpeech :
    ((fun v : QState × Nat => let o := resettingTick 12 true false v.1 v.2; (o.1, o.2.1))^[6]
        (QState.qualifying, 12)) = (.qualifying, 6)
      ∧ resettingEvent 12 false true .qualifying 6 = (.quiet, 12, none)
      ∧ resettingTick 12 true false .qualifying 1 = (.qualified, 0, some .qualified) := by decide

/-- 4.9: the 40th quarter tick qualifies; reopened at 46 it qualifies at once. -/
theorem test_accumulating_openNoFloor :
    accumulatingTick 40 true .qualifying 39 = (.qualified, 40, some .qualified)
      ∧ accumulatingEvent 40 false .qualified 46 = (.quiet, some .cleared)
      ∧ accumulatingEvent 40 true .quiet 46 = (.qualified, some .qualified) := by decide

/-- 4.10: at the limit the qualifier qualifies with its mark set; a window end with the mark set keeps it, the
next clears it. -/
theorem test_dropouts_window :
    let s := { chamber with records := [] }.putSeat 3 { heardSeat 0x3A0004 with dropouts := 9 }
    let judged := s.judgeDropouts 3 (s.monitor 3)
    judged.1.state.dropouts = .qualified ∧ judged.1.windowMark = true ∧ judged.2 = some .qualified
      ∧ judged.1.endWindow.state.dropouts = .qualified ∧ judged.1.endWindow.endWindow.state.dropouts = .quiet := by
  decide +kernel

/-- 5.8: MUTED_SPEECH is raised at CAUTION for PRESIDING with 60 s, and expires into URGENT, wide, 30 s. -/
theorem test_escalation_mutedSpeech :
    let r := newRecord .defaults 4200 61 .mutedSpeech none none
    r.severity = .caution ∧ r.roles = ⟨true, false⟩ ∧ r.escalation = some 60
      ∧ (r.escalate .defaults 4260).severity = .urgent ∧ (r.escalate .defaults 4260).roles = .wide
      ∧ (r.escalate .defaults 4260).escalations = 1 ∧ (r.escalate .defaults 4260).escalation = some 30 := by decide

/-- A list of 48 records of other seats. -/
def fullList : State :=
  { setupState with
    sitting := .sitting
    records := (List.range 48).map fun i => newRecord .defaults 10 (Fin.ofNat 128 (60 + i)) .dropouts none (some 9) }

/-- 5.9: with the list full, three qualified outcomes wait as due marks; the freed place goes to the lowest seat. -/
theorem test_fullList_defersAndAdmits :
    let outcome (n : Seat) (k : Kind) : HandedOutcome := ⟨n, k, .qualified, none, none⟩
    let s := (fullList.applyOutcome (outcome 20 .signalLost)).applyOutcome (outcome 5 .dropouts)
    let t := (s.removeRecord 90 .dropouts).fillFreed
    s.overflow = true ∧ (s.link .c).notice = true ∧ t.records.length = 48
      ∧ (t.records.getLast?.map fun r => (r.seat, r.kind)) = some (5, .dropouts) ∧ t.isDue 20 .signalLost = true := by
  decide +kernel

/-! ## Frames and references of chapters 8 to 10 -/

/-- A5h 01h 01h FEh is STATUS, answered on an idle link; 10.2 and 10.5 give the reply. -/
theorem test_linkCharacter_statusFrame :
    let frame : List Byte := [0xA5, 0x01, 0x01, 0xFE]
    ((frame.foldl (fun s ch => done (.linkCharacter .a ch false false) s) State.reset).link .a).reply
      = some [0xA5, 0x0F, 0x81, 0x00, 0x02, 0, 0, 0, 0, 0, 0, 0, 0, 0, 0, 0, 0, 0x6E] := by decide +kernel

/-- 8.7: a request behind a reply is held, the next is discarded with OVERRUN, and the held one is taken at the
reply's end. -/
theorem test_hold_sendingAhead :
    let s := done (.clearLinkFlags .b [8]) (done (.status .b []) (done (.ackWarning .b [12, 6])
      (done (.readUnseen .b []) State.reset)))
    (s.link .b).hold = some ⟨0x14, [12, 6]⟩ ∧ (s.link .b).flags = ⟨false, false, false, true⟩
      ∧ ((done (.replyEnd .b false) s).link .b).hold = none
      ∧ ((done (.replyEnd .b false) s).link .b).reply = some (replyFrame 0x14 .notFound []) := by decide +kernel

/-- An unbound seat reads as R157 gives: pack 000000h, sequence FFFFh, and FFh for the absent bytes. -/
theorem test_seatBytes_noPack :
    seatBytes 5 SeatRecord.reset false
      = [5, 0, 0, 0, 0, 0, 0, 0xFF, 0xFF, 0xFF, 0xFF, 0xFF, 0xFF, 0, 0, 0, 0, 0xFF, 0xFF, 0xFF, 0xFF, 0xFF, 0xFF] := by
  decide

/-- R77: BATTERY_LOW_PCT at 8 takes BATTERY_CRIT_PCT down to 7, and FADE_TIME 40 takes LOST_TIME up to 41. -/
theorem test_parameterPairs :
    ((Params.defaults.write 1 8).get 1, (Params.defaults.write 1 8).get 2) = (8, 7)
      ∧ ((Params.defaults.write 15 99).get 15, (Params.defaults.write 15 99).get 16) = (40, 41)
      ∧ (Params.defaults.write 9 65535).get 9 = 3600 := by decide

/-- R150, 10.6: the first and last bytes of an image's header and its length. -/
theorem test_snapshot_header :
    (State.reset.snapshot 2).take 8 = [0x56, 0x24, 0x01, 0x02, 0x02, 0x5C, 0x00, 0x14]
      ∧ (State.reset.snapshot 2).length = 604 := by decide +kernel

/-- R151: a save is twenty writes, the first with a zero identifier and the last the identifier. -/
theorem test_savePages :
    let pages := savePages (State.reset.snapshot 0)
    pages.length = 20 ∧ pages.head?.map (fun p => (p.1, p.2.take 3)) = some (0, [0, 0, 1])
      ∧ pages.getLast? = some (0, [0x56, 0x24]) ∧ (pages.map fun p => p.2.length).sum = 606 := by decide +kernel

/-! ## Lawful states

The witnesses below meet the hypotheses of the statements; `witness_X` belongs to `Obligations.X`. -/

theorem setupState_lawful : setupState.lawful where
  params := by decide +kernel
  time := by decide +kernel
  intake := by decide +kernel
  curve := by decide +kernel
  seats := by decide +kernel
  binding := State.bindingLaw_of_packs (by decide +kernel) (by decide +kernel)
  strays := by decide +kernel
  strayRanges := by decide +kernel
  floor := by decide +kernel
  list := by decide +kernel
  due := by decide +kernel
  setup := by decide +kernel
  qualified := by decide +kernel
  unbound := by decide +kernel
  monitor := by decide +kernel
  condition := by decide +kernel
  openValues := by decide +kernel
  records := by decide +kernel
  links := by decide +kernel
  profile := by decide +kernel
  store := by decide +kernel

theorem recessState_lawful : recessState.lawful :=
  { setupState_lawful with
    floor := by decide +kernel
    setup := by decide +kernel
    condition := by decide +kernel
    openValues := by decide +kernel
    profile := by decide +kernel }

theorem chamber_lawful : chamber.lawful where
  params := by decide +kernel
  time := by decide +kernel
  intake := by decide +kernel
  curve := by decide +kernel
  seats := by decide +kernel
  binding := State.bindingLaw_of_packs (by decide +kernel) (by decide +kernel)
  strays := by decide +kernel
  strayRanges := by decide +kernel
  floor := by decide +kernel
  list := by decide +kernel
  due := by decide +kernel
  setup := by decide +kernel
  qualified := by decide +kernel
  unbound := by decide +kernel
  monitor := by decide +kernel
  condition := by decide +kernel
  openValues := by decide +kernel
  records := by decide +kernel
  links := by decide +kernel
  profile := by decide +kernel
  store := by decide +kernel

/-- The chamber's state changed where the list, the records and the qualifiers do not look. -/
theorem chamber_lists : chamber.listLaw ∧ chamber.setupLaw ∧ chamber.bindingLaw :=
  ⟨chamber_lawful.list, chamber_lawful.setup, chamber_lawful.binding⟩

/-- The chamber with more to judge: seat 1 waits on a held BATTERY condition, seat 3 has a low battery and a weak
signal that wait and 8 missed transmissions, and seat 4 a BATTERY warning at 9 percent and 7 missed transmissions.
All set values are new.  Seats 3, 4 and 0 are on the floor, seat 3 with an OPEN_NO_FLOOR present value at the limit
and seat 4 with a MUTED_SPEECH warning. -/
def monitored : State :=
  let quiet := SeatMonitor.quiet .defaults
  let seated := (chamber.putSeat 3 { heardSeat 0x3A0004 with
      levelStore := some 99, dropouts := 8, est := ⟨some 18616, some 20, 0, some 20, 0, none, none⟩ }).putSeat
    4 { heardSeat 0x3A0005 with
      mute := .muted, rawMute := some .muted, dropouts := 7
      est := ⟨some 17824, some 9, 0, some 9, 0, none, none⟩ }
  let judged := ((seated.putMonitor
    1 { chamber.monitor 1 with
      state := { (chamber.monitor 1).state with battery := .qualifying }, held := some true }).putMonitor
    3 { quiet with
      state := { quiet.state with battery := .qualifying, signalWeak := .qualifying }
      batteryPv := 1, weakPv := 16, openPv := 1200 }).putMonitor
    4 { quiet with
      state := { quiet.state with battery := .qualified, mutedSpeech := .qualified }
      batteryPv := 0, mutedPv := 0, grade := some .low }
  { judged with
    params := { judged.params with floorLimit := 3 }, floor := [⟨3, 40⟩, ⟨4, 50⟩, ⟨0, 55⟩]
    records := judged.records ++
      [newRecord .defaults 95 4 .battery (some .low) (some 9), newRecord .defaults 96 4 .mutedSpeech none none]
    setChanged := ⟨true, true, true⟩ }

theorem monitored_lawful : monitored.lawful where
  params := by decide +kernel
  time := by decide +kernel
  intake := by decide +kernel
  curve := by decide +kernel
  seats := by decide +kernel
  binding := State.bindingLaw_of_packs (by decide +kernel) (by decide +kernel)
  strays := by decide +kernel
  strayRanges := by decide +kernel
  floor := by decide +kernel
  list := by decide +kernel
  due := by decide +kernel
  setup := by decide +kernel
  qualified := by decide +kernel
  unbound := by decide +kernel
  monitor := by decide +kernel
  condition := by decide +kernel
  openValues := by decide +kernel
  records := by decide +kernel
  links := by decide +kernel
  profile := by decide +kernel
  store := by decide +kernel

/-- A report of seat 4's pack waits at port 5. -/
def reported (s : State) (voltage : Nat) (k : Byte := 41) : State :=
  s.putPort 5 ⟨true, .hunt, [⟨5, 0x3A0005, k, 61, voltage, .muted, true⟩], .clear⟩

theorem reported_lawful {s : State} (h : s.lawful) {voltage : Nat} {k : Byte}
    (hi : (reported s voltage k).intakeLaw) : (reported s voltage k).lawful := { h with intake := hi }

/-! ## Witnesses: queue, reset, intake -/

theorem witness_StepRunsTheFrontCommand : State.reset.pending = [] := by decide

theorem witness_ResetPinSamplesTheStraps : State.reset.profile.op ≠ .saving := by decide

/-- A save into slot 3. -/
def savingState : State :=
  { setupState with profile := ⟨4, .saving, .save, some 3, .none, List.replicate 604 0x5A⟩ }

theorem witness_ResetDuringSaveLeavesTheSlot :
    savingState.store.wf = true ∧ savingState.profile.op = .saving ∧ savingState.profile.lastSlot = some 3
      ∧ savingState.profile.buffer.length = 604
      ∧ (⟨0, [1]⟩ : Progress).taken = 0 ∧ (3071 < 1024 * 3 ∧ 1024 * 3 + 32 ≤ 3104)
      ∧ (1 ≤ (⟨1, []⟩ : Progress).taken ∧ (⟨19, []⟩ : Progress).taken ≤ 19) ∧ 20 ≤ (⟨20, []⟩ : Progress).taken
      ∧ (603 < 604 ∧ 1024 * 3 + 604 ≤ 3676) := by decide +kernel

theorem witness_PortCharacterMovesAssembly :
    (State.reset.port 0).assembly = .hunt
      ∧ ((State.reset.putPort 0 ⟨true, .length, [], .clear⟩).port 0).assembly = .length
      ∧ ((State.reset.putPort 0 ⟨true, .body (List.replicate 8 0), [], .clear⟩).port 0).assembly
          = .body (List.replicate 8 0) ∧ (List.replicate 8 (0 : Byte)).length < 9
      ∧ ((State.reset.putPort 7 ⟨false, .body (List.replicate 9 0), [], .clear⟩).port 7).started = false
      ∧ ((State.reset.putPort 7 ⟨false, .body (List.replicate 9 0), [], .clear⟩).port 7).assembly
          = .body (List.replicate 9 0) ∧ (List.replicate 9 (0 : Byte)).length = 9 := by decide +kernel

theorem witness_CompleteFrameIsJudged :
    let s := State.reset.putPort 2 ⟨true, .body [0x01, 0x3A, 0x07, 0xC2, 0x29, 0xBF, 0x09, 0xA6, 0x02], [], .clear⟩
    (s.port 2).started = true
      ∧ (s.port 2).assembly = .body [0x01, 0x3A, 0x07, 0xC2, 0x29, 0xBF, 0x09, 0xA6, 0x02] := by decide +kernel

/-- A report of an unbound pack waits at port 3, the last port in the order from 4. -/
def strayWaits : State :=
  { State.reset.putPort 3 ⟨true, .hunt, [⟨3, 0x3A0009, 1, 40, 0, .opened, false⟩], .clear⟩ with lastServed := 3 }

theorem witness_PickServesPortsInTurnAndNotesStrays :
    (∀ p : Port, (State.reset.port p).fifo = [])
      ∧ (strayWaits.port 3).fifo = [⟨3, 0x3A0009, 1, 40, 0, .opened, false⟩]
      ∧ (∀ q : Port, pickDistance strayWaits.lastServed q < pickDistance strayWaits.lastServed 3 →
          (strayWaits.port q).fifo = [])
      ∧ ∀ n : Seat, (strayWaits.seat n).pack ≠ some 0x3A0009 := by decide +kernel

/-- A report with a sequence waits for a seat in a sequence state. -/
def reportWaits (seq : SeqState) (k : Byte) : State :=
  let s := State.reset.putSeat 127 { heardSeat 0x3A07C2 with seq := seq }
  s.putPort 5 ⟨true, .hunt, [⟨5, 0x3A07C2, k, 61, 2470, .opened, true⟩], .clear⟩

/-- The premises that the clauses of BoundReportIsProcessed share. -/
theorem witness_BoundReportIsProcessed_shared :
    (reportWaits (.opened 40 52 2) 40).nextPort = some 5
      ∧ ((reportWaits (.opened 40 52 2) 40).port 5).fifo = [⟨5, 0x3A07C2, 40, 61, 2470, .opened, true⟩]
      ∧ (reportWaits (.opened 40 52 2) 40).seatOfPack 0x3A07C2 = some 127
      ∧ ((reportWaits (.opened 40 52 2) 40).seat 127).seq.current = some 40
      ∧ ((reportWaits (.opened 40 52 2) 40).seat 127).seq = .opened 40 52 2
      ∧ (reportWaits (.closed 40) 40).nextPort = some 5
      ∧ ((reportWaits (.closed 40) 40).port 5).fifo = [⟨5, 0x3A07C2, 40, 61, 2470, .opened, true⟩]
      ∧ (reportWaits (.closed 40) 40).seatOfPack 0x3A07C2 = some 127
      ∧ ((reportWaits (.closed 40) 40).seat 127).seq = .closed 40 := by decide +kernel

/-- A step of 240 is LATE; steps of 1 and 239, and any report against no current sequence, are taken. -/
theorem witness_BoundReportIsProcessed_steps :
    (reportWaits (.closed 40) 24).nextPort = some 5 ∧ (reportWaits (.closed 40) 24).seatOfPack 0x3A07C2 = some 127
      ∧ 240 ≤ ((24 : Byte) - 40).toNat
      ∧ (((41 : Byte) - 40).toNat ≠ 0 ∧ ((41 : Byte) - 40).toNat < 240)
      ∧ (((23 : Byte) - 40).toNat ≠ 0 ∧ ((23 : Byte) - 40).toNat < 240)
      ∧ (reportWaits (.closed 40) 41).nextPort = some 5 ∧ (reportWaits (.closed 40) 23).nextPort = some 5
      ∧ (reportWaits .absent 0).nextPort = some 5 ∧ (reportWaits .absent 0).seatOfPack 0x3A07C2 = some 127
      ∧ ((reportWaits .absent 0).seat 127).seq.current = none := by decide +kernel

/-- 2100 mV takes seat 4's percent from 9 to 7, below the critical 8, and raises the grade; 4095 mV takes it above
25, and the warning clears. -/
theorem witness_BoundReportIsProcessed_monitor :
    (∀ v ∈ [2100, 4095],
      let s := reported monitored v
      s.nextPort = some 5 ∧ (s.port 5).fifo = [⟨5, 0x3A0005, 41, 61, v, .muted, true⟩]
        ∧ s.seatOfPack 0x3A0005 = some 4 ∧ (s.seat 4).seq.current = some 40
        ∧ (((41 : Byte) - 40).toNat ≠ 0 ∧ ((41 : Byte) - 40).toNat < 240) ∧ s.sitting ≠ .setup)
      ∧ ((monitored.monitor 4).state.battery = .qualified ∧ (monitored.monitor 4).grade = some .low
        ∧ ((done .intakePick (reported monitored 2100)).monitor 4).grade = some .critical
        ∧ ((reported monitored 2100).record 4 .battery).isSome = true)
      ∧ ((done .intakePick (reported monitored 4095)).monitor 4).state.battery = .quiet := by decide +kernel

/-- The same in a lawful sitting and in a lawful SETUP. -/
theorem witness_BoundReportIsProcessed_lawful :
    (reported monitored 2100).lawful ∧ (reported monitored 4095).lawful
      ∧ (reported setupState 2100).lawful ∧ (reported setupState 2100).sitting = .setup :=
  ⟨reported_lawful monitored_lawful (by decide +kernel), reported_lawful monitored_lawful (by decide +kernel),
    reported_lawful setupState_lawful (by decide +kernel), by decide +kernel⟩

/-- Sequence 42 after 40 brings seat 4's count from 7 to the DROPOUT_LIMIT of 8. -/
theorem witness_BoundReportIsProcessed_dropouts :
    (reported monitored 0 42).lawful ∧ (reported monitored 0 42).seatOfPack 0x3A0005 = some 4
      ∧ (((42 : Byte) - 40).toNat ≠ 0 ∧ ((42 : Byte) - 40).toNat < 240)
      ∧ ((done .intakePick (reported monitored 0 42)).seat 4).dropouts = 8 ∧ (monitored.seat 4).dropouts = 7
      ∧ monitored.params.dropoutLimit = 8 ∧ (monitored.monitor 4).state.dropouts = .quiet
      ∧ ((done .intakePick (reported monitored 0 42)).monitor 4).state.dropouts = .qualified :=
  ⟨reported_lawful monitored_lawful (by decide +kernel), by decide +kernel⟩

theorem witness_PortRequests :
    State.reset.ready .b ∧ (State.reset.link .b).role = .technical ∧ (1 : Byte) ≠ 0 ∧ (255 : Byte) ≠ 0
      ∧ State.reset.ready .c ∧ (7 : Byte).toNat = (7 : Port).val ∧ (0 : Byte).toNat = (0 : Port).val := by
  decide +kernel

/-! ## Witnesses: estimation and the Seat Table -/

theorem witness_CurveFunctionFollowsTheBreakpoints :
    curveValid defaultCurve = true ∧ 2000 ≤ defaultCurve[0].mv ∧ defaultCurve[7].mv ≤ 2700
      ∧ (defaultCurve[6].mv ≤ 2580 ∧ 2699 < defaultCurve[7].mv) ∧ (defaultCurve[0].mv ≤ 2000) := by decide

/-- p = 60: 2500 mV has raw percent 70, ten above it, and 2499 mV has 69. -/
theorem witness_ReadingStartsRestartsOrFolds :
    EstRecord.restarted.store = none
      ∧ (⟨some 19760, some 60, 1, some 60, 0, none, none⟩ : EstRecord).percent = some 60
      ∧ (60 + 10 ≤ curvePercent defaultCurve 2500 ∧ 1 ≤ 1)
      ∧ ¬(60 + 10 ≤ curvePercent defaultCurve 2499 ∧ 1 ≤ 1)
      ∧ ¬(60 + 10 ≤ curvePercent defaultCurve 2500 ∧ 1 ≤ 0) := by decide

theorem witness_ConstantReadingSettles : EstRecord.restarted.lawful defaultCurve 20 = true
    ∧ (⟨some 19760, some 60, 1, some 60, 0, none, none⟩ : EstRecord).lawful defaultCurve 20 = true := by decide

theorem witness_SetCurveReplacesAndRestarts :
    setupState.ready .b ∧ (setupState.link .b).role = .technical ∧ setupState.loading = false
      ∧ setupState.sitting = .setup
      ∧ ((∀ b ∈ defaultCurve.toList, b.mv < 65536 ∧ b.percent < 256) ∧ curveValid defaultCurve = true)
      ∧ ((∀ b ∈ (defaultCurve.set 7 ⟨65535, 255⟩).toList, b.mv < 65536 ∧ b.percent < 256)
        ∧ curveValid (defaultCurve.set 7 ⟨65535, 255⟩) = false) := by decide +kernel

/-- A seat with an estimator record, in a sitting. -/
def drainingSeat (age : Nat) (minutes : Option Nat) : State :=
  { chamber with pending := [] }.putSeat 3 { heardSeat 0x3A0004 with
    est := ⟨some 19400, some 56, 0, some 60, age, minutes.map fun _ => 4, minutes⟩ }

theorem witness_MinuteTickAgesRecords :
    ((drainingSeat 19 none).seat 3).signal ≠ .lost ∧ ((drainingSeat 19 none).seat 3).est.percent ≠ none
      ∧ (drainingSeat 19 none).params.estimatorWindow ≤ ((drainingSeat 19 none).seat 3).est.age + 1 := by
  decide +kernel

/-- The minute tick leaves seat 3 of such a state its minutes. -/
theorem drainingSeat_minutes (m : Option Nat) :
    ((done .minuteTick (drainingSeat 0 m)).seat 3).est.minutes = m := by
  have h : (done .minuteTick (drainingSeat 0 m)).seat 3
      = ((drainingSeat 0 m).mapSeats fun _ r => r.ageMinute 20).seat 3 :=
    State.onlyMonitorAndList_seat (State.onlyMonitorAndList_evaluate ..) 3
  rw [h, State.seat_mapSeats, drainingSeat, State.seat_putSeat, if_pos rfl]
  rfl

/-- With 30 minutes required and a hysteresis of 10: 29 is short, 40 is sufficient, 30 and 39 keep. -/
theorem witness_ShortfallIsJudged :
    (∀ m ∈ [some 29, some 30, some 39, some 40, none],
      (drainingSeat 0 m).sitting ≠ .setup ∧ (drainingSeat 0 m).bound 3 = true)
      ∧ ((drainingSeat 0 none).scheduled - (drainingSeat 0 none).clock / 60) + (drainingSeat 0 none).params.reserveMin
          = 30
      ∧ (drainingSeat 0 none).params.shortfallHystMin = 10
      ∧ chamber.ready .a ∧ (chamber.link .a).role = .presiding ∧ chamber.sitting ≠ .setup ∧ chamber.bound 4 = true := by
  decide +kernel

/-- R56, R59: R = 29 is below the requirement of 30, and neither the entry to FADING nor the quarter tick that
brings it judges; the next minute tick does. -/
theorem test_fading_judgesNoShortfall :
    let s := drainingSeat 0 (some 29)
    let fading := done (.quarterTick .seatTableFirst) (s.putSeat 3 { s.seat 3 with silence := 3 })
    (fading.seat 3).signal = .fading ∧ (fading.monitor 3).state.batteryShortfall = .quiet
      ∧ ((done .minuteTick fading).monitor 3).state.batteryShortfall = .qualified := by decide +kernel

theorem witness_SeatTableReadsReport :
    setupState.ready .c ∧ (127 : Byte).toNat = (127 : Seat).val ∧ 128 ≤ (128 : Byte).toNat
      ∧ (127 < (128 : Byte).toNat ∨ (1 : Byte) = 0) ∧ (127 < (0 : Byte).toNat ∨ (0 : Byte) = 0)
      ∧ ((127 : Byte).toNat ≤ 127 ∧ (1 : Byte) ≠ 0) ∧ ((0 : Byte).toNat ≤ 127 ∧ (9 : Byte) ≠ 0) := by
  decide +kernel

theorem witness_SetGroupWritesTheRange :
    setupState.ready .b ∧ (setupState.link .b).role = .technical ∧ setupState.loading = false
      ∧ 127 < (128 : Byte).toNat ∧ 15 < (16 : Byte).toNat ∧ (4 : Byte).toNat < (5 : Byte).toNat
      ∧ ((127 : Byte).toNat ≤ 127 ∧ (15 : Byte).toNat ≤ 15 ∧ (127 : Byte).toNat ≤ (255 : Byte).toNat) := by
  decide +kernel

/-- A free pack to seat 127 with the move flag clear; seat 3's pack to seat 127 with it set. -/
theorem witness_BindPackThreeWays_carriedOut :
    setupState.lawful ∧ setupState.ready .b ∧ (setupState.link .b).role = .technical ∧ setupState.loading = false
      ∧ (127 : Byte).toNat = (127 : Seat).val
      ∧ (packOf 0xFF 0xFF 0xFE ≠ 0 ∧ packOf 0xFF 0xFF 0xFE ≠ 0xFFFFFF)
      ∧ (setupState.seat 127).pack ≠ some (packOf 0xFF 0xFF 0xFE)
      ∧ ((0 : Byte) = 0 → ∀ m : Seat, (setupState.seat m).pack ≠ some (packOf 0xFF 0xFF 0xFE))
      ∧ (packOf 0x3A 0x00 0x01 ≠ 0 ∧ packOf 0x3A 0x00 0x01 ≠ 0xFFFFFF)
      ∧ (setupState.seat 127).pack ≠ some (packOf 0x3A 0x00 0x01)
      ∧ ((1 : Byte) = 0 → ∀ m : Seat, (setupState.seat m).pack ≠ some (packOf 0x3A 0x00 0x01)) :=
  ⟨setupState_lawful, by decide +kernel⟩

theorem witness_BindPackThreeWays_turnedAway :
    setupState.bindingLaw ∧ setupState.ready .b ∧ (setupState.link .b).role = .technical
      ∧ setupState.loading = false ∧ (3 : Byte).toNat = (3 : Seat).val ∧ (0 : Byte).toNat = (0 : Seat).val
      ∧ packOf 0 0 0 = 0 ∧ packOf 0xFF 0xFF 0xFF = 0xFFFFFF
      ∧ ((3 : Seat) ≠ 0 ∧ (setupState.seat 3).pack = some (packOf 0x3A 0x00 0x01)) :=
  ⟨setupState_lawful.binding, by decide +kernel⟩

theorem witness_UnbindSeatReleases :
    chamber.lawful ∧ chamber.ready .b ∧ (chamber.link .b).role = .technical ∧ chamber.loading = false
      ∧ (127 : Byte).toNat = (127 : Seat).val ∧ (chamber.seat 127).pack = none
      ∧ (1 : Byte).toNat = (1 : Seat).val ∧ (chamber.seat 1).pack = some 0x3A0002 :=
  ⟨chamber_lawful, by decide +kernel⟩

theorem witness_RestartSeatsRestartsTheBound :
    setupState.setupLaw ∧ setupState.ready .b ∧ (setupState.link .b).role = .technical
      ∧ setupState.loading = false ∧ setupState.sitting = .setup ∧ setupState.bound 3 = true :=
  ⟨setupState_lawful.setup, by decide +kernel⟩

/-- FADE_TIME 4 is reached from a silence of 3, LOST_TIME 20 from 19. -/
theorem witness_QuarterTickAdvancesSeats :
    (let s := setupState.putSeat 3 { heardSeat 0x3A0001 with silence := 3 }
     (s.seat 3).signal = .heard ∧ s.params.fadeTime ≤ min 255 ((s.seat 3).silence + 1))
      ∧ (let s := setupState.putSeat 3 { heardSeat 0x3A0001 with signal := .fading, silence := 19 }
         (s.seat 3).signal = .fading ∧ s.params.lostTime ≤ min 255 ((s.seat 3).silence + 1)) := by
  decide +kernel

/-- The monitor's half of the tick: a held BATTERY condition, a last quarter tick, waiting qualifiers, an open
microphone, and dropout counts at the limit and below it. -/
theorem witness_QuarterTickAdvancesSeats_monitor :
    let s := monitored
    (∀ n ∈ ([0, 1, 2, 3, 4] : List Seat), s.bound n = true) ∧ s.sitting = .sitting
      ∧ s.setChanged = ⟨true, true, true⟩ ∧ (s.monitor 4).state.battery ≠ .qualifying
      ∧ ((s.monitor 1).state.battery = .qualifying ∧ (s.seat 1).signal = .lost ∧ (s.monitor 1).held = some true)
      ∧ ((s.monitor 3).state.battery = .qualifying ∧ (s.seat 3).est.percent.any (· ≤ s.params.batteryLowPct) = true)
      ∧ ((s.monitor 3).state.signalWeak = .qualifying ∧ (tickedSeat s.params (s.seat 3)).signal = .heard
        ∧ ((tickedSeat s.params (s.seat 3)).levelStore.map (· / 4)).any (· < s.params.weakLevel) = true)
      ∧ ((s.monitor 0).state.mutedSpeech = .qualifying ∧ (tickedSeat s.params (s.seat 0)).signal ≠ .lost)
      ∧ ((s.seat 2).mute = .opened ∧ s.onFloor 2 = false ∧ s.onFloor 3 = true)
      ∧ s.params.dropoutLimit ≤ (s.seat 3).dropouts ∧ (s.seat 4).dropouts < s.params.dropoutLimit := by
  decide +kernel

theorem witness_QuarterTickAdvancesSeats_answers :
    monitored.lawful ∧ ∃ t, exec (.quarterTick .monitorFirst) monitored = .next t := ⟨monitored_lawful, _, rfl⟩

/-- At one instant a second tick may come before its quarter tick and a minute tick before its second tick (R56,
R119); no second tick follows the second quarter tick before the third. -/
theorem test_timing_orders :
    (Timing.between 3).afterAll [.secondTick .cwe, .quarterTick .monitorFirst] = some (.between 4)
      ∧ (Timing.between 239).afterAll [.minuteTick, .secondTick .cwe, .quarterTick .monitorFirst]
          = some (.between 240)
      ∧ wellTimed (.between 1) [.quarterTick .monitorFirst, .secondTick .cwe] = false := by decide

/-- The first second from reset, the second tick taken before the fourth quarter tick; and a window that ends in a
sitting, with a record that is no DROPOUTS one. -/
theorem witness_SecondTickMovesTheClocks :
    let q := Instr.quarterTick .monitorFirst
    ((Timing.between 0).afterAll [q, q, q, .secondTick .cwe, q] = some (.between 4)
        ∧ ∃ t, State.reset.runs [q, q, q, .secondTick .cwe, q] t)
      ∧ (State.reset.quarterPhase = 0 % 4 ∧ State.reset.minutePhase = 0 / 4 % 60
        ∧ State.reset.deviceSeconds = min 4294967295 (0 / 4))
      ∧ (chamber.params.dropoutWindow ≤ { chamber with windowElapsed := 59 }.windowElapsed + 1
        ∧ chamber.sitting ≠ .setup ∧ chamber.records.any (fun r => r.kind == .signalLost) = true) :=
  ⟨⟨by decide, _, _, rfl, _, rfl, _, rfl, _, rfl, _, rfl, rfl⟩, by decide +kernel⟩

/-! ## Witnesses: the Condition Monitor and the parameters -/

theorem witness_DropoutWindowEndSettles :
    { chamber with windowElapsed := 59 }.params.dropoutWindow ≤ { chamber with windowElapsed := 59 }.windowElapsed + 1
      := by decide +kernel

/-- BATTERY at its last quarter tick, at the LOW boundary, at the CRIT boundary, and LOST with the condition held. -/
def batteryWaits (p : Nat) (signal : Signal) (held : Option Bool) : State :=
  let m := SeatMonitor.quiet .defaults
  (chamber.putSeat 4 { heardSeat 0x3A0005 with
      signal := signal, est := ⟨some 18000, some p, 0, some p, 0, none, none⟩ }).putMonitor 4
    { m with state := { m.state with battery := .qualifying }, batteryPv := 1, held := held }

theorem witness_WaitedConditionsQualify_battery :
    ∀ w ∈ [(20, Signal.heard, none), (8, Signal.heard, none), (9, Signal.lost, some true), (9, Signal.lost, none)],
      let s := batteryWaits w.1 w.2.1 w.2.2
      s.bound 4 = true ∧ s.sitting ≠ .setup ∧ (s.monitor 4).state.battery = .qualifying
        ∧ min (s.monitor 4).batteryPv s.params.batteryQualify ≤ 1 ∧ (s.seat 4).est.percent = some w.1
        ∧ (if (s.seat 4).signal = .lost then (s.monitor 4).held ≠ some false else w.1 ≤ s.params.batteryLowPct) := by
  decide +kernel

theorem witness_WaitedConditionsQualify_mutedSpeech :
    let s := chamber.putMonitor 0 { chamber.monitor 0 with mutedPv := 1 }
    s.bound 0 = true ∧ s.sitting = .sitting ∧ (s.monitor 0).state.mutedSpeech = .qualifying
      ∧ min (s.monitor 0).mutedPv s.params.mutedSpeechQualify ≤ 1 ∧ s.onFloor 0 = true ∧ (s.seat 0).mute = .muted
      ∧ (s.seat 0).voice = true := by decide +kernel

theorem witness_WaitedConditionsQualify_signalWeak :
    let m := SeatMonitor.quiet .defaults
    let s := (chamber.putSeat 4 { heardSeat 0x3A0005 with signal := .fading, levelStore := some 99 }).putMonitor 4
      { m with state := { m.state with signalWeak := .qualifying }, weakPv := 1 }
    s.bound 4 = true ∧ s.sitting ≠ .setup ∧ (s.monitor 4).state.signalWeak = .qualifying
      ∧ min (s.monitor 4).weakPv s.params.weakQualify ≤ 1 ∧ (s.seat 4).levelStore = some 99
      ∧ 99 / 4 < s.params.weakLevel ∧ ((s.seat 4).signal = .heard ∨ (s.seat 4).signal = .fading) := by
  decide +kernel

theorem witness_WaitedConditionsQualify_openNoFloor :
    let m := SeatMonitor.quiet .defaults
    let s := chamber.putMonitor 2 { m with state := { m.state with openNoFloor := .qualifying }, openPv := 1199 }
    s.bound 2 = true ∧ s.sitting = .sitting ∧ (s.seat 2).mute = .opened ∧ s.onFloor 2 = false
      ∧ (s.monitor 2).state.openNoFloor ≠ .qualified
      ∧ 4 * s.params.openNoFloorLimit ≤ min 65535 ((s.monitor 2).openPv + 1) := by decide +kernel

/-- Parameters 1 and 21 in a sitting, 5, 15 and 16 in SETUP, and the numbers with effects. -/
theorem witness_SetParameterWritesAndTakesEffect :
    (chamber.ready .b ∧ (chamber.link .b).role = .technical ∧ chamber.loading = false)
      ∧ (∀ number ∈ ([1, 2, 13, 17, 18, 19, 20, 21] : List Byte), 1 ≤ number.toNat ∧ number.toNat ≤ 21
          ∧ ¬(number.toNat = 5 ∨ number.toNat = 15 ∨ number.toNat = 16))
      ∧ (setupState.ready .b ∧ (setupState.link .b).role = .technical ∧ setupState.loading = false
          ∧ setupState.sitting = .setup)
      ∧ (∀ number ∈ ([5, 15, 16] : List Byte), 1 ≤ number.toNat ∧ number.toNat ≤ 21)
      ∧ (20 : Byte).toNat = 20 ∧ (18 : Byte).toNat = 17 + Severity.caution.code := by decide +kernel

/-- FLOOR_LIMIT from 3 to 1: seats 3 and 4 leave the floor, seat 0 stays. -/
theorem witness_SetParameterWritesAndTakesEffect_floor :
    monitored.lawful ∧ monitored.ready .b ∧ (monitored.link .b).role = .technical ∧ monitored.loading = false
      ∧ (let t := done (.setParameter .b [20, 0, 1]) monitored
         t.params.floorLimit = 1
          ∧ (monitored.floor.take (monitored.floor.length - t.params.floorLimit)).map FloorEntry.seat = [3, 4]
          ∧ (monitored.seat 3).mute = .opened
          ∧ 4 * monitored.params.openNoFloorLimit ≤ (monitored.monitor 3).openPv
          ∧ (t.monitor 3).state.openNoFloor = .qualified
          ∧ (monitored.monitor 4).state.mutedSpeech = .qualified) := ⟨monitored_lawful, by decide +kernel⟩

theorem witness_SetParameterWritesAndTakesEffect_answers :
    ∃ t, exec (.setParameter .b [1, 0, 99]) chamber = .next t := ⟨_, rfl⟩

/-- A load in flight, and a start-up load. -/
def loadingState (last : LastOp) : State :=
  { setupState with profile := ⟨4, .loading, last, some 0, .none, []⟩ }

theorem witness_ConfigurationReadsReport :
    chamber.ready .c ∧ (1 ≤ (1 : Byte).toNat ∧ (21 : Byte).toNat ≤ 21) ∧ 21 < (22 : Byte).toNat
      ∧ (((loadingState .startUpLoad).link .c).hears = true ∧ ((loadingState .startUpLoad).link .c).reply = none) := by
  decide +kernel

/-! ## Witnesses: the Warning List and the contexts -/

/-- A record acknowledged and still active: OPEN_NO_FLOOR, and a kind that is not. -/
theorem witness_OutcomesWriteRecords_acked :
    (chamber.record 2 .openNoFloor).any (fun r => r.state == .activeAcked) = true
      ∧ (({ chamber with records := chamber.records.map (Record.acked 100 .b) } : State).record 1 .signalLost).any
          (fun (r : Record) => r.state == .activeAcked) = true := by decide +kernel

theorem witness_OutcomesWriteRecords :
    ∃ dropped lost : Record, chamber.record 4 .dropouts = some dropped ∧ dropped.state = .clearedUnacked
      ∧ chamber.record 1 .signalLost = some lost ∧ lost.state = .activeUnacked ∧ lost.state ≠ .clearedUnacked := by
  refine ⟨_, _, rfl, ?_, rfl, ?_⟩ <;> decide +kernel

/-- A full list with two acknowledged records of seats 60 and 61, and (20, SIGNAL_LOST) waiting. -/
def ackedPair : State :=
  ({ fullList with records := fullList.records.map fun (r : Record) =>
      if r.seat = 60 ∨ r.seat = 61 then r.acked 10 .b else r } : State).setDue 20 .signalLost

/-- A cleared outcome of a DROPOUTS record. -/
def dropoutsCleared (n : Seat) : HandedOutcome := ⟨n, .dropouts, .cleared, none, none⟩

theorem witness_OutcomesWriteRecords_several :
    ackedPair.listLaw ∧ [dropoutsCleared 60, dropoutsCleared 61] ≠ []
      ∧ [dropoutsCleared 60, dropoutsCleared 61].Pairwise (fun a b => a.seat ≠ b.seat ∨ a.kind ≠ b.kind)
      ∧ (∀ o ∈ [dropoutsCleared 60, dropoutsCleared 61], ackedPair.clearsAcked o)
      ∧ ackedPair.record 5 .dropouts = none := by decide +kernel

/-- R88: an event that removes two records admits after both, so that a raise handed between them takes the place
the first left, ahead of the mark that waits. -/
theorem test_severalRemovals_admitAfterTheLast :
    let raised : HandedOutcome := ⟨5, .dropouts, .qualified, none, some 9⟩
    let t := ackedPair.applyOutcomes [dropoutsCleared 60, raised, dropoutsCleared 61]
    (t.records.drop 46).map (fun r => (r.seat, r.kind)) = [(5, .dropouts), (20, .signalLost)]
      ∧ t.overflow = false ∧ (t.records.any fun r => r.seat == 60 || r.seat == 61) = false := by decide +kernel

/-- A full list in which (3, SIGNAL_WEAK) and (9, SIGNAL_WEAK) are acknowledged and about to clear, seat 5 has its
eighth dropout not yet judged, and (20, SIGNAL_LOST) waits. -/
def clearingPair : State :=
  let strong (n : Seat) (s : State) : State :=
    (s.putSeat n { heardSeat (BitVec.ofNat 24 (0x3A0100 + n.val)) with mute := .muted, voice := false }).putMonitor n
      { SeatMonitor.quiet .defaults with state := { (SeatMonitor.quiet .defaults).state with signalWeak := .qualified } }
  let s := strong 9 (strong 3 fullList)
  let s := s.putSeat 5 { heardSeat 0x3A0200 with mute := .muted, voice := false, dropouts := 8 }
  let weak (n : Seat) : Record := { newRecord .defaults 10 n .signalWeak none none with state := .activeAcked }
  ({ s with records := weak 3 :: weak 9 :: s.records.drop 2 } : State).setDue 20 .signalLost

/-- R59, R88: the monitor's part of a quarter tick is one event in a mixed order of the blocks too, so that the raise
of seat 5 takes the place that seat 3 left, and the mark that waits the place of seat 9. -/
theorem test_quarterTick_admitsAfterTheLastRemoval :
    let t := done (.quarterTick (.seatBySeat 0x55)) clearingPair
    (t.records.drop 46).map (fun r => (r.seat, r.kind)) = [(5, .dropouts), (20, .signalLost)]
      ∧ t.overflow = false := by decide +kernel

/-- A full list under REPLACE_OLDEST: seat 3, the oldest on the floor, has an ACTIVE_ACKED MUTED_SPEECH record, and
(2, OPEN_NO_FLOOR) waits. -/
def replacing : State :=
  let seated := (fullList.putSeat 3 { heardSeat 0x3A0003 with mute := .muted, rawMute := some .muted }).putSeat 2
    (heardSeat 0x3A0004)
  let quiet := SeatMonitor.quiet .defaults
  let judged := (seated.putMonitor 3 { quiet with
      state := { quiet.state with mutedSpeech := .qualified }, mutedPv := 0 }).putMonitor
    2 { quiet with state := { quiet.state with openNoFloor := .qualified }, openPv := 1200 }
  let acked : Record := { newRecord .defaults 10 3 .mutedSpeech none none with state := .activeAcked }
  ({ judged with
    params := { judged.params with floorPolicy := 1, floorLimit := 1 }, floor := [⟨3, 0⟩]
    records := acked :: judged.records.drop 1 } : State).setDue 2 .openNoFloor

/-- R130 case 5, each whole: the withdrawal's removal admits the mark of seat 2, and the grant then clears the record, with
the seconds it had. -/
theorem test_grant_replacesEachWhole :
    let t := done (.grantFloor .a [2]) replacing
    t.floor.map FloorEntry.seat = [2] ∧ t.overflow = false ∧ t.records.length = 48
      ∧ (t.records.getLast?.map fun r => (r.seat, r.kind, r.state, r.detail))
          = some (2, .openNoFloor, .clearedUnacked, some 300)
      ∧ (t.monitor 2).openPv = 0 := by decide +kernel

/-- A full list: no record for (5, DROPOUTS), and a due mark that waits once one place is free. -/
theorem witness_DueMarksWaitAndAreAdmitted :
    fullList.record 5 .dropouts = none ∧ 48 ≤ fullList.records.length
      ∧ (fullList.applyOutcome ⟨5, .dropouts, .qualified, none, none⟩).isDue 5 .dropouts = true := by
  decide +kernel

/-- One record at the last second of its timer. -/
def expiring (sev : Severity) (roles : AckRoles) : State :=
  { chamber with records := [
      { newRecord .defaults 90 1 .signalLost none none with severity := sev, roles := roles, escalation := some 1 }] }

theorem witness_EscalationExpiryEscalates :
    ∀ w ∈ [(Severity.advisory, (⟨false, true⟩ : AckRoles)), (.caution, ⟨true, true⟩), (.urgent, ⟨false, true⟩),
        (.urgent, ⟨true, true⟩)],
      (expiring w.1 w.2).listLaw ∧ (expiring w.1 w.2).sitting ≠ .setup
        ∧ ((expiring w.1 w.2).record 1 .signalLost).any (fun r =>
            r.state == .activeUnacked && r.escalation == some 1 && r.severity == w.1 && r.roles == w.2) = true := by
  decide +kernel

theorem witness_PurgeClearedRemovesTheCleared :
    chamber.lawful ∧ chamber.ready .b ∧ (chamber.link .b).role = .technical
      ∧ (chamber.records.filter fun r => (chamber.link .b).view.sees r && r.state == .clearedUnacked).length = 1 :=
  ⟨chamber_lawful, by decide +kernel⟩

theorem witness_ListReadsMarkSeen :
    chamber.listLaw ∧ chamber.ready .c ∧ 47 < (48 : Byte).toNat ∧ (47 : Byte).toNat ≤ 47 := by decide +kernel

theorem witness_AckWarningAcknowledges_range :
    chamber.ready .a ∧ (chamber.link .a).role = .presiding ∧ 127 < (128 : Byte).toNat ∧ (0 : Byte) = 0
      ∧ 7 < (8 : Byte).toNat := by decide +kernel

theorem witness_AckWarningAcknowledges :
    chamber.lawful ∧ chamber.ready .a ∧ (chamber.link .a).role = .presiding
      ∧ chamber.ready .b ∧ (chamber.link .b).role = .technical
      ∧ (0 : Byte).toNat = (0 : Seat).val ∧ (1 : Byte).toNat = kindCode .battery ∧ (7 : Byte).toNat = kindCode .signalLost
      ∧ (∀ r ∈ chamber.records, r.seat = 0 → r.kind = .battery → (chamber.link .a).view.sees r = false)
      ∧ (∃ r ∈ chamber.records, r.seat = 1 ∧ r.kind = .signalLost ∧ (chamber.link .a).view.sees r = true
          ∧ r.roles.presiding = false)
      ∧ (∃ r ∈ chamber.records, r.seat = 1 ∧ r.kind = .signalLost ∧ (chamber.link .b).view.sees r = true
          ∧ r.roles.technical = true ∧ r.state = .activeUnacked)
      ∧ (∃ r ∈ chamber.records, r.seat = 2 ∧ r.kind = .openNoFloor ∧ (chamber.link .a).view.sees r = true
          ∧ r.roles.presiding = true ∧ r.state = .activeAcked)
      ∧ (∃ r ∈ chamber.records, r.seat = 4 ∧ r.kind = .dropouts ∧ (chamber.link .b).view.sees r = true
          ∧ r.roles.technical = true ∧ r.state = .clearedUnacked) :=
  ⟨chamber_lawful, by decide +kernel⟩

theorem witness_AckGroupAcknowledgesTheSelected :
    chamber.lawful ∧ chamber.ready .b ∧ (chamber.link .b).role = .technical ∧ 15 < (16 : Byte).toNat
      ∧ (15 : Byte).toNat ≤ 15 ∧ (0 : Byte).toNat ≤ 15 := ⟨chamber_lawful, by decide +kernel⟩

theorem witness_ViewsAreWrittenAndRead :
    chamber.ready .c ∧ 2 < (3 : Byte).toNat ∧ 1 < (2 : Byte).toNat ∧ (2 : Byte).toNat ≤ 2 ∧ (1 : Byte).toNat ≤ 1 := by
  decide +kernel

/-! ## Witnesses: sitting, floor, links -/

theorem witness_StartSittingEvaluatesTheChamber :
    setupState.lawful ∧ setupState.ready .a ∧ (setupState.link .a).role = .presiding ∧ setupState.loading = false
      ∧ setupState.sitting = .setup ∧ setupState.bound 3 = true := ⟨setupState_lawful, by decide +kernel⟩

theorem witness_RecessAndResume :
    (chamber.lawful ∧ chamber.ready .a ∧ (chamber.link .a).role = .presiding ∧ chamber.sitting = .sitting
      ∧ chamber.bound 2 = true)
      ∧ recessState.lawful ∧ recessState.ready .a ∧ (recessState.link .a).role = .presiding
      ∧ recessState.sitting = .recess :=
  ⟨⟨chamber_lawful, by decide +kernel⟩, recessState_lawful, by decide +kernel⟩

theorem witness_EndSittingEmptiesTheList :
    chamber.ready .a ∧ (chamber.link .a).role = .presiding ∧ chamber.ready .b ∧ (chamber.link .b).role = .technical
      ∧ chamber.sitting ≠ .setup := by decide +kernel

/-- Unbound, on the floor, a free place, refused, and the oldest replaced. -/
theorem witness_GrantFloorByCases :
    let full := { chamber with params := { chamber.params with floorPolicy := 1 } }
    let free := { chamber with floor := [⟨0, 50⟩] }
    (chamber.ready .a ∧ (chamber.link .a).role = .presiding ∧ chamber.sitting = .sitting)
      ∧ (chamber.bound 127 = false ∧ (127 : Byte).toNat = (127 : Seat).val)
      ∧ (chamber.bound 0 = true ∧ chamber.onFloor 0 = true)
      ∧ (free.ready .a ∧ free.bound 2 = true ∧ free.onFloor 2 = false ∧ free.floor.length < free.params.floorLimit)
      ∧ (chamber.bound 2 = true ∧ chamber.onFloor 2 = false ∧ chamber.params.floorLimit ≤ chamber.floor.length
          ∧ chamber.params.floorPolicy = 0)
      ∧ (full.ready .a ∧ full.bound 2 = true ∧ full.onFloor 2 = false ∧ full.params.floorLimit ≤ full.floor.length
          ∧ full.params.floorPolicy ≠ 0 ∧ full.floor = ⟨0, 50⟩ :: [⟨3, 60⟩]) := by decide +kernel

/-- The chamber under other floor parameters. -/
def granting (limit policy : Nat) : State :=
  { chamber with params := { chamber.params with floorLimit := limit, floorPolicy := policy } }

/-- A free place and a list that replaces its oldest, seat 2 with OPEN_NO_FLOOR QUALIFIED and seat 4 muted and
speaking, in lawful states. -/
theorem witness_GrantFloorByCases_lawful :
    (granting 3 0).lawful ∧ (granting 2 1).lawful ∧ (granting 3 0).ready .a ∧ (granting 2 1).ready .a
      ∧ (granting 3 0).floor.length < (granting 3 0).params.floorLimit
      ∧ (granting 2 1).params.floorLimit ≤ (granting 2 1).floor.length ∧ (granting 2 1).params.floorPolicy ≠ 0
      ∧ ((granting 3 0).monitor 2).state.openNoFloor = .qualified
      ∧ ((granting 2 1).seat 4).mute = .muted ∧ ((granting 2 1).seat 4).voice = true :=
  ⟨{ chamber_lawful with params := by decide +kernel, floor := by decide +kernel },
    { chamber_lawful with params := by decide +kernel, floor := by decide +kernel }, by decide +kernel⟩

/-- R67, R73: a grant to seat 4, muted and speaking, has MUTED_SPEECH wait MUTED_SPEECH_QUALIFY quarter ticks; and
R62, R68: a microphone that a report reopens off the floor with its present value at the limit is QUALIFIED at once. -/
theorem test_floorKinds_enter :
    let granted := (done (.grantFloor .a [4]) (granting 2 1)).monitor 4
    let waiting := (chamber.putMonitor 4 { chamber.monitor 4 with openPv := 1200 }).putSeat 4
      { chamber.seat 4 with rawMute := some .opened }
    let reopened := done .intakePick
      (waiting.putPort 5 ⟨true, .hunt, [⟨5, 0x3A0005, 41, 61, 0, .opened, true⟩], .clear⟩)
    granted.state.mutedSpeech = .qualifying ∧ granted.mutedPv = 12
      ∧ (reopened.monitor 4).state.openNoFloor = .qualified
      ∧ (reopened.record 4 .openNoFloor).map Record.detail = some (some 300) := by decide +kernel

theorem witness_WithdrawalsTakeTheFloor :
    chamber.lawful ∧ chamber.ready .a ∧ (chamber.link .a).role = .presiding ∧ chamber.sitting = .sitting
      ∧ ((2 : Byte).toNat = (2 : Seat).val ∧ chamber.onFloor 2 = false)
      ∧ ((3 : Byte).toNat = (3 : Seat).val ∧ chamber.onFloor 3 = true) := ⟨chamber_lawful, by decide +kernel⟩

/-- A link's assembly changed. -/
def assembling (a : LinkAssembly) : State := chamber.putLink .a { chamber.link .a with assembly := a }

theorem witness_LinkCharacterMovesAssembly :
    ((done (.linkBreak .a) chamber).link .a).hears = false
      ∧ (chamber.link .a).hears = true ∧ (chamber.link .a).assembly = .hunt
      ∧ ((assembling .length).link .a).hears = true ∧ ((assembling .length).link .a).assembly = .length
      ∧ ((assembling (.body 1 [])).link .a).assembly = .body 1 [] ∧ ([] : List Byte).length < 1
      ∧ ((assembling (.body 1 [0x01])).link .a).hears = true
      ∧ 1 ≤ ([0x01] : List Byte).length ∧ (1 + byteSum ([0x01] ++ [0xFF])) % 256 ≠ 0 := by decide +kernel

/-- A link with a reply on its line and a request held or not. -/
def answering (hold : Option HeldRequest) : State :=
  chamber.putLink .a { chamber.link .a with reply := some [0xA5], hold := hold }

theorem witness_GoodFrameIsTakenHeldOrDiscarded :
    (let s := assembling (.body 1 [0x01])
     (s.link .a).hears = true ∧ (s.link .a).assembly = .body (([] : List Byte).length + 1) (0x01 :: [])
      ∧ (([] : List Byte).length + 1 + (0x01 : Byte).toNat + byteSum [] + (0xFE : Byte).toNat) % 256 = 0
      ∧ asRequest (.status .a []) = some (.a, 0x01, [])
      ∧ asRequest (.profileSave .a [] true) = some (.a, 0x22, []))
      ∧ (∀ h ∈ [none, some (⟨0x12, []⟩ : HeldRequest)],
        ((answering h).link .a).hears = true ∧ ((answering h).link .a).reply ≠ none
          ∧ ((answering h).link .a).hold = h) := by decide +kernel

theorem witness_ReplyEndTakesTheHeldRequest :
    (chamber.link .a).reply = none
      ∧ (∀ h ∈ [none, some (⟨0x00, []⟩ : HeldRequest), some ⟨0x26, []⟩, some ⟨0x01, []⟩],
        ((answering h).link .a).reply ≠ none ∧ ((answering h).link .a).hold = h
          ∧ (answering h).startUpLoading = false ∧ ((answering h).link .a).enabled = true)
      ∧ ((0 : Byte) = 0 ∨ 37 < (0 : Byte).toNat) ∧ 37 < (38 : Byte).toNat
      ∧ (((answering (some ⟨0x22, [3]⟩)).link .a).hears = true
        ∧ ((answering (some ⟨0x22, [3]⟩)).link .a).assembly = .hunt
        ∧ asRequest (.profileSave .a [3] false) = some (.a, 0x22, [3])) := by decide +kernel

theorem witness_LinkBreakResetsTheContext :
    (chamber.link .a).enabled = true ∧ (chamber.link .a).inBreak = false
      ∧ ((done (.linkBreak .a) chamber).link .a).inBreak = true
      ∧ asRequest (.profileSave .a [0] true) = some (.a, 0x22, [0])
      ∧ ((done (.resetPin ⟨2, 3, 0, 3, false⟩ false ⟨0, []⟩) chamber).link .c).enabled = false := by decide +kernel

theorem witness_LinksAnswerTheirOwnRequests :
    (chamber.link .c).hears = true ∧ (chamber.link .c).reply = none ∧ chamber.startUpLoading = false
      ∧ (0 : Byte) = 0 ∧ 37 < (38 : Byte).toNat := by decide +kernel

theorem witness_RefusedRequestsChangeNothing_startUp :
    (loadingState .startUpLoad).startUpLoading = true ∧ ((loadingState .startUpLoad).link .a).hears = true
      ∧ ((loadingState .startUpLoad).link .a).reply = none
      ∧ asRequest (.unknownRequest .a 0 []) = some (.a, 0x00, []) ∧ (0x00 : Byte) ≠ 0x01 ∧ (0x00 : Byte) ≠ 0x25 := by
  decide +kernel

/-- The four checks in turn: role, an operation in flight, sitting state, and length and range at their ends. -/
theorem witness_RefusedRequestsChangeNothing_checks :
    (chamber.ready .b ∧ (chamber.link .b).role = .technical ∧ (setupState.link .b).role = .technical)
      ∧ (asRequest (.grantFloor .b [128]) = some (.b, 0x1E, [128]) ∧ roleAdmits 0x1E .technical = false)
      ∧ ((loadingState .load).ready .b ∧ roleAdmits 0x10 .technical = true ∧ (loadingState .load).busyFor 0x10 = true)
      ∧ (savingState.ready .b ∧ savingState.busyFor 0x24 = true ∧ savingState.busyFor 0x10 = false)
      ∧ (setupState.busyFor 0x1D = false ∧ sittingAdmits 0x1D setupState.sitting = false)
      ∧ (chamber.busyFor 0x03 = false ∧ sittingAdmits 0x03 chamber.sitting = true
        ∧ ([5, 0x3A, 0, 9] : List Byte).length < layoutLength 0x03 ∧ outsideRange 0x03 128 = true)
      ∧ (outsideRange 0x0B 0 = true ∧ outsideRange 0x0D 8 = true ∧ outsideRange 0x10 0 = true
        ∧ outsideRange 0x10 22 = true ∧ outsideRange 0x1F 128 = true ∧ outsideRange 0x1F 127 = false)
      ∧ (chamber.sitting ≠ .setup ∧ (16 : Byte).toNat = 16) := by decide +kernel

/-! ## Witnesses: the Profile Store and the laws -/

theorem witness_ProfileOperationsBegin :
    setupState.ready .b ∧ (setupState.link .b).role = .technical ∧ setupState.profile.op = .idle
      ∧ setupState.profile.slotCount ≤ (4 : Byte).toNat ∧ (3 : Byte).toNat < setupState.profile.slotCount
      ∧ setupState.sitting = .setup := by decide +kernel

theorem witness_ProfileOperationsEnd :
    (savingState.store.wf = true ∧ savingState.profile.lastSlot = some 3 ∧ savingState.profile.op = .saving
      ∧ savingState.profile.buffer.length = 604 ∧ (⟨1, []⟩ : Progress).taken = 1)
      ∧ ((loadingState .load).store.wf = true ∧ (loadingState .load).profile.op = .loading
        ∧ imageSound ((loadingState .load).store.readBytes (1024 * 0) 604) 0 = false)
      ∧ { savingState.profile with op := .comparing }.op = .comparing := by decide +kernel

/-- A load of slot 0, which holds the image of setupState. -/
def imageWaits : State :=
  { loadingState .load with store := Memory.writeBytes [] 0 (setupState.snapshot 0) }

theorem imageWaits_store_eq : imageWaits.store = Memory.writeBytes [] 0 (setupState.snapshot 0) := by
  simp only [imageWaits]

theorem imageWaits_store : imageWaits.store.wf = true := by
  rw [imageWaits_store_eq]
  exact Memory.wf_writeBytes 0 _ (by decide)

theorem imageWaits_read : imageWaits.store.readBytes (1024 * 0) 604 = setupState.snapshot 0 := by
  rw [imageWaits_store_eq, Nat.mul_zero]
  exact Memory.readBytes_writeBytes 0 _ (by decide) (by decide +kernel)

theorem imageWaits_lawful : imageWaits.lawful :=
  { setupState_lawful with profile := by decide +kernel, store := imageWaits_store }

theorem witness_LoadCompleteAppliesTheImage :
    imageWaits.lawful ∧ imageWaits.profile.op = .loading ∧ imageWaits.profile.lastSlot = some 0
      ∧ imageSound (imageWaits.store.readBytes (1024 * 0) 604) 0 = true
      ∧ imageFormed (imageWaits.store.readBytes (1024 * 0) 604) = true := by
  rw [imageWaits_read]
  exact ⟨imageWaits_lawful, rfl, rfl, by decide +kernel, by decide +kernel⟩

theorem witness_SnapshotDecodesToTheValuesSaved : setupState.lawful ∧ 3 < 4 := ⟨setupState_lawful, by decide⟩

theorem witness_StoreReadsWhatWasWritten : Memory.wf [(1024, 0x56), (1025, 0x24)] = true := by decide

/-- The laws' step from a lawful state of a sitting, with a minute tick at the front. -/
theorem witness_StepKeepsTheStateLawful : chamber.lawful ∧ ∃ t, step chamber = .next t := ⟨chamber_lawful, _, rfl⟩

theorem witness_StepKeepsValuesInRange :
    chamber.params.lawful ∧ chamber.timeLaw ∧ curveValid chamber.curve = true ∧ chamber.intakeLaw
      ∧ chamber.store.wf = true ∧ chamber.linkLaw ∧ chamber.profileLaw ∧ ∃ t, step chamber = .next t :=
  ⟨chamber_lawful.params, chamber_lawful.time, chamber_lawful.curve, chamber_lawful.intake, chamber_lawful.store,
    chamber_lawful.links, chamber_lawful.profile, _, rfl⟩

theorem witness_StepKeepsBindingsAndFloor :
    chamber.bindingLaw ∧ chamber.strayLaw ∧ chamber.params.lawful ∧ chamber.timeLaw ∧ chamber.floorLaw
      ∧ ∃ t, step chamber = .next t :=
  ⟨chamber_lawful.binding, chamber_lawful.strays, chamber_lawful.params, chamber_lawful.time, chamber_lawful.floor, _,
    rfl⟩

theorem witness_StepKeepsTheWarningList :
    chamber.listLaw ∧ chamber.dueLaw ∧ chamber.setupLaw ∧ chamber.qualifiedLaw ∧ ∃ t, step chamber = .next t :=
  ⟨chamber_lawful.list, chamber_lawful.due, chamber_lawful.setup, chamber_lawful.qualified, _, rfl⟩

theorem witness_CommandsKeepToTheirOwn :
    (∃ t, exec (.linkBreak .a) chamber = .next t) ∧ LinkId.b ≠ .a
      ∧ ∀ straps protect g, Instr.linkBreak .a ≠ .resetPin straps protect g :=
  ⟨⟨_, rfl⟩, by decide, fun _ _ _ => by simp⟩

/-- A break takes CL-C out of every seen-by and leaves the three records in the list, and a quarter tick leaves an
ACTIVE_ACKED one there. -/
theorem witness_SeverityNeverFalls :
    chamber.lawful ∧ (∃ t, exec (.linkBreak .c) chamber = .next t)
      ∧ (∃ t, exec (.quarterTick .monitorFirst) chamber = .next t)
      ∧ (∃ r ∈ chamber.records, ∃ r' ∈ (done (.quarterTick .monitorFirst) chamber).records,
          r'.seat = r.seat ∧ r'.kind = r.kind ∧ r.state = .activeAcked)
      ∧ (∃ r ∈ chamber.records, ∃ r' ∈ (done (.linkBreak .c) chamber).records, r'.seat = r.seat ∧ r'.kind = r.kind) :=
  ⟨chamber_lawful, ⟨_, rfl⟩, ⟨_, rfl⟩, by decide +kernel, by decide +kernel⟩

end Sys2Proof.Tests
end

section
/-! What the operations of the Warning List may touch besides the records: due marks, overflow notices, and the
OPEN_NO_FLOOR present value of a seat whose record leaves the list (R62, R74, R109). -/

namespace Sys2Proof.Machine

/-- The state of an OPEN_NO_FLOOR qualifier that starts again from 0 (R62, R74). -/
def State.openRestart (s : State) (n : Seat) : QState :=
  if s.sitting == .sitting && s.openNoFloorHolds n then .qualifying else .quiet

/-- A seat's qualifiers with OPEN_NO_FLOOR back at 0 and in state `q`. -/
def SeatMonitor.openReset (q : QState) (m : SeatMonitor) : SeatMonitor :=
  { m with openPv := 0, state := { m.state with openNoFloor := q } }

/-- What an operation of the Warning List may make of the part besides its records. -/
structure State.listWork (s t : State) : Prop where
  frame : s.onlyMonitorAndList t
  notices : ∀ x, (t.link x).notice = (s.link x).notice
    ∨ (t.link x).notice = ((s.link x).notice || (s.link x).enabled)
  monitors : ∀ n, t.monitor n = { s.monitor n with due := (t.monitor n).due }
    ∨ t.monitor n = { (s.monitor n).openReset (s.openRestart n) with due := (t.monitor n).due }

theorem State.listWork_refl (s : State) : s.listWork s := ⟨s.onlyMonitorAndList_refl, fun _ => .inl rfl, fun _ => .inl rfl⟩

theorem State.onlyMonitorAndList_enabled {s t : State} (h : s.onlyMonitorAndList t) (x : LinkId) :
    (t.link x).enabled = (s.link x).enabled := by rw [h.2 x]; rfl

theorem State.onlyMonitorAndList_openRestart {s t : State} (h : s.onlyMonitorAndList t) (n : Seat) :
    t.openRestart n = s.openRestart n := by rw [h.1]; rfl

theorem State.listWork_trans {s t u : State} (h : s.listWork t) (g : t.listWork u) : s.listWork u := by
  refine ⟨State.onlyMonitorAndList_trans h.frame g.frame, fun x => ?_, fun n => ?_⟩
  · have hg := g.notices x
    rw [State.onlyMonitorAndList_enabled h.frame] at hg
    rcases h.notices x with hx | hx <;> rw [hx] at hg <;> rcases hg with hg | hg <;> simp [hg]
  · have hg := g.monitors n
    rw [State.onlyMonitorAndList_openRestart h.frame] at hg
    rcases h.monitors n with hn | hn <;> rw [hn] at hg <;> rcases hg with hg | hg
    · exact .inl hg
    · exact .inr hg
    · exact .inr hg
    · exact .inr hg

/-! ## Each operation -/

theorem State.listWork_of_monitor {s t : State} (h : s.onlyMonitorAndList t) (hl : t.links = s.links)
    (hm : ∀ n, t.monitor n = { s.monitor n with due := (t.monitor n).due }) : s.listWork t :=
  ⟨h, fun x => .inl (by rw [State.link, hl]; rfl), fun n => .inl (hm n)⟩

theorem State.listWork_records (s : State) (rs : List Record) : s.listWork { s with records := rs } :=
  State.listWork_of_monitor ⟨rfl, fun _ => rfl⟩ rfl fun _ => rfl

theorem State.listWork_putDue (s : State) (n : Seat) (k : Kind) (d : Bool) : s.listWork (s.putDue n k d) := by
  refine State.listWork_of_monitor (s.onlyMonitorAndList_putMonitor ..) rfl fun m => ?_
  by_cases h : m = n
  · subst h
    simp [State.putDue]
  · simp [State.putDue, h]

theorem State.listWork_noticeOverflow (s : State) : s.listWork s.noticeOverflow :=
  ⟨s.onlyMonitorAndList_noticeOverflow, fun x => .inr (by simp), fun _ => .inl rfl⟩

theorem State.listWork_setDue (s : State) (n : Seat) (k : Kind) : s.listWork (s.setDue n k) := by
  simp only [State.setDue]
  split
  · exact s.listWork_putDue ..
  · exact State.listWork_trans (s.listWork_putDue ..) (State.listWork_noticeOverflow _)

theorem State.listWork_raise (s : State) (o : HandedOutcome) : s.listWork (s.raise o) := by
  simp only [State.raise]
  split
  · exact s.listWork_records _
  · exact s.listWork_setDue ..

theorem State.listWork_resetOpenPv (s : State) (n : Seat) : s.listWork (s.resetOpenPv n) := by
  refine ⟨s.onlyMonitorAndList_putMonitor .., fun _ => .inl rfl, fun m => ?_⟩
  by_cases h : m = n
  · subst h
    right
    simp [State.resetOpenPv, SeatMonitor.openReset, State.openRestart, PerKind.set]
  · left
    simp [State.resetOpenPv, h]

theorem State.listWork_removeRecord (s : State) (n : Seat) (k : Kind) : s.listWork (s.removeRecord n k) := by
  simp only [State.removeRecord]
  split
  · exact State.listWork_trans (s.listWork_records _) (State.listWork_resetOpenPv ..)
  · exact s.listWork_records _

theorem State.listWork_admitMark (s : State) (n : Seat) (k : Kind) : s.listWork (s.admitMark n k) :=
  State.listWork_trans (s.listWork_putDue n k false) (State.listWork_records ..)

theorem State.listWork_fillPlaces (places : Nat) (s : State) : s.listWork (s.fillPlaces places) := by
  induction places generalizing s with
  | zero => exact s.listWork_refl
  | succ places ih =>
    simp only [State.fillPlaces]
    split
    · exact s.listWork_refl
    · exact State.listWork_trans (s.listWork_admitMark ..) (ih _)

theorem State.listWork_fillFreed (s : State) : s.listWork s.fillFreed := State.listWork_fillPlaces _ s

theorem State.listWork_applyOutcome (s : State) (o : HandedOutcome) : s.listWork (s.applyOutcome o) := by
  simp only [State.applyOutcome]
  split
  · exact s.listWork_raise o
  · split
    · exact s.listWork_records _
    · exact s.listWork_refl
  · exact s.listWork_refl
  · split
    · exact s.listWork_refl
    · exact s.listWork_records _
  · exact s.listWork_refl
  · split
    · exact s.listWork_records _
    · exact s.listWork_removeRecord ..
    · exact s.listWork_refl

theorem State.listWork_applyHanded (freed : Bool) (s : State) (os : List HandedOutcome) :
    s.listWork (s.applyHanded freed os) := by
  induction os generalizing freed s with
  | nil => exact s.listWork_refl
  | cons o os ih =>
    have one := s.listWork_applyOutcome o
    simp only [State.applyHanded]
    split
    · split
      · exact State.listWork_trans one (ih ..)
      · exact State.listWork_trans one (State.listWork_trans (State.listWork_fillFreed _) (ih ..))
    · exact State.listWork_trans one (ih ..)

theorem State.listWork_applyOutcomes (s : State) (os : List HandedOutcome) : s.listWork (s.applyOutcomes os) :=
  s.listWork_applyHanded false os

theorem State.listWork_acknowledge (s : State) (x : LinkId) (r : Record) : s.listWork (s.acknowledge x r) := by
  simp only [State.acknowledge]
  split
  · exact s.listWork_records _
  · exact s.listWork_records _
  · exact s.listWork_removeRecord ..

theorem State.listWork_acknowledgeAll (s : State) (x : LinkId) (rs : List Record) :
    s.listWork (s.acknowledgeAll x rs) := by
  have fold : s.listWork (rs.foldl (fun t r => t.acknowledge x r) s) := by
    induction rs generalizing s with
    | nil => exact s.listWork_refl
    | cons r rs ih => exact State.listWork_trans (s.listWork_acknowledge x r) (ih _)
  simp only [State.acknowledgeAll]
  split
  · exact State.listWork_trans fold (State.listWork_fillFreed _)
  · exact fold

/-! ## What the whole keeps of one seat's qualifiers -/

section
variable {s t : State} (h : s.listWork t)
include h

/-- Besides the due marks the qualifiers of every kind but OPEN_NO_FLOOR stay. -/
theorem State.listWork_state {k : Kind} (hk : k ≠ .openNoFloor) (n : Seat) :
    (t.monitor n).state.get k = (s.monitor n).state.get k := by
  rcases h.monitors n with hn | hn <;> rw [hn]
  cases k <;> first | rfl | exact absurd rfl hk

theorem State.listWork_openNoFloor (n : Seat) :
    (t.monitor n).state.openNoFloor = (s.monitor n).state.openNoFloor
      ∨ (t.monitor n).state.openNoFloor = s.openRestart n ∧ (t.monitor n).openPv = 0 := by
  rcases h.monitors n with hn | hn <;> rw [hn]
  · exact .inl rfl
  · exact .inr ⟨rfl, rfl⟩

theorem State.listWork_openPv (n : Seat) :
    (t.monitor n).openPv = (s.monitor n).openPv ∨ (t.monitor n).openPv = 0 := by
  rcases h.monitors n with hn | hn <;> rw [hn]
  · exact .inl rfl
  · exact .inr rfl

end

end Sys2Proof.Machine
end

section
/-! What a command can do, said once: each command is a run of moves, and each move is one event of a block.  The
laws over every command are then one lemma per law over the moves. -/

namespace Sys2Proof.Machine

/-! ## The moves -/

/-- What carrying out a request may make of the state (chapters 1 to 9), with the checks that have passed. -/
inductive State.Requested (s : State) : State → Prop
  /-- Ports, links, the profile controller and the model's counter. -/
  | apart {t : State}
      (core : t = { s with ports := t.ports, links := t.links, profile := t.profile, freeCount := t.freeCount })
      (intake : s.intakeLaw → t.intakeLaw) (links : s.linkLaw → t.linkLaw) (profile : s.profileLaw → t.profileLaw)
      (lines : ∀ y, (t.link y).hears = (s.link y).hears ∧ (t.link y).enabled = (s.link y).enabled) :
      State.Requested s t
  | bound (n : Seat) (pack : PackId) (valid : validPack pack = true) (new : s.seatOfPack pack ≠ some n) :
      State.Requested s (s.bindSeat n pack (s.seatOfPack pack))
  | released (n : Seat) : State.Requested s (s.releaseSeat n)
  | grouped (f : Seat → SeatRecord → SeatRecord)
      (group : ∀ n r, f n r = r ∨ ∃ g, g ≤ 15 ∧ f n r = { r with group := g }) : State.Requested s (s.mapSeats f)
  | restarted (setup : s.sitting = .setup) : State.Requested s s.restartBound
  | curved (c : Vector Breakpoint 8) (valid : curveValid c = true) (setup : s.sitting = .setup) :
      State.Requested s ({ s with curve := c }).restartEstimators
  | written (number v : Nat) (range : 1 ≤ number ∧ number ≤ 21) : State.Requested s (s.writeParameter number v)
  | seen (x : LinkId) (picked : List Record) (enabled : (s.link x).enabled = true) :
      State.Requested s (s.markSeen x picked)
  | acked (x : LinkId) (picked : List Record) (held : picked.Sublist s.records)
      (enabled : (s.link x).enabled = true) : State.Requested s (s.acknowledgeAll x picked)
  | started (length : Nat) (range : length ≤ Config.scheduleMax) (setup : s.sitting = .setup)
      (idle : s.loading = false) : State.Requested s (s.startSitting length)
  | scheduled (length : Nat) (range : length ≤ Config.scheduleMax) : State.Requested s
      (({ s with scheduled := length }).evaluate false (everySeat (.only .batteryShortfall)))
  | recessed (sitting : s.sitting = .sitting) :
      State.Requested s ({ s with sitting := .recess, floor := [] }).recessMonitors
  | resumed (recess : s.sitting = .recess) :
      State.Requested s (({ s with sitting := .sitting }).evaluate false (everySeat floorKinds))
  | ended : State.Requested s ({ s with sitting := .setup, floor := [], records := [] }).endMonitors
  | granted (n : Seat) (sitting : s.sitting = .sitting) (bound : s.bound n = true) (off : s.onFloor n = false)
      (room : s.floor.length < s.params.floorLimit) : State.Requested s ((s.joinFloor n).granted n)
  | replaced (n : Seat) (oldest : FloorEntry) (rest : List FloorEntry) (sitting : s.sitting = .sitting)
      (bound : s.bound n = true) (off : s.onFloor n = false) (floor : s.floor = oldest :: rest) :
      State.Requested s ((({ s with floor := rest }).joinFloor n).replaced oldest.seat n)
  | withdrawn (n : Seat) (sitting : s.sitting = .sitting) :
      State.Requested s ((s.leaveFloor n).withdrawn (· == n))
  | cleared (sitting : s.sitting = .sitting) : State.Requested s (({ s with floor := [] }).withdrawn s.onFloor)

/-- What one event of the part may make of the state.  `whole` is what the command assumes of the links: under it a
move keeps them lawful. -/
inductive State.Moves (whole : Prop) (s : State) : State → Prop
  | requested {t : State} (h : s.Requested t) : State.Moves whole s t
  /-- Everything outside the seats, the qualifiers, the list, the floor, the clocks and the parameters. -/
  | outside {t : State}
      (core : t = { s with
        ports := t.ports, links := t.links, profile := t.profile, protect := t.protect, store := t.store
        pending := t.pending })
      (intake : s.intakeLaw → t.intakeLaw) (links : whole → s.linkLaw → t.linkLaw)
      (profile : s.profileLaw → t.profileLaw) (store : s.store.wf = true → t.store.wf = true)
      (enabled : ∀ y, (t.link y).enabled = (s.link y).enabled) : State.Moves whole s t
  | reset (straps : Straps) (protect : Bool) (g : Progress) : State.Moves whole s
      (.ofStraps straps protect (s.storeAtReset g) s.freeCount s.pending)
  | picked (p : Port) (rep : Report) (rest : List Report) (fifo : (s.port p).fifo = rep :: rest) :
      State.Moves whole s
        (({ s.putPort p { s.port p with fifo := rest } with lastServed := p }).processReport rep)
  | tookValues : State.Moves whole s s.takeSetValues
  | advanced (who : Seat → Bool) : State.Moves whole s (s.advanceSeats who)
  | counted (kinds : Seat → PerKind Bool) : State.Moves whole s (s.evaluate true kinds)
  | quarterPhase (q : Nat) (range : q < 4) : State.Moves whole s { s with quarterPhase := q }
  | clock : State.Moves whole s s.tickClock
  | window : State.Moves whole s s.tickWindow
  | timers : State.Moves whole s s.tickTimers
  | seconds : State.Moves whole s { s with
      deviceSeconds := bump Config.deviceSecondsMax s.deviceSeconds, minutePhase := (s.minutePhase + 1) % 60 }
  | escalated (n : Seat) (k : Kind) (r : Record) (record : s.record n k = some r) (runs : r.expiresNext = true) :
      State.Moves whole s (s.updateRecord n k (Record.escalate s.params s.clock))
  | aged (who : Seat → Bool) : State.Moves whole s (s.minuteSeats who)
  | unseen (x : LinkId) : State.Moves whole s { s with records := s.records.map (Record.unsee x) }
  | loaded (img : List Byte) (formed : imageFormed img = true) (loading : s.profile.op = .loading) :
      State.Moves whole s (s.applyImage img)

/-- A run of moves. -/
abbrev State.Runs (whole : Prop) : State → State → Prop := Relation.ReflTransGen (State.Moves whole)

/-! ## Links and their laws -/

theorem LinkState.lawful_of_hears {l : LinkState} (hv : l.view.lawful) (hd : l.default.lawful)
    (ha : l.assembly.lawful = true) (hh : l.hold ≠ none → l.reply ≠ none) (hears : l.hears = true) : l.lawful := by
  have he : l.enabled = true := by
    simp only [LinkState.hears, Bool.and_eq_true] at hears
    exact hears.1
  exact ⟨hv, hd, ha, hh, by simp [hears], by simp [he]⟩

theorem State.linkLaw_putLink {s : State} {x : LinkId} {l : LinkState} (h : (s.link x).lawful → l.lawful)
    (hs : s.linkLaw) : (s.putLink x l).linkLaw := by
  intro y _
  rw [State.link_putLink]
  split
  · exact h (hs x (mem_allLinks x))
  · exact hs y (mem_allLinks y)

theorem viewOf_lawful {base limit classes sitting recess mask : Byte} {v : View}
    (h : viewOf base limit classes sitting recess mask = some v) : v.lawful := by
  simp only [viewOf] at h
  split at h
  · split at h
    · cases h
    · cases h
      exact ⟨Nat.min_le_left .., Nat.min_le_left ..⟩
  · cases h

/-! ## Ports and their laws -/

theorem reportOf_lawful {p : Port} {hi mid lo : Byte} (h : validPack (packOf hi mid lo) = true)
    (seq level vhi vlo flags : Byte) : (reportOf p hi mid lo seq level vhi vlo flags).lawful := by
  refine ⟨h, ?_, Nat.min_le_left ..⟩
  simp only [reportOf, levelOf]
  omega

theorem PortState.flag_fifo (t : PortState) (f : LineFlags → LineFlags) :
    (t.flag f).fifo = t.fifo ∧ (t.flag f).started = t.started ∧ (t.flag f).assembly = t.assembly := by
  simp only [PortState.flag]
  split <;> simp

/-- A port stays lawful where its FIFO and its status stay and its assembly can still grow. -/
theorem PortState.lawful_of_fifo {t u : PortState} (h : t.lawful) (hf : u.fifo = t.fifo)
    (hs : u.started = t.started) (ha : u.assembly.lawful = true) : u.lawful := by
  obtain ⟨hlen, hin, hstop, -⟩ := h
  exact ⟨hf ▸ hlen, hf ▸ hin, by rw [hs, hf]; exact hstop, ha⟩

theorem PortState.judge_lawful (p : Port) {t : PortState} (h : t.lawful) (frame : List Byte) :
    (t.judge p frame).lawful := by
  have flagged : ∀ f : LineFlags → LineFlags, (t.flag f).lawful := fun f => by
    obtain ⟨hf, hs, ha⟩ := t.flag_fifo f
    exact PortState.lawful_of_fifo h hf hs (ha ▸ h.2.2.2)
  simp only [PortState.judge]
  split
  · exact h
  · rename_i started
    have started : t.started ≠ false := by simpa using started
    split
    · exact flagged _
    · split
      · split
        · exact flagged _
        · rename_i form
          split
          · exact flagged _
          · rename_i room
            obtain ⟨hlen, hin, hstop, ha⟩ := h
            simp only [not_or, Bool.not_eq_false] at form
            refine ⟨?_, ?_, fun hs => absurd hs started, ha⟩
            · simp only [List.length_append, List.length_singleton]
              omega
            · intro r hr
              rcases List.mem_append.1 hr with hr | hr
              · exact hin r hr
              · rw [List.mem_singleton.1 hr]
                exact reportOf_lawful form.2 ..
      · exact h

/-- A character leaves a port lawful (R21 to R25). -/
theorem PortState.receive_lawful (p : Port) {t : PortState} (h : t.lawful) (ch : Byte) (stop : Bool) :
    (t.receive p ch stop).lawful := by
  have flagged : ∀ f : LineFlags → LineFlags, { t.flag f with assembly := .hunt }.lawful := fun f =>
    PortState.lawful_of_fifo h (t.flag_fifo f).1 (t.flag_fifo f).2.1 rfl
  have assembled : ∀ a : PortAssembly, a.lawful = true → { t with assembly := a }.lawful := fun a ha =>
    PortState.lawful_of_fifo h rfl rfl ha
  simp only [PortState.receive]
  split
  · exact flagged _
  · split
    · split
      · exact assembled _ rfl
      · exact h
    · split
      · exact assembled _ rfl
      · split
        · exact h
        · exact flagged _
    · split
      · exact PortState.judge_lawful p (assembled _ rfl) _
      · rename_i short
        exact assembled _ (by simp only [PortAssembly.lawful, decide_eq_true_eq]; omega)

theorem State.intakeLaw_putPort {s : State} {p : Port} {q : PortState} (h : (s.port p).lawful → q.lawful)
    (hs : s.intakeLaw) : (s.putPort p q).intakeLaw := by
  intro r
  rw [State.port_putPort]
  split
  · exact h (hs p)
  · exact hs r

theorem State.intakeLaw_mapPorts {s : State} {f : Port → PortState → PortState}
    (h : ∀ p t, PortState.lawful t → (f p t).lawful) (hs : s.intakeLaw) : (s.mapPorts f).intakeLaw := by
  intro p
  rw [State.port_mapPorts]
  exact h p _ (hs p)

/-! ## Requests -/

@[simp] theorem State.answer_state (s : State) (st : ReplyStatus) (payload : List Byte) :
    (s.answer st payload).state = s := rfl

@[simp] theorem State.refuse_state (s : State) (st : ReplyStatus) : (s.refuse st).state = s := rfl

theorem State.Requested.nothing (s : State) : s.Requested s := .apart rfl id id id fun _ => ⟨rfl, rfl⟩

theorem State.Requested.relink {s : State} {x : LinkId} {l : LinkState} (hl : (s.link x).lawful → l.lawful)
    (hh : l.hears = (s.link x).hears) (he : l.enabled = (s.link x).enabled) : s.Requested (s.putLink x l) := by
  refine .apart rfl id (State.linkLaw_putLink hl) id fun y => ?_
  rw [State.link_putLink]
  split
  · next h => exact h ▸ ⟨hh, he⟩
  · exact ⟨rfl, rfl⟩

theorem serveStatus_requested (x : LinkId) (p : List Byte) (s : State) : s.Requested (serveStatus x p s).state := by
  simp only [serveStatus]
  split
  · exact .nothing s
  · refine .relink (fun h => ?_) rfl rfl
    obtain ⟨hv, hd, ha, hr, hdeaf, hoff⟩ := h
    exact ⟨hv, hd, ha, hr, hdeaf, fun he => ⟨rfl, (hoff he).2⟩⟩

theorem serveClearLinkFlags_requested (x : LinkId) (p : List Byte) (s : State) :
    s.Requested (serveClearLinkFlags x p s).state := by
  simp only [serveClearLinkFlags]
  split
  · exact .nothing s
  · split
    · refine .relink (fun h => ?_) rfl rfl
      obtain ⟨hv, hd, ha, hr, hdeaf, hoff⟩ := h
      refine ⟨hv, hd, ha, hr, fun he => ?_, hoff⟩
      obtain ⟨hhunt, hreply, hhold, hflags⟩ := hdeaf he
      exact ⟨hhunt, hreply, hhold, by rw [hflags]; simp [LineFlags.clear, LineFlags.clearNamed]⟩
    · exact .nothing s

theorem serveSetView_requested (x : LinkId) (p : List Byte) (s : State) : s.Requested (serveSetView x p s).state := by
  simp only [serveSetView]
  split
  · exact .nothing s
  · split
    · split
      · exact .nothing s
      · rename_i v hv
        refine .relink (fun h => ?_) rfl rfl
        obtain ⟨-, hd, ha, hr, hdeaf, hoff⟩ := h
        refine ⟨viewOf_lawful hv, ?_, ha, hr, hdeaf, hoff⟩
        dsimp only
        split
        · exact hd
        · exact viewOf_lawful hv
    · exact .nothing s

theorem serveBindPack_requested (x : LinkId) (p : List Byte) (s : State) : s.Requested (serveBindPack x p s).state := by
  simp only [serveBindPack]
  split
  · exact .nothing s
  · split
    · exact .nothing s
    · split
      · split
        · exact .nothing s
        · split
          · exact .nothing s
          · rename_i valid
            split
            · exact .apart rfl id id id fun _ => ⟨rfl, rfl⟩
            · rename_i new
              split
              · exact .nothing s
              · exact .bound _ _ (by simpa using valid) new
      · exact .nothing s

theorem serveUnbindSeat_requested (x : LinkId) (p : List Byte) (s : State) :
    s.Requested (serveUnbindSeat x p s).state := by
  simp only [serveUnbindSeat]
  split
  · exact .nothing s
  · split
    · exact .nothing s
    · split
      · split
        · exact .nothing s
        · split
          · exact .nothing s
          · exact .released _
      · exact .nothing s

theorem serveSetGroup_requested (x : LinkId) (p : List Byte) (s : State) : s.Requested (serveSetGroup x p s).state := by
  simp only [serveSetGroup]
  split
  · exact .nothing s
  · split
    · exact .nothing s
    · split
      · split
        · exact .nothing s
        · rename_i range
          rw [State.answer_state]
          refine .grouped _ fun n r => ?_
          split
          · refine .inr ⟨_, ?_, rfl⟩
            simp only [Bool.or_eq_true, decide_eq_true_eq] at range
            omega
          · exact .inl rfl
      · exact .nothing s

theorem serveRestartSeats_requested (x : LinkId) (p : List Byte) (s : State) :
    s.Requested (serveRestartSeats x p s).state := by
  simp only [serveRestartSeats]
  split
  · exact .nothing s
  · split
    · exact .nothing s
    · split
      · exact .nothing s
      · rename_i h
        exact .restarted (by simpa using h)

theorem State.Requested.mapPorts {s : State} {f : Port → PortState → PortState}
    (h : ∀ p t, PortState.lawful t → (f p t).lawful) : s.Requested (s.mapPorts f) :=
  .apart (by simp only [State.mapPorts]) (State.intakeLaw_mapPorts h) (fun hs y hy => by
    simpa only [State.link, State.mapPorts_links] using hs y hy) (by simp [State.profileLaw])
    fun y => by simp only [State.link, State.mapPorts_links, and_self]

theorem servePortStart_requested (x : LinkId) (p : List Byte) (s : State) :
    s.Requested (servePortStart x p s).state := by
  simp only [servePortStart]
  split
  · exact .nothing s
  · split
    · split
      · exact .nothing s
      · rw [State.answer_state]
        refine .mapPorts fun q t ht => ?_
        split
        · obtain ⟨hlen, hin, -, ha⟩ := ht
          exact ⟨hlen, hin, by simp, ha⟩
        · exact ht
    · exact .nothing s

theorem servePortStop_requested (x : LinkId) (p : List Byte) (s : State) :
    s.Requested (servePortStop x p s).state := by
  simp only [servePortStop]
  split
  · exact .nothing s
  · split
    · split
      · exact .nothing s
      · rw [State.answer_state]
        refine .mapPorts fun q t ht => ?_
        split
        · exact ⟨Nat.zero_le _, by simp, fun _ => rfl, ht.2.2.2⟩
        · exact ht
    · exact .nothing s

theorem serveClearPortFlags_requested (x : LinkId) (p : List Byte) (s : State) :
    s.Requested (serveClearPortFlags x p s).state := by
  simp only [serveClearPortFlags]
  split
  · exact .nothing s
  · split
    · split
      · exact .nothing s
      · exact .apart rfl (State.intakeLaw_putPort id) id id fun _ => ⟨rfl, rfl⟩
    · exact .nothing s

theorem serveSetCurve_requested (x : LinkId) (p : List Byte) (s : State) : s.Requested (serveSetCurve x p s).state := by
  simp only [serveSetCurve]
  split
  · exact .nothing s
  · split
    · exact .nothing s
    · split
      · exact .nothing s
      · rename_i setup
        split
        · exact .nothing s
        · rename_i valid
          simp only [not_or, Bool.not_eq_false] at valid
          exact .curved _ valid.2 (by simpa using setup)

theorem serveSetParameter_requested (x : LinkId) (p : List Byte) (s : State) :
    s.Requested (serveSetParameter x p s).state := by
  simp only [serveSetParameter]
  split
  · exact .nothing s
  · split
    · exact .nothing s
    · split
      · split
        · exact .nothing s
        · rename_i range
          split
          · exact .nothing s
          · exact .written _ _ (by omega)
      · exact .nothing s

theorem State.enabled_of_anyRole {s : State} {x : LinkId} (h : ¬(!s.anyRole x) = true) : (s.link x).enabled = true := by
  simpa [State.anyRole] using h

theorem State.enabled_of_mayAcknowledge {s : State} {x : LinkId} (h : ¬(!s.mayAcknowledge x) = true) :
    (s.link x).enabled = true := by
  simp only [State.mayAcknowledge, State.presiding, State.technical, Bool.not_eq_true', Bool.not_eq_false,
    Bool.or_eq_true, beq_iff_eq] at h
  rcases h with h | h <;> simp [LinkState.enabled, h]

theorem serveReadUnseen_requested (x : LinkId) (p : List Byte) (s : State) :
    s.Requested (serveReadUnseen x p s).state := by
  simp only [serveReadUnseen]
  split
  · exact .nothing s
  · next h => exact .seen _ _ (State.enabled_of_anyRole h)

theorem serveReadWarnings_requested (x : LinkId) (p : List Byte) (s : State) :
    s.Requested (serveReadWarnings x p s).state := by
  simp only [serveReadWarnings]
  split
  · exact .nothing s
  · next h =>
    split
    · split
      · exact .nothing s
      · exact .seen _ _ (State.enabled_of_anyRole h)
    · exact .nothing s

/-- An acknowledgement of one record is a group of one (R114, R115). -/
theorem State.acknowledgeAll_singleton {s : State} (x : LinkId) {r : Record} :
    s.acknowledgeAll x [r] = if r.state = .clearedUnacked then s.removeAll [r] else s.acknowledge x r := by
  cases h : r.state <;> simp [State.acknowledgeAll, State.removeAll, State.acknowledge, h]

/-- Removing CLEARED_UNACKED records is acknowledging them (R87, R92). -/
theorem State.removeAll_eq_acknowledgeAll (s : State) (x : LinkId) {rs : List Record}
    (h : ∀ r ∈ rs, r.state = .clearedUnacked) : s.removeAll rs = s.acknowledgeAll x rs := by
  have fold : rs.foldl (fun t r => t.acknowledge x r) s
      = rs.foldl (fun t r => t.removeRecord r.seat r.kind) s := by
    induction rs generalizing s with
    | nil => rfl
    | cons r rs ih =>
      simp only [List.foldl_cons]
      rw [ih _ fun q hq => h q (List.mem_cons_of_mem _ hq)]
      simp only [State.acknowledge, h r List.mem_cons_self]
  cases rs with
  | nil => rfl
  | cons r rs =>
    simp only [State.removeAll, State.acknowledgeAll, fold, List.any_cons, h r List.mem_cons_self, beq_self_eq_true,
      Bool.true_or, if_true, List.isEmpty_cons, Bool.false_eq_true, if_false]

theorem serveAckWarning_requested (x : LinkId) (p : List Byte) (s : State) :
    s.Requested (serveAckWarning x p s).state := by
  simp only [serveAckWarning]
  split
  · exact .nothing s
  · rename_i may
    split
    · split
      · split
        · exact .nothing s
        · rename_i n k _ _ r hr
          have held : [r].Sublist s.records := by simpa using (State.mem_of_record hr).1
          have one := State.Requested.acked x [r] held (State.enabled_of_mayAcknowledge may)
          rw [State.acknowledgeAll_singleton] at one
          split
          · exact .nothing s
          · split
            · exact .nothing s
            · split
              · next hc => simpa only [hc, if_true, State.answer_state] using one
              · next hc => simpa only [hc, if_false, State.answer_state] using one
      · exact .nothing s
    · exact .nothing s

theorem serveAckGroup_requested (x : LinkId) (p : List Byte) (s : State) : s.Requested (serveAckGroup x p s).state := by
  simp only [serveAckGroup]
  split
  · exact .nothing s
  · next may =>
    split
    · split
      · exact .nothing s
      · exact .acked _ _ List.filter_sublist (State.enabled_of_mayAcknowledge may)
    · exact .nothing s

theorem State.enabled_of_technical {s : State} {x : LinkId} (h : ¬(!s.technical x) = true) :
    (s.link x).enabled = true := by
  simp only [State.technical, Bool.not_eq_true', Bool.not_eq_false, beq_iff_eq] at h
  simp [LinkState.enabled, h]

theorem servePurgeCleared_requested (x : LinkId) (p : List Byte) (s : State) :
    s.Requested (servePurgeCleared x p s).state := by
  simp only [servePurgeCleared]
  split
  · exact .nothing s
  · next may =>
    rw [State.answer, State.removeAll_eq_acknowledgeAll s x fun r hr => by simpa using (List.mem_filter.1 hr).2]
    exact .acked _ _ (List.filter_sublist.trans List.filter_sublist) (State.enabled_of_technical may)

theorem serveStartSitting_requested (x : LinkId) (p : List Byte) (s : State) :
    s.Requested (serveStartSitting x p s).state := by
  simp only [serveStartSitting]
  split
  · exact .nothing s
  · split
    · exact .nothing s
    · rename_i idle
      split
      · exact .nothing s
      · rename_i setup
        split
        · exact .started _ (Nat.min_le_left ..) (by simpa using setup) (by simpa using idle)
        · exact .nothing s

theorem serveSetSchedule_requested (x : LinkId) (p : List Byte) (s : State) :
    s.Requested (serveSetSchedule x p s).state := by
  simp only [serveSetSchedule]
  split
  · exact .nothing s
  · split
    · exact .nothing s
    · split
      · exact .scheduled _ (Nat.min_le_left ..)
      · exact .nothing s

theorem serveRecess_requested (x : LinkId) (p : List Byte) (s : State) : s.Requested (serveRecess x p s).state := by
  simp only [serveRecess]
  split
  · exact .nothing s
  · split
    · exact .nothing s
    · next h => exact .recessed (by simpa using h)

theorem serveResume_requested (x : LinkId) (p : List Byte) (s : State) : s.Requested (serveResume x p s).state := by
  simp only [serveResume]
  split
  · exact .nothing s
  · split
    · exact .nothing s
    · next h => exact .resumed (by simpa using h)

theorem serveEndSitting_requested (x : LinkId) (p : List Byte) (s : State) :
    s.Requested (serveEndSitting x p s).state := by
  simp only [serveEndSitting]
  split
  · exact .nothing s
  · split
    · exact .nothing s
    · exact .ended

theorem serveGrantFloor_requested (x : LinkId) (p : List Byte) (s : State) :
    s.Requested (serveGrantFloor x p s).state := by
  simp only [serveGrantFloor]
  split
  · exact .nothing s
  · split
    · exact .nothing s
    · rename_i sitting
      have sitting : s.sitting = .sitting := by simpa using sitting
      split
      · split
        · exact .nothing s
        · split
          · exact .nothing s
          · rename_i bound
            have bound := by simpa using bound
            split
            · exact .nothing s
            · rename_i off
              have off := by simpa using off
              split
              · next room => exact .granted _ sitting bound off room
              · split
                · exact .nothing s
                · split
                  · exact .nothing s
                  · next floor => exact .replaced _ _ _ sitting bound off floor
      · exact .nothing s

theorem serveWithdrawFloor_requested (x : LinkId) (p : List Byte) (s : State) :
    s.Requested (serveWithdrawFloor x p s).state := by
  simp only [serveWithdrawFloor]
  split
  · exact .nothing s
  · split
    · exact .nothing s
    · rename_i sitting
      split
      · split
        · exact .nothing s
        · split
          · exact .nothing s
          · exact .withdrawn _ (by simpa using sitting)
      · exact .nothing s

theorem serveWithdrawAll_requested (x : LinkId) (p : List Byte) (s : State) :
    s.Requested (serveWithdrawAll x p s).state := by
  simp only [serveWithdrawAll]
  split
  · exact .nothing s
  · split
    · exact .nothing s
    · next sitting => exact .cleared (by simpa using sitting)

/-- A profile operation begins (R148, R149). -/
theorem State.beginProfile_requested {s : State} {op : ProfileOp} {last : LastOp} {slot : Nat} {buffer : List Byte}
    (hslot : slot < s.profile.slotCount) (hbuf : op = .saving ∨ op = .comparing → buffer.length = Config.imageBytes)
    (hload : op = .loading → s.sitting = .setup) : s.Requested (s.beginProfile op last slot buffer).state :=
  .apart rfl id id (fun h => ⟨h.1, fun _ => ⟨slot, rfl, hslot⟩, hbuf, hload⟩) fun _ => ⟨rfl, rfl⟩

theorem length_flatMap_of_length {α β : Type} {f : α → List β} {m : Nat} (h : ∀ a, (f a).length = m) (l : List α) :
    (l.flatMap f).length = l.length * m := by
  induction l with
  | nil => simp
  | cons a l ih => simp [ih, h, Nat.add_mul, Nat.add_comm]

/-- A snapshot is a whole image (R150). -/
theorem State.length_snapshot (s : State) (slot : Nat) : (s.snapshot slot).length = Config.imageBytes := by
  have params : (parameterNumbers.flatMap fun n => bytes2 (s.params.get n)).length = 21 * 2 :=
    length_flatMap_of_length (m := 2) (fun _ => rfl) _
  have curve : (curveBytes s.curve).length = 8 * 3 := by
    rw [curveBytes, length_flatMap_of_length (m := 3) (fun _ => rfl)]
    simp
  have seats : (s.seats.toList.flatMap SeatRecord.imageBytes).length = 128 * 4 := by
    rw [length_flatMap_of_length (m := 4) (fun _ => rfl)]
    simp
  have views : (allLinks.flatMap fun x => (s.link x).default.toBytes).length = 3 * 6 :=
    length_flatMap_of_length (m := 6) (fun _ => rfl) _
  simp only [State.snapshot, State.imageBody, List.length_append, params, curve, seats, views, length_bytes2]
  rfl

theorem serveProfileSave_requested (x : LinkId) (p : List Byte) (s : State) :
    s.Requested (serveProfileSave x p s).state := by
  simp only [serveProfileSave]
  split
  · exact .nothing s
  · split
    · split
      · exact .nothing s
      · split
        · exact .nothing s
        · exact State.beginProfile_requested (by omega) (fun _ => s.length_snapshot _) (by simp)
    · exact .nothing s

theorem serveProfileLoad_requested (x : LinkId) (p : List Byte) (s : State) :
    s.Requested (serveProfileLoad x p s).state := by
  simp only [serveProfileLoad]
  split
  · exact .nothing s
  · split
    · exact .nothing s
    · rename_i setup
      split
      · split
        · exact .nothing s
        · exact State.beginProfile_requested (by omega) (by simp) fun _ => by simpa using setup
      · exact .nothing s

theorem serveProfileCompare_requested (x : LinkId) (p : List Byte) (s : State) :
    s.Requested (serveProfileCompare x p s).state := by
  simp only [serveProfileCompare]
  split
  · exact .nothing s
  · split
    · split
      · exact .nothing s
      · exact State.beginProfile_requested (by omega) (fun _ => s.length_snapshot _) (by simp)
    · exact .nothing s

end Sys2Proof.Machine
end

section
/-! The links through a move, and every command as a run of moves. -/

namespace Sys2Proof.Machine

/-! ## Links whose overflow notice alone may have become pending (R109) -/

/-- Each link is as it was, or its overflow notice has become pending. -/
structure State.noticed (s t : State) : Prop where
  link : ∀ y, t.link y = s.link y ∨ t.link y = { s.link y with notice := (s.link y).notice || (s.link y).enabled }

theorem State.noticed_of_links {s t : State} (h : t.links = s.links) : s.noticed t :=
  ⟨fun y => .inl (by simp only [State.link, h])⟩

theorem State.noticed_trans {s t u : State} (h : s.noticed t) (g : t.noticed u) : s.noticed u := by
  refine ⟨fun y => ?_⟩
  have hg := g.link y
  rcases h.link y with hy | hy <;> rw [hy] at hg <;> rcases hg with hg | hg <;> simp [hg, LinkState.enabled]

theorem State.listWork.noticed {s t : State} (h : s.listWork t) : s.noticed t := by
  refine ⟨fun y => ?_⟩
  have frame := h.frame.2 y
  rcases h.notices y with hy | hy
  · exact .inl (by rw [frame, hy])
  · exact .inr (by rw [frame, hy])

theorem State.noticed_applyOutcomes {s u : State} (h : u.links = s.links) (os : List HandedOutcome) :
    s.noticed (u.applyOutcomes os) := State.noticed_trans (State.noticed_of_links h) (u.listWork_applyOutcomes os).noticed

theorem State.noticed_evaluate {s u : State} (h : u.links = s.links) (tick : Bool) (kinds : Seat → PerKind Bool) :
    s.noticed (u.evaluate tick kinds) := State.noticed_applyOutcomes ((u.mapMonitors_links _).trans h) _

theorem State.noticed_restartMonitors {s u : State} (h : u.links = s.links) (who : Seat → Bool) :
    s.noticed (u.restartMonitors who) :=
  State.noticed_applyOutcomes ((State.mapMonitors_links ..).trans ((u.mapMonitors_links _).trans h)) _

theorem State.noticed_recessMonitors {s u : State} (h : u.links = s.links) : s.noticed u.recessMonitors :=
  State.noticed_applyOutcomes ((u.mapMonitors_links _).trans h) _

theorem State.noticed_startMonitors {s u : State} (h : u.links = s.links) : s.noticed u.startMonitors :=
  State.noticed_evaluate ((u.mapMonitors_links _).trans h) ..

theorem State.noticed_endDropoutWindow (s : State) : s.noticed s.endDropoutWindow :=
  State.noticed_applyOutcomes (by simp only [State.mapSeats_links, State.mapMonitors_links]) _

theorem State.noticed_tickWindow (s : State) : s.noticed s.tickWindow := by
  simp only [State.tickWindow]
  split
  · exact s.noticed_endDropoutWindow
  · exact State.noticed_of_links rfl

theorem State.noticed_changeSeat (s : State) (n : Seat) (r : SeatRecord) : s.noticed (s.changeSeat n r) :=
  State.noticed_evaluate (by rfl) ..

theorem State.noticed_changeSeats (s : State) (f : Seat → SeatRecord → SeatRecord) : s.noticed (s.changeSeats f) :=
  State.noticed_evaluate (s.mapSeats_links f) ..

theorem State.noticed_minuteSeats (s : State) (who : Seat → Bool) : s.noticed (s.minuteSeats who) := by
  simp only [State.minuteSeats]
  exact State.noticed_evaluate (s.mapSeats_links _) ..

theorem State.noticed_granted {s u : State} (h : u.links = s.links) (n : Seat) : s.noticed (u.granted n) :=
  State.noticed_evaluate (u := u.putMonitor n { u.monitor n with openPv := 0 }) h ..

theorem State.noticed_trimFloor (s : State) : s.noticed s.trimFloor := State.noticed_evaluate (by rfl) ..

theorem State.noticed_takeEffect (s : State) (number : Nat) : s.noticed (s.takeEffect number) := by
  simp only [State.takeEffect]
  split
  · exact State.noticed_of_links (s.mapSeats_links _)
  · exact State.noticed_of_links rfl
  · exact State.noticed_of_links rfl
  · exact State.noticed_of_links rfl
  · exact State.noticed_of_links rfl
  · split
    · exact s.noticed_trimFloor
    · exact State.noticed_of_links rfl
  · exact State.noticed_of_links rfl

theorem State.noticed_writeParameter (s : State) (number v : Nat) : s.noticed (s.writeParameter number v) :=
  have written : s.noticed { s with
      params := s.params.write number v, setChanged := s.setChanged.after s.params (s.params.write number v) } :=
    State.noticed_of_links rfl
  State.noticed_trans written (State.noticed_takeEffect _ number)

theorem State.noticed_releaseSeat (s : State) (n : Seat) : s.noticed (s.releaseSeat n) :=
  State.noticed_restartMonitors (by rfl) _

theorem State.noticed_bindSeat (s : State) (n : Seat) (pack : PackId) (from? : Option Seat) :
    s.noticed (s.bindSeat n pack from?) := State.noticed_restartMonitors (by cases from? <;> rfl) _

theorem State.noticed_restartBound (s : State) : s.noticed s.restartBound :=
  State.noticed_restartMonitors (by simp only [State.mapPorts_links, State.mapSeats_links]) _

section
variable {s t : State} (h : s.noticed t) (y : LinkId)
include h

theorem State.noticed.hears : (t.link y).hears = (s.link y).hears := by
  rcases h.link y with hy | hy <;> rw [hy]
  rfl

theorem State.noticed.enabled : (t.link y).enabled = (s.link y).enabled := by
  rcases h.link y with hy | hy <;> rw [hy]
  rfl

end

/-- A notice becomes pending on enabled links alone, so the links stay lawful. -/
theorem State.noticed.linkLaw {s t : State} (h : s.noticed t) (hs : s.linkLaw) : t.linkLaw := by
  intro y hy
  have hl := hs y hy
  rcases h.link y with ht | ht <;> rw [ht]
  · exact hl
  · obtain ⟨hv, hd, ha, hr, hdeaf, hoff⟩ := hl
    refine ⟨hv, hd, ha, hr, hdeaf, fun he => ?_⟩
    have he : (s.link y).enabled = false := he
    obtain ⟨hn, hb⟩ := hoff he
    exact ⟨by simp [hn, he], hb⟩

/-! ## What a request leaves of the links -/

/-- Outside the link's own requests a request makes at most notices pending. -/
theorem State.Requested.links {s t : State} (h : s.Requested t) :
    (∀ y, (t.link y).hears = (s.link y).hears ∧ (t.link y).enabled = (s.link y).enabled)
      ∧ (s.linkLaw → t.linkLaw) := by
  have done : ∀ {u : State}, s.noticed u →
      (∀ y, (u.link y).hears = (s.link y).hears ∧ (u.link y).enabled = (s.link y).enabled)
        ∧ (s.linkLaw → u.linkLaw) :=
    fun hu => ⟨fun y => ⟨hu.hears y, hu.enabled y⟩, hu.linkLaw⟩
  cases h with
  | apart core intake links profile lines => exact ⟨lines, links⟩
  | bound n pack valid new => exact done (s.noticed_bindSeat ..)
  | released n => exact done (s.noticed_releaseSeat n)
  | grouped f group => exact done (State.noticed_of_links (s.mapSeats_links f))
  | restarted setup => exact done s.noticed_restartBound
  | curved c valid setup => exact done (State.noticed_of_links (State.mapSeats_links ..))
  | written number v range => exact done (s.noticed_writeParameter ..)
  | seen x picked enabled => exact done (State.noticed_of_links rfl)
  | acked x picked held enabled => exact done (s.listWork_acknowledgeAll ..).noticed
  | started length range setup idle => exact done (State.noticed_startMonitors (by rfl))
  | scheduled length range => exact done (State.noticed_evaluate (by rfl) ..)
  | recessed sitting => exact done (State.noticed_recessMonitors (by rfl))
  | resumed recess => exact done (State.noticed_evaluate (by rfl) ..)
  | ended => exact done (State.noticed_of_links (State.mapMonitors_links ..))
  | granted n sitting bound off room => exact done (State.noticed_granted (by rfl) n)
  | replaced n oldest rest sitting bound off floor =>
    have first : s.noticed ((({ s with floor := rest }).joinFloor n).withdrawn (· == oldest.seat)) :=
      State.noticed_evaluate (by rfl) _ _
    exact done (State.noticed_trans first (State.noticed_granted (by rfl) n))
  | withdrawn n sitting => exact done (State.noticed_evaluate (by rfl) ..)
  | cleared sitting => exact done (State.noticed_evaluate (by rfl) ..)

/-- What a request of any CODE may make of the state. -/
theorem serve_requested (q : Request) (x : LinkId) (p : List Byte) (s : State) : s.Requested (serve q x p s).state := by
  have reads : ∀ {served : Served}, served.state = s → s.Requested served.state := fun h => h ▸ .nothing s
  cases q with
  | status => exact serveStatus_requested x p s
  | clearLinkFlags => exact serveClearLinkFlags_requested x p s
  | bindPack => exact serveBindPack_requested x p s
  | unbindSeat => exact serveUnbindSeat_requested x p s
  | setGroup => exact serveSetGroup_requested x p s
  | readSeat =>
    refine reads ?_
    simp only [serve, serveReadSeat]
    repeat' split
    all_goals rfl
  | readSeats =>
    refine reads ?_
    simp only [serve, serveReadSeats]
    repeat' split
    all_goals rfl
  | readStrays => exact reads (by simp only [serve, serveReadStrays]; split <;> rfl)
  | restartSeats => exact serveRestartSeats_requested x p s
  | readPorts => exact reads (by simp only [serve, serveReadPorts]; split <;> rfl)
  | portStart => exact servePortStart_requested x p s
  | portStop => exact servePortStop_requested x p s
  | clearPortFlags => exact serveClearPortFlags_requested x p s
  | setCurve => exact serveSetCurve_requested x p s
  | readCurve => exact reads (by simp only [serve, serveReadCurve]; split <;> rfl)
  | setParameter => exact serveSetParameter_requested x p s
  | readParameter =>
    refine reads ?_
    simp only [serve, serveReadParameter]
    repeat' split
    all_goals rfl
  | readUnseen => exact serveReadUnseen_requested x p s
  | readWarnings => exact serveReadWarnings_requested x p s
  | ackWarning => exact serveAckWarning_requested x p s
  | ackGroup => exact serveAckGroup_requested x p s
  | purgeCleared => exact servePurgeCleared_requested x p s
  | setView => exact serveSetView_requested x p s
  | readView => exact reads (by simp only [serve, serveReadView]; split <;> rfl)
  | startSitting => exact serveStartSitting_requested x p s
  | setSchedule => exact serveSetSchedule_requested x p s
  | recess => exact serveRecess_requested x p s
  | resume => exact serveResume_requested x p s
  | endSitting => exact serveEndSitting_requested x p s
  | grantFloor => exact serveGrantFloor_requested x p s
  | withdrawFloor => exact serveWithdrawFloor_requested x p s
  | withdrawAll => exact serveWithdrawAll_requested x p s
  | readFloor => exact reads (by simp only [serve, serveReadFloor]; split <;> rfl)
  | profileSave => exact serveProfileSave_requested x p s
  | profileLoad => exact serveProfileLoad_requested x p s
  | profileCompare => exact serveProfileCompare_requested x p s
  | readProfileStatus => exact reads (by simp only [serve, serveReadProfileStatus]; split <;> rfl)

theorem State.judgeRequest_requested (s : State) (x : LinkId) (r : HeldRequest) :
    s.Requested (s.judgeRequest x r).state := by
  simp only [State.judgeRequest]
  split
  · split
    · exact .nothing s
    · exact serve_requested ..
  · split
    · exact .nothing s
    · exact .nothing s

/-! ## Commands as runs of moves -/

section
variable {whole : Prop}

/-- A link rewritten, lawful where it was and with its strap. -/
theorem State.Moves.relink {s : State} {x : LinkId} {l : LinkState} (hl : whole → (s.link x).lawful → l.lawful)
    (he : l.enabled = (s.link x).enabled) : State.Moves whole s (s.putLink x l) := by
  refine .outside rfl id (fun hw => State.linkLaw_putLink (hl hw)) id id fun y => ?_
  rw [State.link_putLink]
  split
  · next h => exact h ▸ he
  · rfl

theorem State.Moves.samplePin (s : State) (b : Bool) : State.Moves whole s (s.samplePin b) :=
  .outside rfl id (fun _ => id) id id fun _ => rfl

/-- A request taken from a link that hears (R138, R139). -/
theorem State.takeRequest_runs {s : State} {x : LinkId} (hh : whole → (s.link x).hears = true) (r : HeldRequest) :
    State.Runs whole s (s.takeRequest x r) := by
  have req := s.judgeRequest_requested x r
  refine .tail (.single (.requested req)) (.relink (fun hw hl => ?_) (by rfl))
  exact LinkState.lawful_of_hears hl.1 hl.2.1 hl.2.2.1 (fun _ => by simp) ((req.links.1 x).1.trans (hh hw))

theorem State.goodRequest_runs {s : State} {x : LinkId} (hh : (s.link x).hears = true) (r : HeldRequest) :
    State.Runs whole s (s.goodRequest x r) := by
  simp only [State.goodRequest]
  split
  · exact State.takeRequest_runs (fun _ => hh) r
  · next hr _ =>
    exact .single (.relink (fun _ hl => LinkState.lawful_of_hears hl.1 hl.2.1 hl.2.2.1 (by simp [hr]) hh) (by rfl))
  · exact .single (.relink (fun _ hl => LinkState.lawful_of_hears hl.1 hl.2.1 hl.2.2.1 hl.2.2.2.1 hh) (by rfl))

theorem State.requestReaches_runs (s : State) (x : LinkId) (code : Byte) (payload : List Byte) :
    State.Runs whole s (s.requestReaches x code payload) := by
  simp only [State.requestReaches]
  split
  · next hh =>
    refine .head (.relink (fun _ hl => ?_) (by rfl)) (State.goodRequest_runs (by rw [State.link_putLink, if_pos rfl]; exact hh) _)
    exact LinkState.lawful_of_hears hl.1 hl.2.1 rfl hl.2.2.2.1 hh
  · exact .refl

theorem State.judgeFrame_runs {s : State} {x : LinkId} (hh : (s.link x).hears = true) (len : Nat)
    (frame : List Byte) : State.Runs whole s (s.judgeFrame x len frame) := by
  simp only [State.judgeFrame]
  split
  · exact .single (.relink (fun _ hl => LinkState.lawful_of_hears hl.1 hl.2.1 hl.2.2.1 hl.2.2.2.1 hh) (by rfl))
  · split
    · exact State.goodRequest_runs hh _
    · exact .refl

theorem State.receiveCharacter_runs {s : State} {x : LinkId} (hh : (s.link x).hears = true) (ch : Byte)
    (stop : Bool) : State.Runs whole s (s.receiveCharacter x ch stop) := by
  have assembles : ∀ (a : LinkAssembly) (f : LineFlags), ((s.link x).lawful → a.lawful = true) →
      State.Moves whole s (s.putLink x { s.link x with assembly := a, flags := f }) := fun a f ha =>
    .relink (fun _ hl => LinkState.lawful_of_hears hl.1 hl.2.1 (ha hl) hl.2.2.2.1 hh) (by rfl)
  simp only [State.receiveCharacter]
  split
  · exact .single (assembles _ _ fun _ => rfl)
  · split
    · split
      · exact .single (assembles _ _ fun _ => rfl)
      · exact .refl
    · split
      · next hlen => exact .single (assembles _ _ fun _ => by simp [LinkAssembly.lawful, hlen])
      · split
        · exact .refl
        · exact .single (assembles _ _ fun _ => rfl)
    · next len got hbody =>
      split
      · exact .head (assembles .hunt (s.link x).flags fun _ => rfl) (State.judgeFrame_runs (by rw [State.link_putLink, if_pos rfl]; exact hh) _ _)
      · next short =>
        refine .single (assembles _ _ fun hl => ?_)
        have hbody := hbody ▸ hl.2.2.1
        simp only [LinkAssembly.lawful, Bool.and_eq_true, decide_eq_true_eq] at hbody ⊢
        omega

theorem State.replyEnd_runs (s : State) (x : LinkId) : State.Runs (s.linkLaw) s
    (match (s.link x).reply, (s.link x).hold with
      | none, _ => s
      | some _, none => s.putLink x { s.link x with reply := none }
      | some _, some r => (s.putLink x { s.link x with reply := none, hold := none }).takeRequest x r) := by
  have quiet : (s.link x).lawful →
      { s.link x with reply := none, hold := none }.lawful := fun hl =>
    ⟨hl.1, hl.2.1, hl.2.2.1, by simp, fun hd => by
      obtain ⟨ha, -, -, hf⟩ := hl.2.2.2.2.1 hd
      exact ⟨ha, rfl, rfl, hf⟩, hl.2.2.2.2.2⟩
  split
  · exact .refl
  · next hr hh =>
    refine .single (.relink (fun _ hl => ?_) (by rfl))
    have := quiet hl
    rwa [← hh] at this
  · next hr hh =>
    refine .head (.relink (fun _ hl => quiet hl) (by rfl)) (State.takeRequest_runs (fun hw => ?_) _)
    by_contra deaf
    have deaf : (s.link x).hears = false := by
      rw [State.link_putLink, if_pos rfl] at deaf
      exact Bool.eq_false_of_not_eq_true deaf
    obtain ⟨-, hnone, -⟩ := (hw x (mem_allLinks x)).2.2.2.2.1 deaf
    simp [hnone] at hr

end

end Sys2Proof.Machine
end

section
/-! Every command is a run of moves, and so is every step. -/

namespace Sys2Proof.Machine

section
variable {whole : Prop}

/-! ## Ticks -/

theorem State.quarterWork_runs (s : State) (order : TickOrder) : State.Runs whole s (s.quarterWork order) := by
  cases order with
  | seatTableFirst => exact .head (.advanced _) (.single (.counted _))
  | monitorFirst => exact .head (.counted _) (.single (.advanced _))
  | seatBySeat first => exact .head (.advanced _) (.head (.counted _) (.single (.advanced _)))

theorem State.secondWork_runs (s : State) (order : SecondOrder) : State.Runs whole s (s.secondWork order) := by
  cases order with
  | cwe => exact .head .clock (.head .window (.single .timers))
  | cew => exact .head .clock (.head .timers (.single .window))
  | wce => exact .head .window (.head .clock (.single .timers))
  | wec => exact .head .window (.head .timers (.single .clock))
  | ecw => exact .head .timers (.head .clock (.single .window))
  | ewc => exact .head .timers (.head .window (.single .clock))

/-- A law that reads no qualifier, record or link holds through the work of the monitor and the list. -/
theorem State.onlyMonitorAndList_law {P : State → Prop} {s t : State} (h : s.onlyMonitorAndList t)
    (reads : ∀ (u : State) m r l, P u → P { u with monitors := m, records := r, links := l }) (hs : P s) : P t :=
  h.1 ▸ reads _ _ _ _ hs

/-- What a dropout window end writes besides the qualifiers, the list and the notices (R64). -/
def State.windowTables (s : State) : State :=
  { s.mapSeats fun _ r => { r with dropouts := 0 } with windowElapsed := 0 }

theorem State.endDropoutWindow_frame (s : State) : s.windowTables.onlyMonitorAndList s.endDropoutWindow := by
  refine State.onlyMonitorAndList_trans ?_ (State.onlyMonitorAndList_applyOutcomes ..)
  exact ⟨by simp only [State.windowTables, State.mapSeats, State.mapMonitors], fun _ => by
    simp only [State.windowTables, State.link, State.mapSeats_links, State.mapMonitors_links]⟩

theorem State.windowTables_law {P : State → Prop} {s : State}
    (reads : ∀ (u : State) v, P u → P { u with seats := v, windowElapsed := 0 }) (hs : P s) : P s.windowTables := by
  simp only [State.windowTables, State.mapSeats]
  exact reads _ _ hs

/-- The time base's own counters of seconds (R119). -/
def State.counters (s : State) : Nat × Nat := (s.deviceSeconds, s.minutePhase)

/-- The counters of seconds stand still in the blocks' parts of a second tick (R119). -/
theorem State.secondWork_counters (s : State) (order : SecondOrder) : (s.secondWork order).counters = s.counters := by
  have clock : ∀ u : State, u.tickClock.counters = u.counters := fun u => by
    simp only [State.tickClock]
    split <;> rfl
  have timers : ∀ u : State, u.tickTimers.counters = u.counters := fun u => by
    simp only [State.tickTimers]
    split <;> rfl
  have window : ∀ u : State, u.tickWindow.counters = u.counters := fun u => by
    simp only [State.tickWindow]
    split
    · exact State.onlyMonitorAndList_law (P := fun v => v.counters = u.counters) u.endDropoutWindow_frame
        (fun _ _ _ _ h => h) (State.windowTables_law (P := fun v => v.counters = u.counters) (fun _ _ h => h) rfl)
    · rfl
  cases order with
  | cwe => exact (timers _).trans ((window _).trans (clock s))
  | cew => exact (window _).trans ((timers _).trans (clock s))
  | wce => exact (timers _).trans ((clock _).trans (window s))
  | wec => exact (clock _).trans ((timers _).trans (window s))
  | ecw => exact (window _).trans ((clock _).trans (timers s))
  | ewc => exact (clock _).trans ((window _).trans (timers s))

/-! ## The Profile Store -/

theorem State.Moves.endProfile (s : State) (result : ProfileResult) : State.Moves whole s (s.endProfile result) :=
  .outside rfl id (fun _ => id) (fun h => ⟨h.1, by simp [State.endProfile], by simp [State.endProfile], by simp [State.endProfile]⟩)
    id fun _ => rfl

theorem State.Moves.store {s : State} {m : Memory} (h : s.store.wf = true → m.wf = true) :
    State.Moves whole s { s with store := m } := .outside rfl id (fun _ => id) id h fun _ => rfl

theorem State.Moves.buffer {s : State} (h : s.profile.op = .loading) (b : List Byte) :
    State.Moves whole s { s with profile := { s.profile with buffer := b } } :=
  .outside rfl id (fun _ => id) (fun hp => ⟨hp.1, hp.2.1, by simp [h], hp.2.2.2⟩) id fun _ => rfl

theorem State.loadComplete_runs {s t : State} (h : execLoadComplete s = .next t) : State.Runs whole s t := by
  simp only [execLoadComplete, Host.Outcome.next.injEq] at h
  subst h
  split
  · next loading =>
    refine .head (.buffer loading (s.slotImage s.opSlot)) ?_
    split
    · exact .single (.endProfile ..)
    · split
      · exact .single (.endProfile ..)
      · next formed => exact .head (.loaded _ (by simpa using formed) loading) (.single (.endProfile ..))
  · exact .refl

theorem State.storeFault_runs {s t : State} {g : Progress} (h : execStoreFault g s = .next t) :
    State.Runs whole s t := by
  simp only [execStoreFault, Host.Outcome.next.injEq] at h
  subst h
  split
  · exact .refl
  · exact .head (.store fun hw => Memory.wf_cutSave _ _ _ hw) (.single (.endProfile ..))
  · next loading => exact .head (.buffer loading _) (.single (.endProfile ..))
  · exact .single (.endProfile ..)

/-! ## Line breaks -/

theorem State.linkBreak_runs {s t : State} {x : LinkId} (h : execLinkBreak x s = .next t) : State.Runs whole s t := by
  simp only [execLinkBreak, Host.Outcome.next.injEq] at h
  subst h
  split
  · next hears =>
    have enabled : (s.link x).enabled = true := by
      simp only [LinkState.hears, Bool.and_eq_true] at hears
      exact hears.1
    refine .head (.relink (x := x) (l := (s.link x).breakReset s.overflow) (fun _ hl => ?_) rfl) (.single (.unseen x))
    refine ⟨hl.2.1, hl.2.1, rfl, by simp [LinkState.breakReset], fun _ => ⟨rfl, rfl, rfl, rfl⟩, fun he => ?_⟩
    exact absurd (enabled.symm.trans he) (by simp)
  · exact .refl

theorem State.Moves.returnToMark (s : State) (x : LinkId) :
    State.Moves whole s (s.putLink x { s.link x with inBreak := false }) := by
  refine .relink (fun _ hl => ?_) (by rfl)
  obtain ⟨hv, hd, ha, hr, hdeaf, hoff⟩ := hl
  refine ⟨hv, hd, ha, hr, fun h => hdeaf ?_, fun he => ⟨(hoff he).1, rfl⟩⟩
  simp only [LinkState.hears, Bool.not_false, Bool.and_true] at h ⊢
  simp only [show (s.link x).enabled = false from h, Bool.false_and]

end

/-! ## Every command -/

/-- A command is a run of moves. -/
theorem exec_runs {c : Instr} {s t : State} (h : exec c s = .next t) : State.Runs s.linkLaw s t := by
  cases hc : asRequest c with
  | some r =>
    obtain ⟨x, code, payload⟩ := r
    obtain ⟨protect, hp⟩ := exec_of_asRequest hc s
    cases hp.symm.trans h
    exact .head (.samplePin s protect) (State.requestReaches_runs ..)
  | none =>
    cases c <;> simp only [asRequest, reduceCtorEq] at hc
    case resetPin straps protect g =>
      cases h
      exact .single (.reset ..)
    case portCharacter p ch stop =>
      cases h
      exact .single (.outside rfl (State.intakeLaw_putPort fun hp => PortState.receive_lawful p hp ch stop)
        (fun _ => id) id id fun _ => rfl)
    case intakePick =>
      simp only [exec, execIntakePick, Host.Outcome.next.injEq] at h
      subst h
      split
      · exact .refl
      · split
        · exact .refl
        · next fifo => exact .single (.picked _ _ _ fifo)
    case quarterTick order =>
      cases h
      exact .head .tookValues (.tail (State.quarterWork_runs ..) (.quarterPhase _ (Nat.mod_lt _ (by decide))))
    case enterFading n =>
      simp only [exec, execEnterFading, Host.Outcome.next.injEq] at h
      subst h
      split
      · exact .single (.advanced _)
      · exact .refl
    case enterLost n =>
      simp only [exec, execEnterLost, Host.Outcome.next.injEq] at h
      subst h
      split
      · exact .single (.advanced _)
      · exact .refl
    case qualifierExpiry n k =>
      simp only [exec, execQualifierExpiry, Host.Outcome.next.injEq] at h
      subst h
      split
      · exact .single (.counted _)
      · exact .refl
    case accumulationLimit n =>
      simp only [exec, execAccumulationLimit, Host.Outcome.next.injEq] at h
      subst h
      split
      · exact .single (.counted _)
      · exact .refl
    case secondTick order =>
      cases h
      have last : State.Moves s.linkLaw (s.secondWork order) _ := .seconds
      obtain ⟨hd, hm⟩ := Prod.mk.inj (s.secondWork_counters order)
      rw [hd, hm] at last
      exact .tail (s.secondWork_runs order) last
    case dropoutWindowEnd =>
      simp only [exec, execDropoutWindowEnd, Host.Outcome.next.injEq] at h
      subst h
      split
      · next ends =>
        have tick : State.Moves s.linkLaw s s.tickWindow := .window
        rw [State.tickWindow, if_pos ends] at tick
        exact .single tick
      · exact .refl
    case escalationExpiry n k =>
      simp only [exec, execEscalationExpiry, Host.Outcome.next.injEq] at h
      subst h
      split
      · exact .refl
      · next r hr =>
        split
        · next runs => exact .single (.escalated n k r hr runs.2)
        · exact .refl
    case minuteTick =>
      cases h
      exact .single (.aged _)
    case drainWindowComplete n =>
      simp only [exec, execDrainWindowComplete, Host.Outcome.next.injEq] at h
      subst h
      split
      · exact .single (.aged _)
      · exact .refl
    case linkCharacter x ch stop protect =>
      simp only [exec, execLinkCharacter, Host.Outcome.next.injEq] at h
      subst h
      refine .head (.samplePin s protect) ?_
      split
      · next hears => exact State.receiveCharacter_runs hears ..
      · exact .refl
    case replyEnd x protect =>
      cases h
      exact .head (.samplePin s protect) (State.replyEnd_runs (s.samplePin protect) x)
    case linkBreak x => exact State.linkBreak_runs h
    case saveComplete =>
      simp only [exec, execSaveComplete, Host.Outcome.next.injEq] at h
      subst h
      split
      · exact .head (.store fun hw => Memory.wf_writeBytes _ _ hw) (.single (.endProfile ..))
      · exact .refl
    case loadComplete => exact State.loadComplete_runs h
    case compareComplete =>
      simp only [exec, execCompareComplete, Host.Outcome.next.injEq] at h
      subst h
      split
      · split
        · exact .single (.endProfile ..)
        · split
          · exact .single (.endProfile ..)
          · exact .single (.endProfile ..)
      · exact .refl
    case storeFault g => exact State.storeFault_runs h
    case linkReturnToMark x =>
      cases h
      exact .single (.returnToMark s x)

/-- A step is a run of moves. -/
theorem step_runs {s t : State} (h : step s = .next t) : State.Runs s.linkLaw s t := by
  simp only [step] at h
  split at h
  · cases h
    exact .refl
  · next c rest _ =>
    have dequeue : State.Moves s.linkLaw s { s with pending := rest } :=
      .outside rfl id (fun _ => id) id id fun _ => rfl
    exact .head dequeue (exec_runs h)

/-- A law that every move keeps is kept by every step. -/
theorem law_of_step {law : State → Prop} {s t : State} (h : step s = .next t)
    (keeps : ∀ u v : State, State.Moves s.linkLaw u v → law u → law v) (hs : law s) : law t := by
  have run := step_runs h
  clear h
  induction run with
  | refl => exact hs
  | tail _ move ih => exact keeps _ _ move ih

end Sys2Proof.Machine
end

section
/-! What the moves leave of the parameters, the clocks and the curve (R42, R77, R119, R121, R122). -/

namespace Sys2Proof.Machine

/-! ## Laws that do not read what an update writes -/

theorem State.mapSeats_law {P : State → Prop} {s : State} (f : Seat → SeatRecord → SeatRecord)
    (reads : ∀ (u : State) v, P u → P { u with seats := v }) (hs : P s) : P (s.mapSeats f) := by
  simp only [State.mapSeats]
  exact reads _ _ hs

theorem State.takeSetValues_law {P : State → Prop} {s : State}
    (reads : ∀ (u : State) m c, P u → P { u with monitors := m, setChanged := c }) (hs : P s) : P s.takeSetValues := by
  simp only [State.takeSetValues, State.mapMonitors]
  exact reads _ _ _ hs

/-! ## The tables under the composite operations -/

/-- What binding a pack writes besides the qualifiers, the list and the notices (R13 steps 1 to 5). -/
def State.bindTables (s : State) (n : Seat) (pack : PackId) (from? : Option Seat) : State :=
  let freed := match from? with
    | some m => (s.putSeat m (s.seat m).release).leaveFloor m
    | none => s
  (freed.putSeat n { freed.seat n with pack := some pack }.restart).dropStray pack

theorem State.bindSeat_frame (s : State) (n : Seat) (pack : PackId) (from? : Option Seat) :
    (s.bindTables n pack from?).onlyMonitorAndList (s.bindSeat n pack from?) :=
  State.onlyMonitorAndList_restartMonitors ..

theorem State.bindTables_eq (s : State) (n : Seat) (pack : PackId) (from? : Option Seat) :
    s.bindTables n pack from? = { s with
      seats := (s.bindTables n pack from?).seats, strays := (s.bindTables n pack from?).strays
      floor := (s.bindTables n pack from?).floor } := by
  cases from? <;> rfl

/-- What a release writes besides the qualifiers, the list and the notices (R3). -/
def State.releaseTables (s : State) (n : Seat) : State := (s.putSeat n (s.seat n).release).leaveFloor n

theorem State.releaseSeat_frame (s : State) (n : Seat) : (s.releaseTables n).onlyMonitorAndList (s.releaseSeat n) :=
  State.onlyMonitorAndList_restartMonitors ..

/-- What RESTART SEATS writes besides the qualifiers, the list and the notices (R20). -/
def State.restartTables (s : State) : State :=
  { ((s.mapSeats fun _ r => if r.pack.isSome then r.restart else r).mapPorts fun _ t => { t with fifo := [] }) with
    strays := [] }

theorem State.restartBound_frame (s : State) : s.restartTables.onlyMonitorAndList s.restartBound :=
  State.onlyMonitorAndList_restartMonitors ..

theorem State.restartTables_law {P : State → Prop} {s : State}
    (reads : ∀ (u : State) v p l, P u → P { u with seats := v, ports := p, strays := l }) (hs : P s) :
    P s.restartTables := by
  simp only [State.restartTables, State.mapSeats, State.mapPorts]
  exact reads _ _ _ _ hs

/-- What writing a parameter touches besides the qualifiers, the list and the notices (R52, R63, R77, R132). -/
def State.writeTables (s : State) (number v : Nat) : State :=
  let params := s.params.write number v
  { s with
    params := params
    setChanged := s.setChanged.after s.params params
    seats := if number = 5 then s.restartWindows.seats else s.seats
    windowElapsed := if number = 13 then 0 else s.windowElapsed
    floor := if number = 20 then s.floor.drop (s.floor.length - params.floorLimit) else s.floor }

/-- The other numbers take no effect besides their value. -/
theorem State.takeEffect_plain (s : State) {number : Nat}
    (h : number ≠ 5 ∧ number ≠ 13 ∧ number ≠ 17 ∧ number ≠ 18 ∧ number ≠ 19 ∧ number ≠ 20) :
    s.takeEffect number = s := by
  obtain ⟨h5, h13, h17, h18, h19, h20⟩ := h
  simp only [State.takeEffect]

theorem State.writeParameter_frame (s : State) (number v : Nat) :
    (s.writeTables number v).onlyMonitorAndList (s.writeParameter number v) := by
  have effects : number = 5 ∨ number = 13 ∨ number = 17 ∨ number = 18 ∨ number = 19 ∨ number = 20
      ∨ number ≠ 5 ∧ number ≠ 13 ∧ number ≠ 17 ∧ number ≠ 18 ∧ number ≠ 19 ∧ number ≠ 20 := by omega
  rcases effects with rfl | rfl | rfl | rfl | rfl | rfl | plain
  · refine ⟨?_, fun x => ?_⟩ <;>
      simp [State.writeTables, State.writeParameter, State.takeEffect, State.restartWindows, State.mapSeats, State.link]
  · exact ⟨rfl, fun _ => rfl⟩
  · exact ⟨rfl, fun _ => rfl⟩
  · exact ⟨rfl, fun _ => rfl⟩
  · exact ⟨rfl, fun _ => rfl⟩
  · change State.onlyMonitorAndList _ (if _ then _ else _)
    split
    · exact State.onlyMonitorAndList_withdrawn ..
    · next room =>
      have whole : s.floor.length - (s.params.write 20 v).floorLimit = 0 := Nat.sub_eq_zero_of_le (Nat.not_lt.1 room)
      simp only [State.writeTables, whole, List.drop_zero, if_true]
      exact State.onlyMonitorAndList_refl _
  · have hw : s.writeParameter number v = _ := State.takeEffect_plain _ plain
    rw [hw, State.writeTables, if_neg plain.1, if_neg plain.2.1, if_neg plain.2.2.2.2.2]
    exact State.onlyMonitorAndList_refl _

/-- What the bindings of an image write besides the qualifiers, the list and the notices (R153 steps 3 and 4). -/
def State.imageTables (s : State) (img : List Byte) : State :=
  { s.mapSeats fun n r => r.rebind (imagePack img n) (imageGroup img n) with
    floor := s.floor.filter fun e => (imagePack img e.seat).isSome }

theorem State.applyBindings_frame (s : State) (img : List Byte) :
    (s.imageTables img).onlyMonitorAndList (s.applyBindings img) := State.onlyMonitorAndList_restartMonitors ..

theorem State.imageTables_law {P : State → Prop} {s : State} (img : List Byte)
    (reads : ∀ (u : State) v f, P u → P { u with seats := v, floor := f }) (hs : P s) : P (s.imageTables img) := by
  simp only [State.imageTables, State.mapSeats]
  exact reads _ _ _ hs

/-- A law that every parameter write keeps holds after the parameters of an image (R153 step 1). -/
theorem State.applyParameters_law {P : State → Prop} {s : State} (img : List Byte)
    (keeps : ∀ (u : State) number v, 1 ≤ number ∧ number ≤ 21 → P u → P (u.writeParameter number v)) (hs : P s) :
    P (s.applyParameters img) := by
  have range : ∀ n ∈ parameterNumbers, 1 ≤ n ∧ n ≤ 21 := by decide
  simp only [State.applyParameters]
  generalize parameterNumbers = numbers at range
  induction numbers generalizing s with
  | nil => exact hs
  | cons n numbers ih =>
    exact ih (keeps _ _ _ (range n List.mem_cons_self) hs) fun m hm => range m (List.mem_cons_of_mem _ hm)

/-- An image applied up to its bindings (R153 steps 1 to 4). -/
def State.imageBound (s : State) (img : List Byte) : State :=
  ({ s.applyParameters img with curve := imageCurve img }).applyBindings img

/-- After the bindings an image writes the strays and the links alone (R153 steps 5 and 6). -/
theorem State.applyImage_eq (s : State) (img : List Byte) : s.applyImage img = ({ s.imageBound img with
    strays := (s.imageBound img).strays.filter fun t => !(imagePacks img).contains t.pack }).applyViews img := rfl

/-- A law that every parameter write keeps, and that reads neither curve, seats, floor, strays nor links, holds after
an image (R153). -/
theorem State.applyImage_law {P : State → Prop} {s : State} (img : List Byte)
    (keeps : ∀ (u : State) number v, 1 ≤ number ∧ number ≤ 21 → P u → P (u.writeParameter number v))
    (reads : ∀ (u : State) c v f t m r l, P u → P { u with
      curve := c, seats := v, floor := f, strays := t, monitors := m, records := r, links := l })
    (hs : P s) : P (s.applyImage img) := by
  have params := State.applyParameters_law img keeps hs
  generalize hu : s.applyParameters img = u at params
  have curved : P { u with curve := imageCurve img } :=
    reads u (imageCurve img) u.seats u.floor u.strays u.monitors u.records u.links params
  have bound : P (s.imageBound img) := by
    rw [State.imageBound, hu]
    refine State.onlyMonitorAndList_law (State.applyBindings_frame ..)
      (fun w _ _ _ => reads w w.curve w.seats w.floor w.strays _ _ _) (State.imageTables_law img (fun w _ _ => ?_) curved)
    exact reads w w.curve _ _ w.strays w.monitors w.records w.links
  rw [State.applyImage_eq]
  generalize s.imageBound img = w at bound
  exact reads w w.curve w.seats w.floor _ w.monitors w.records _ bound

/-! ## Parameters (R77) -/

/-- Every parameter in its own range. -/
def Params.inRange (p : Params) : Prop := ∀ n ∈ parameterNumbers, (paramRange n).1 ≤ p.get n ∧ p.get n ≤ (paramRange n).2

theorem mem_parameterNumbers {n : Nat} : n ∈ parameterNumbers ↔ 1 ≤ n ∧ n ≤ 21 := by
  simp only [parameterNumbers, List.mem_map, List.mem_range]
  exact ⟨fun ⟨a, ha, hn⟩ => by omega, fun h => ⟨n - 1, by omega, by omega⟩⟩

theorem Params.inRange_put {p : Params} (hp : p.inRange) {n v : Nat} (hn : 1 ≤ n ∧ n ≤ 21)
    (hv : (paramRange n).1 ≤ v ∧ v ≤ (paramRange n).2) : (p.put n v).inRange := by
  intro m hm
  rw [Params.get_put p hn]
  split
  · next h => exact h ▸ hv
  · exact hp m hm

theorem ownRange_mem {n : Nat} (hn : 1 ≤ n ∧ n ≤ 21) (v : Nat) :
    (paramRange n).1 ≤ ownRange n v ∧ ownRange n v ≤ (paramRange n).2 := by
  refine clampTo_mem ?_ v
  have all : ∀ m ∈ parameterNumbers, (paramRange m).1 ≤ (paramRange m).2 := by decide
  exact all n (mem_parameterNumbers.2 hn)

/-- A number without a pair is written by its own range alone. -/
theorem Params.write_of_alone (p : Params) {n : Nat} (h : n ≠ 1 ∧ n ≠ 2 ∧ n ≠ 15 ∧ n ≠ 16) (v : Nat) :
    p.write n v = p.put n (ownRange n v) := by
  obtain ⟨h1, h2, h15, h16⟩ := h
  simp only [Params.write]

/-- A write leaves the parameters that are neither the number written nor its pair. -/
theorem Params.get_write (p : Params) {n : Nat} (hn : 1 ≤ n ∧ n ≤ 21) (v : Nat) {m : Nat} (h : m ≠ n)
    (hpair : m ≠ pairOf n) : (p.write n v).get m = p.get m := by
  by_cases alone : n ≠ 1 ∧ n ≠ 2 ∧ n ≠ 15 ∧ n ≠ 16
  · rw [Params.write_of_alone p alone, Params.get_put p hn, if_neg h]
  · have paired : n = 1 ∨ n = 2 ∨ n = 15 ∨ n = 16 := by omega
    have twice : ∀ a b x y, (1 ≤ a ∧ a ≤ 21) → (1 ≤ b ∧ b ≤ 21) → m ≠ a → m ≠ b →
        ((p.put a x).put b y).get m = p.get m := fun a b x y ha hb ma mb => by
      rw [Params.get_put _ hb, if_neg mb, Params.get_put _ ha, if_neg ma]
    rcases paired with rfl | rfl | rfl | rfl
    · exact twice 1 2 _ _ (by decide) (by decide) h hpair
    · exact twice 1 2 p.batteryLowPct _ (by decide) (by decide) hpair h
    · exact twice 15 16 (ownRange 15 v) (if p.lostTime ≤ ownRange 15 v then ownRange 15 v + 1 else p.lostTime) (by decide) (by decide) h hpair
    · exact twice 15 16 p.fadeTime _ (by decide) (by decide) hpair h

/-- A write keeps the parameters lawful: own range, then pairs (R77). -/
theorem Params.write_lawful {p : Params} (hp : p.lawful) {n : Nat} (hn : 1 ≤ n ∧ n ≤ 21) (v : Nat) :
    (p.write n v).lawful := by
  obtain ⟨range, battery, radio⟩ := hp
  have own := ownRange_mem hn v
  by_cases alone : n ≠ 1 ∧ n ≠ 2 ∧ n ≠ 15 ∧ n ≠ 16
  · refine ⟨?_, ?_, ?_⟩
    · rw [Params.write_of_alone p alone]
      exact Params.inRange_put range hn own
    · have low := p.get_write hn v (m := 1) (by omega) (by simp only [pairOf]; grind)
      have crit := p.get_write hn v (m := 2) (by omega) (by simp only [pairOf]; grind)
      exact crit.trans_lt (battery.trans_eq low.symm)
    · have fade := p.get_write hn v (m := 15) (by omega) (by simp only [pairOf]; grind)
      have lost := p.get_write hn v (m := 16) (by omega) (by simp only [pairOf]; grind)
      exact fade.trans_lt (radio.trans_eq lost.symm)
  · have low : 1 ≤ p.batteryLowPct ∧ p.batteryLowPct ≤ 99 := range 1 (by decide)
    have crit : 0 ≤ p.batteryCritPct ∧ p.batteryCritPct ≤ 98 := range 2 (by decide)
    have fade : 2 ≤ p.fadeTime ∧ p.fadeTime ≤ 40 := range 15 (by decide)
    have lost : 4 ≤ p.lostTime ∧ p.lostTime ≤ 240 := range 16 (by decide)
    have paired : n = 1 ∨ n = 2 ∨ n = 15 ∨ n = 16 := by omega
    rcases paired with rfl | rfl | rfl | rfl <;> simp only [paramRange] at own
    · refine ⟨Params.inRange_put (n := 2) (Params.inRange_put (n := 1) range (by decide) own) (by decide) ?_, ?_, radio⟩
      · simp only [paramRange]
        split <;> omega
      · simp only [Params.write]
        split <;> omega
    · refine ⟨Params.inRange_put (n := 2) range (by decide) ?_, ?_, radio⟩
      · simp only [paramRange]
        split <;> omega
      · simp only [Params.write]
        split <;> omega
    · refine ⟨Params.inRange_put (n := 16) (Params.inRange_put (n := 15) range (by decide) own) (by decide) ?_,
        battery, ?_⟩
      · simp only [paramRange]
        split <;> omega
      · simp only [Params.write]
        split <;> omega
    · refine ⟨Params.inRange_put (n := 16) range (by decide) ?_, battery, ?_⟩
      · simp only [paramRange]
        split <;> omega
      · simp only [Params.write]
        split <;> omega

theorem Params.defaults_lawful : Params.defaults.lawful := by decide

/-! ## Parameters and clocks through the moves -/

/-- The parameters and the clocks in their ranges. -/
abbrev State.clockLaws (s : State) : Prop := s.params.lawful ∧ s.timeLaw

theorem State.clockLaws_writeParameter {s : State} (hs : s.clockLaws) {number : Nat}
    (range : 1 ≤ number ∧ number ≤ 21) (v : Nat) : (s.writeParameter number v).clockLaws := by
  refine State.onlyMonitorAndList_law (P := State.clockLaws) (s.writeParameter_frame number v)
    (fun _ _ _ _ h => h) ?_
  obtain ⟨hp, hq, hm, hd, hc, hsch, hw⟩ := hs
  have lawful := Params.write_lawful hp range v
  refine ⟨lawful, hq, hm, hd, hc, hsch, ?_⟩
  have window : 10 ≤ (s.params.write number v).dropoutWindow := (lawful.1 13 (by decide)).1
  simp only [State.writeTables]
  split
  · omega
  · next h13 =>
    have same : (s.params.write number v).dropoutWindow = s.params.dropoutWindow :=
      s.params.get_write range v (m := 13) (fun h => h13 h.symm) (by
        simp only [pairOf]
        split <;> decide)
    exact hw.trans_eq same.symm

theorem State.clockLaws_tickWindow {s : State} (hs : s.clockLaws) : s.tickWindow.clockLaws := by
  simp only [State.tickWindow]
  split
  · refine State.onlyMonitorAndList_law s.endDropoutWindow_frame (fun _ _ _ _ h => h)
      (State.windowTables_law (fun u _ hu => ?_) hs)
    obtain ⟨hp, hq, hm, hd, hc, hsch, -⟩ := hu
    have window : 10 ≤ u.params.dropoutWindow := (hp.1 13 (by decide)).1
    have started : 0 < u.params.dropoutWindow := by omega
    exact ⟨hp, hq, hm, hd, hc, hsch, started⟩
  · next short =>
    obtain ⟨hp, hq, hm, hd, hc, hsch, hw⟩ := hs
    exact ⟨hp, hq, hm, hd, hc, hsch, Nat.not_le.1 short⟩

theorem State.clockLaws_ofStraps (straps : Straps) (protect : Bool) (m : Memory) (count : Nat) (q : List Instr) :
    (State.ofStraps straps protect m count q).clockLaws := by
  refine ⟨Params.defaults_lawful, ?_, ?_, ?_, ?_, ?_, ?_⟩ <;> simp [State.ofStraps, Params.defaults]

theorem State.clockLaws_requested {s t : State} (h : s.Requested t) (hs : s.clockLaws) : t.clockLaws := by
  have work : ∀ {u v : State}, u.onlyMonitorAndList v → u.clockLaws → v.clockLaws := fun hf hu =>
    State.onlyMonitorAndList_law hf (fun _ _ _ _ h => h) hu
  cases h with
  | apart core intake links profile lines =>
    rw [core]
    exact hs
  | bound n pack valid new =>
    refine work (s.bindSeat_frame ..) ?_
    rw [s.bindTables_eq]
    exact hs
  | released n => exact work (s.releaseSeat_frame n) hs
  | grouped f group => exact State.mapSeats_law f (fun _ _ h => h) hs
  | restarted setup => exact work s.restartBound_frame (State.restartTables_law (fun _ _ _ _ h => h) hs)
  | curved c valid setup => exact State.mapSeats_law (P := State.clockLaws) _ (fun _ _ h => h) hs
  | written number v range => exact State.clockLaws_writeParameter hs range v
  | seen x picked enabled => exact hs
  | acked x picked held enabled => exact work (s.listWork_acknowledgeAll ..).frame hs
  | started length range setup idle =>
    refine work (State.onlyMonitorAndList_startMonitors _) ?_
    obtain ⟨hp, hq, hm, hd, -, -, hw⟩ := hs
    exact ⟨hp, hq, hm, hd, Nat.zero_le _, range, hw⟩
  | scheduled length range =>
    refine work (State.onlyMonitorAndList_evaluate ..) ?_
    obtain ⟨hp, hq, hm, hd, hc, -, hw⟩ := hs
    exact ⟨hp, hq, hm, hd, hc, range, hw⟩
  | recessed sitting => exact work (State.onlyMonitorAndList_recessMonitors _) hs
  | resumed recess => exact work (State.onlyMonitorAndList_evaluate ..) hs
  | ended => exact work (State.onlyMonitorAndList_mapMonitors ..) hs
  | granted n sitting bound off room => exact work (State.onlyMonitorAndList_granted ..) hs
  | replaced n oldest rest sitting bound off floor => exact work (State.onlyMonitorAndList_replaced ..) hs
  | withdrawn n sitting => exact work (State.onlyMonitorAndList_withdrawn ..) hs
  | cleared sitting => exact work (State.onlyMonitorAndList_withdrawn ..) hs

theorem State.processReport_frame (s : State) (rep : Report) : ∃ v l,
    State.onlyMonitorAndList { s with seats := v, strays := l } (s.processReport rep) := by
  simp only [State.processReport]
  split
  · exact ⟨_, _, s.changeSeat_spec ..⟩
  · exact ⟨s.seats, _, State.onlyMonitorAndList_refl _⟩

theorem State.minuteSeats_frame (s : State) (who : Seat → Bool) : State.onlyMonitorAndList
    (s.mapSeats fun n r => if who n then r.ageMinute s.params.estimatorWindow else r) (s.minuteSeats who) := by
  simp only [State.minuteSeats]
  exact State.onlyMonitorAndList_evaluate ..

/-- Every move keeps the parameters and the clocks in their ranges. -/
theorem State.clockLaws_moves {whole : Prop} {s t : State} (h : State.Moves whole s t) (hs : s.clockLaws) :
    t.clockLaws := by
  have work : ∀ {u v : State}, u.onlyMonitorAndList v → u.clockLaws → v.clockLaws := fun hf hu =>
    State.onlyMonitorAndList_law hf (fun _ _ _ _ h => h) hu
  cases h with
  | requested h => exact State.clockLaws_requested h hs
  | outside core intake links profile store enabled =>
    rw [core]
    exact hs
  | reset straps protect g => exact State.clockLaws_ofStraps ..
  | picked p rep rest fifo =>
    obtain ⟨v, l, frame⟩ := State.processReport_frame { s.putPort p { s.port p with fifo := rest } with lastServed := p } rep
    exact work frame hs
  | tookValues => exact State.takeSetValues_law (fun _ _ _ h => h) hs
  | advanced who => exact work (s.changeSeats_spec _) (State.mapSeats_law _ (fun _ _ h => h) hs)
  | counted kinds => exact work (s.onlyMonitorAndList_evaluate ..) hs
  | quarterPhase q range => exact ⟨hs.1, range, hs.2.2⟩
  | clock =>
    simp only [State.tickClock]
    split
    · exact hs
    · obtain ⟨hp, hq, hm, hd, -, hsch, hw⟩ := hs
      exact ⟨hp, hq, hm, hd, Nat.min_le_left .., hsch, hw⟩
  | window => exact State.clockLaws_tickWindow hs
  | timers =>
    simp only [State.tickTimers]
    split <;> exact hs
  | seconds =>
    obtain ⟨hp, hq, -, -, hc, hsch, hw⟩ := hs
    exact ⟨hp, hq, Nat.mod_lt _ (by decide), Nat.min_le_left .., hc, hsch, hw⟩
  | escalated n k r record runs => exact hs
  | aged who => exact work (s.minuteSeats_frame who) (State.mapSeats_law _ (fun _ _ h => h) hs)
  | unseen x => exact hs
  | loaded img formed loading =>
    exact State.applyImage_law img (fun _ _ v range h => State.clockLaws_writeParameter h range v)
      (fun _ _ _ _ _ _ _ _ h => h) hs

end Sys2Proof.Machine
end

section
/-! The pack binding map, the stray list and the floor list through the moves (R9, R11, R129). -/

namespace Sys2Proof.Machine

/-! ## What the composite operations make of the seats, the strays and the floor -/

theorem State.seat_bindTables (s : State) {n : Seat} (pack : PackId) {from? : Option Seat} (h : from? ≠ some n)
    (m : Seat) : (s.bindTables n pack from?).seat m
      = if m = n then { s.seat n with pack := some pack }.restart
        else if from? = some m then (s.seat m).release else s.seat m := by
  cases from? with
  | none => simp only [State.bindTables, State.dropStray]; exact State.seat_putSeat ..
  | some k =>
    have hk : n ≠ k := fun e => h (congrArg some e.symm)
    have read : (s.bindTables n pack (some k)).seat m
        = (((s.putSeat k (s.seat k).release).leaveFloor k).putSeat n
            { (s.putSeat k (s.seat k).release).seat n with pack := some pack }.restart).seat m := rfl
    rw [read, State.seat_putSeat, State.seat_putSeat, if_neg hk]
    split
    · rfl
    · have off : ((s.putSeat k (s.seat k).release).leaveFloor k).seat m = (s.putSeat k (s.seat k).release).seat m := rfl
      rw [off, State.seat_putSeat]
      by_cases hm : m = k
      · simp [hm]
      · simp [hm, Ne.symm hm]

theorem State.strays_bindTables (s : State) (n : Seat) (pack : PackId) (from? : Option Seat) :
    (s.bindTables n pack from?).strays = s.strays.filter fun t => t.pack != pack := by
  cases from? <;> rfl

theorem State.floor_bindTables (s : State) (n : Seat) (pack : PackId) (from? : Option Seat) :
    (s.bindTables n pack from?).floor = s.floor.filter fun e => from? != some e.seat := by
  cases from? with
  | none => exact (List.filter_eq_self.2 fun _ _ => rfl).symm
  | some k =>
    change (s.floor.filter fun e => e.seat != k) = _
    refine List.filter_congr fun e _ => ?_
    change (!(e.seat == k)) = !(some k == some e.seat)
    rw [Option.some_beq_some, BEq.comm]

theorem State.seat_releaseTables (s : State) (n m : Seat) :
    (s.releaseTables n).seat m = if m = n then (s.seat n).release else s.seat m := State.seat_putSeat ..

theorem State.seat_restartTables (s : State) (n : Seat) :
    s.restartTables.seat n = if (s.seat n).pack.isSome then (s.seat n).restart else s.seat n := by
  have read : s.restartTables.seat n = (s.mapSeats fun _ r => if r.pack.isSome then r.restart else r).seat n := by
    simp only [State.restartTables, State.seat, State.mapPorts]
  rw [read, State.seat_mapSeats]

theorem State.seat_writeTables (s : State) (number v : Nat) (n : Seat) :
    (s.writeTables number v).seat n
      = if number = 5 then { s.seat n with est := (s.seat n).est.restartWindow } else s.seat n := by
  by_cases h : number = 5
  · have read : (s.writeTables number v).seat n = s.restartWindows.seat n := by
      simp only [State.writeTables, h, if_true, State.seat]
    rw [read, State.restartWindows, State.seat_mapSeats, if_pos h]
  · simp only [State.writeTables, h, if_false, State.seat]

theorem State.seat_writeParameter (s : State) (number v : Nat) (n : Seat) :
    (s.writeParameter number v).seat n
      = if number = 5 then { s.seat n with est := (s.seat n).est.restartWindow } else s.seat n := by
  rw [State.onlyMonitorAndList_seat (s.writeParameter_frame number v), State.seat_writeTables]

theorem State.seat_windowTables (s : State) (n : Seat) :
    s.windowTables.seat n = { s.seat n with dropouts := 0 } := by
  have read : s.windowTables.seat n = (s.mapSeats fun _ r => { r with dropouts := 0 }).seat n := by
    simp only [State.windowTables, State.seat]
  rw [read, State.seat_mapSeats]

theorem SeatRecord.rebind_pack (pack : Option PackId) (group : Nat) (r : SeatRecord) :
    (r.rebind pack group).pack = pack := by
  cases pack <;> rfl

theorem State.seat_imageTables (s : State) (img : List Byte) (n : Seat) :
    (s.imageTables img).seat n = (s.seat n).rebind (imagePack img n) (imageGroup img n) := by
  have read : (s.imageTables img).seat n
      = (s.mapSeats fun n r => r.rebind (imagePack img n) (imageGroup img n)).seat n := by
    simp only [State.imageTables, State.seat]
  rw [read, State.seat_mapSeats]

/-- After an image a seat is restarted or released under its bindings (R153). -/
theorem State.seat_applyImage (s : State) (img : List Byte) (n : Seat) : (s.applyImage img).seat n
    = ((s.applyParameters img).seat n).rebind (imagePack img n) (imageGroup img n) := by
  rw [State.applyImage_eq]
  generalize hw : s.imageBound img = w
  change w.seat n = _
  rw [← hw, State.imageBound, State.onlyMonitorAndList_seat (State.applyBindings_frame ..)]
  generalize s.applyParameters img = u
  exact State.seat_imageTables ..

theorem State.strays_applyParameters (s : State) (img : List Byte) : (s.applyParameters img).strays = s.strays := by
  refine State.applyParameters_law (P := fun u => u.strays = s.strays) img (fun u number v _ hu => ?_) rfl
  rw [(u.writeParameter_frame number v).1]
  exact hu

theorem State.strays_applyImage (s : State) (img : List Byte) :
    (s.applyImage img).strays = s.strays.filter fun t => !(imagePacks img).contains t.pack := by
  have bound : (s.imageBound img).strays = s.strays := by
    rw [State.imageBound, (State.applyBindings_frame ..).1]
    simp only [State.imageTables, State.mapSeats]
    exact s.strays_applyParameters img
  rw [State.applyImage_eq]
  generalize s.imageBound img = w at bound
  change (w.strays.filter fun t => !(imagePacks img).contains t.pack) = _
  rw [bound]

/-! ## Packs through the changes of one seat -/

theorem SeatRecord.pack_closeSequence (r : SeatRecord) : r.closeSequence.pack = r.pack := by
  simp only [SeatRecord.closeSequence]
  split <;> rfl

theorem SeatRecord.pack_take (curve : Vector Breakpoint 8) (w : Nat) (r : SeatRecord) (rep : Report) (missed : Nat) :
    (r.take curve w rep missed).pack = r.pack := r.pack_closeSequence

theorem SeatRecord.pack_report (curve : Vector Breakpoint 8) (w : Nat) (r : SeatRecord) (rep : Report) :
    (r.report curve w rep).pack = r.pack := by
  simp only [SeatRecord.report]
  split
  · exact r.pack_take ..
  · exact r.pack_take ..
  · exact r.pack_take ..
  · rfl
  · rfl

theorem SeatRecord.pack_advance (fade lost : Nat) (r : SeatRecord) : (r.advance fade lost).pack = r.pack := by
  have fading : ∀ q : SeatRecord, q.enterFading.pack = q.pack := fun q => q.pack_closeSequence
  simp only [SeatRecord.advance]
  split
  · rfl
  · split <;> split <;> first | exact fading _ | rfl

theorem SeatRecord.pack_ageMinute (w : Nat) (r : SeatRecord) : (r.ageMinute w).pack = r.pack := by
  simp only [SeatRecord.ageMinute]
  split <;> rfl

/-! ## The binding map and the stray list -/

/-- The binding map and the stray list lawful together. -/
abbrev State.bindLaws (s : State) : Prop := s.bindingLaw ∧ s.strayLaw

theorem State.bindLaws_of_packs {s t : State} (packs : ∀ n, (t.seat n).pack = (s.seat n).pack)
    (strays : t.strays = s.strays) (hs : s.bindLaws) : t.bindLaws := by
  simp only [State.bindLaws, State.bindingLaw, State.strayLaw, packs, strays]
  exact hs

/-- A stray list with entries dropped, and no pack of it newly bound, stays lawful. -/
theorem State.strayLaw_of_sublist {s t : State} (sub : t.strays.Sublist s.strays)
    (free : ∀ e ∈ t.strays, ∀ n, (t.seat n).pack ≠ some e.pack) (hs : s.strayLaw) : t.strayLaw :=
  ⟨sub.length_le.trans hs.1, (sub.map Stray.pack).nodup hs.2.1, free⟩

theorem noteStray_packs_nodup {strays : List Stray} (h : (strays.map Stray.pack).Nodup) (pack : PackId) (level : Nat)
    (receiver : Port) (now : Nat) : ((noteStray strays pack level receiver now).map Stray.pack).Nodup := by
  simp only [noteStray]
  refine ((List.take_sublist _ _).map Stray.pack).nodup ?_
  simp only [List.map_cons, List.nodup_cons, List.mem_map, List.mem_filter]
  refine ⟨?_, (List.filter_sublist.map Stray.pack).nodup h⟩
  rintro ⟨t, ⟨-, ht⟩, htp⟩
  simp [htp] at ht

theorem mem_noteStray {strays : List Stray} {pack : PackId} {level : Nat} {receiver : Port} {now : Nat} {t : Stray}
    (h : t ∈ noteStray strays pack level receiver now) :
    t ∈ strays ∨ t.pack = pack ∧ t.level = level ∧ t.heardAt = now
      ∧ (t.count = 1 ∨ ∃ q ∈ strays, t.count = bump 255 q.count) := by
  simp only [noteStray] at h
  rcases List.mem_cons.1 (List.mem_of_mem_take h) with rfl | h
  · refine .inr ⟨rfl, rfl, rfl, ?_⟩
    dsimp only
    split
    · next q hq => exact .inr ⟨q, List.mem_of_find?_eq_some hq, rfl⟩
    · exact .inl rfl
  · exact .inl (List.mem_filter.1 h).1

theorem State.bindLaws_processReport {s : State} (hs : s.bindLaws) (rep : Report) : (s.processReport rep).bindLaws := by
  simp only [State.processReport]
  split
  · next n _ =>
    refine State.bindLaws_of_packs (fun m => ?_) ?_ hs
    · rw [State.seat_changeSeat]
      split
      · next h => rw [h, SeatRecord.pack_report]
      · rfl
    · rw [(s.changeSeat_spec ..).1]
      rfl
  · next free =>
    obtain ⟨hb, hlen, hnodup, hfree⟩ := hs
    refine ⟨hb, List.length_take_le .., noteStray_packs_nodup hnodup .., fun t ht n => ?_⟩
    rcases mem_noteStray ht with ht | ⟨hp, -⟩
    · exact hfree t ht n
    · rw [hp]
      exact (State.seatOfPack_eq_none s _).1 free n

theorem State.bindLaws_bindTables {s : State} (hs : s.bindLaws) {n : Seat} {pack : PackId}
    (valid : validPack pack = true) (new : s.seatOfPack pack ≠ some n) :
    (s.bindTables n pack (s.seatOfPack pack)).bindLaws := by
  obtain ⟨hb, hstray⟩ := hs
  have others : ∀ m, m ≠ n → ((s.bindTables n pack (s.seatOfPack pack)).seat m).pack
      = if s.seatOfPack pack = some m then none else (s.seat m).pack := fun m hm => by
    rw [s.seat_bindTables pack new, if_neg hm]
    split <;> rfl
  have own : ((s.bindTables n pack (s.seatOfPack pack)).seat n).pack = some pack := by
    rw [s.seat_bindTables pack new, if_pos rfl]
    rfl
  have freed : ∀ m, m ≠ n → ((s.bindTables n pack (s.seatOfPack pack)).seat m).pack ≠ some pack := fun m hm => by
    rw [others m hm]
    split
    · simp
    · next h => exact fun hp => h ((State.seatOfPack_eq_some hb pack m).2 hp)
  refine ⟨⟨fun i j hij hi => ?_, fun m p hp => ?_⟩, ?_⟩
  · by_cases in' : i = n
    · by_cases jn : j = n
      · rw [in', jn]
      · rw [in', own] at hij
        exact absurd hij.symm (freed j jn)
    · by_cases jn : j = n
      · rw [jn, own] at hij
        exact absurd hij (freed i in')
      · rw [others i in'] at hij hi
        rw [others j jn] at hij
        split at hij
        · next h => exact absurd (if_pos h) hi
        · next h =>
          rw [if_neg h] at hi
          split at hij
          · exact absurd hij hi
          · exact hb.1 i j hij hi
  · by_cases hm : m = n
    · rw [hm, own] at hp
      cases hp
      exact valid
    · rw [others m hm] at hp
      split at hp
      · cases hp
      · exact hb.2 m p hp
  · refine State.strayLaw_of_sublist (by rw [State.strays_bindTables]; exact List.filter_sublist) (fun t ht m => ?_) hstray
    rw [State.strays_bindTables] at ht
    obtain ⟨ht, hne⟩ := List.mem_filter.1 ht
    by_cases hm : m = n
    · rw [hm, own]
      intro h
      simp [Option.some.inj h] at hne
    · rw [others m hm]
      split
      · simp
      · exact hstray.2.2 t ht m

/-- Releasing packs keeps the map and the stray list lawful. -/
theorem State.bindLaws_of_released {s t : State}
    (packs : ∀ n, (t.seat n).pack = (s.seat n).pack ∨ (t.seat n).pack = none) (strays : t.strays = s.strays)
    (hs : s.bindLaws) : t.bindLaws := by
  obtain ⟨hb, hlen, hnodup, hfree⟩ := hs
  refine ⟨⟨fun i j hij hi => ?_, fun n p hp => ?_⟩, strays ▸ hlen, strays ▸ hnodup, fun e he n => ?_⟩
  · rcases packs i with h | h
    · rcases packs j with g | g
      · rw [h] at hij hi
        exact hb.1 i j (hij.trans g) hi
      · exact absurd (hij.trans g) hi
    · exact absurd h hi
  · rcases packs n with h | h
    · exact hb.2 n p (h ▸ hp)
    · simp [h] at hp
  · rcases packs n with h | h
    · rw [h]
      exact hfree e (strays ▸ he) n
    · simp [h]

theorem imagePack_valid {img : List Byte} (formed : imageFormed img = true) {n : Seat} {p : PackId}
    (h : imagePack img n = some p) : validPack p = true := by
  simp only [imageFormed, Bool.and_eq_true, List.all_eq_true] at formed
  have full : (p != 0xFFFFFF) = true := formed.1.2 p (List.mem_filterMap.2 ⟨n, mem_allSeats n, h⟩)
  simp only [imagePack] at h
  split at h
  · cases h
  · next zero =>
    cases h
    exact Bool.and_eq_true_iff.2 ⟨bne_iff_ne.2 zero, full⟩

theorem State.bindLaws_applyImage {s : State} (hs : s.bindLaws) {img : List Byte} (formed : imageFormed img = true) :
    (s.applyImage img).bindLaws := by
  have packs : ∀ n, ((s.applyImage img).seat n).pack = imagePack img n := fun n => by
    rw [State.seat_applyImage, SeatRecord.rebind_pack]
  refine ⟨State.bindingLaw_of_packs ?_ ?_, ?_⟩
  · simp only [packs]
    simp only [imageFormed, Bool.and_eq_true, decide_eq_true_eq] at formed
    exact formed.2
  · simp only [packs, List.all_eq_true]
    intro p hp
    obtain ⟨n, -, hn⟩ := List.mem_filterMap.1 hp
    exact imagePack_valid formed hn
  · refine State.strayLaw_of_sublist (by rw [State.strays_applyImage]; exact List.filter_sublist) (fun e he n hn => ?_)
      hs.2
    rw [packs] at hn
    rw [State.strays_applyImage] at he
    have absent := (List.mem_filter.1 he).2
    have present : e.pack ∈ imagePacks img := List.mem_filterMap.2 ⟨n, mem_allSeats n, hn⟩
    simp [present] at absent

theorem State.seat_ofStraps (straps : Straps) (protect : Bool) (m : Memory) (count : Nat) (q : List Instr)
    (n : Seat) : (State.ofStraps straps protect m count q).seat n = .reset := by
  simp [State.seat, State.ofStraps]

theorem State.bindLaws_requested {s t : State} (h : s.Requested t) (hs : s.bindLaws) : t.bindLaws := by
  have work : ∀ {u v : State}, u.onlyMonitorAndList v → u.bindLaws → v.bindLaws := fun hf hu =>
    State.onlyMonitorAndList_law hf (fun _ _ _ _ h => h) hu
  cases h with
  | apart core intake links profile lines =>
    rw [core]
    exact hs
  | bound n pack valid new => exact work (s.bindSeat_frame ..) (State.bindLaws_bindTables hs valid new)
  | released n =>
    refine work (s.releaseSeat_frame n) (State.bindLaws_of_released (s := s) (fun m => ?_) rfl hs)
    rw [State.seat_releaseTables]
    split
    · exact .inr rfl
    · exact .inl rfl
  | grouped f group =>
    refine State.bindLaws_of_packs (fun n => ?_) (s.mapSeats_strays f) hs
    rw [State.seat_mapSeats]
    rcases group n (s.seat n) with h | ⟨g, -, h⟩ <;> rw [h]
  | restarted setup =>
    refine work s.restartBound_frame ⟨?_, Nat.zero_le _, List.nodup_nil, fun e he => absurd he List.not_mem_nil⟩
    have packs : ∀ n, (s.restartTables.seat n).pack = (s.seat n).pack := fun n => by
      rw [s.seat_restartTables]
      split <;> rfl
    simp only [State.bindingLaw, packs]
    exact hs.1
  | curved c valid setup =>
    refine State.bindLaws_of_packs (s := { s with curve := c }) (fun n => ?_) (State.mapSeats_strays ..) hs
    rw [State.restartEstimators, State.seat_mapSeats]
  | written number v range =>
    refine State.bindLaws_of_packs (fun n => ?_) ?_ hs
    · rw [State.seat_writeParameter]
      split <;> rfl
    · rw [(s.writeParameter_frame number v).1]
      rfl
  | seen x picked enabled => exact hs
  | acked x picked held enabled => exact work (s.listWork_acknowledgeAll ..).frame hs
  | started length range setup idle => exact work (State.onlyMonitorAndList_startMonitors _) hs
  | scheduled length range => exact work (State.onlyMonitorAndList_evaluate ..) hs
  | recessed sitting => exact work (State.onlyMonitorAndList_recessMonitors _) hs
  | resumed recess => exact work (State.onlyMonitorAndList_evaluate ..) hs
  | ended => exact work (State.onlyMonitorAndList_mapMonitors ..) hs
  | granted n sitting bound off room => exact work (State.onlyMonitorAndList_granted ..) hs
  | replaced n oldest rest sitting bound off floor => exact work (State.onlyMonitorAndList_replaced ..) hs
  | withdrawn n sitting => exact work (State.onlyMonitorAndList_withdrawn ..) hs
  | cleared sitting => exact work (State.onlyMonitorAndList_withdrawn ..) hs

/-- Every move keeps the binding map and the stray list lawful (R9, R11). -/
theorem State.bindLaws_moves {whole : Prop} {s t : State} (h : State.Moves whole s t) (hs : s.bindLaws) :
    t.bindLaws := by
  have work : ∀ {u v : State}, u.onlyMonitorAndList v → u.bindLaws → v.bindLaws := fun hf hu =>
    State.onlyMonitorAndList_law hf (fun _ _ _ _ h => h) hu
  have seats : ∀ f : Seat → SeatRecord → SeatRecord, (∀ n r, (f n r).pack = r.pack) → (s.mapSeats f).bindLaws :=
    fun f hf => State.bindLaws_of_packs (fun n => by rw [State.seat_mapSeats, hf]) (s.mapSeats_strays f) hs
  cases h with
  | requested h => exact State.bindLaws_requested h hs
  | outside core intake links profile store enabled =>
    rw [core]
    exact hs
  | reset straps protect g =>
    simp only [State.bindLaws, State.bindingLaw, State.strayLaw, State.seat_ofStraps]
    exact ⟨⟨by simp [SeatRecord.reset], by simp [SeatRecord.reset]⟩, Nat.zero_le _, List.nodup_nil,
      fun e he => absurd he List.not_mem_nil⟩
  | picked p rep rest fifo => exact State.bindLaws_processReport (by exact hs) rep
  | tookValues => exact State.takeSetValues_law (fun _ _ _ h => h) hs
  | advanced who =>
    refine work (s.changeSeats_spec _) (seats _ fun n r => ?_)
    split
    · exact r.pack_advance ..
    · rfl
  | counted kinds => exact work (s.onlyMonitorAndList_evaluate ..) hs
  | quarterPhase q range => exact hs
  | clock =>
    simp only [State.tickClock]
    split <;> exact hs
  | window =>
    simp only [State.tickWindow]
    split
    · refine work s.endDropoutWindow_frame (State.bindLaws_of_packs (fun n => ?_) ?_ hs)
      · rw [State.seat_windowTables]
      · exact State.windowTables_law (P := fun u => u.strays = s.strays) (fun _ _ h => h) rfl
    · exact hs
  | timers =>
    simp only [State.tickTimers]
    split <;> exact hs
  | seconds => exact hs
  | escalated n k r record runs => exact hs
  | aged who =>
    refine work (s.minuteSeats_frame who) (seats _ fun n r => ?_)
    split
    · exact r.pack_ageMinute _
    · rfl
  | unseen x => exact hs
  | loaded img formed loading => exact State.bindLaws_applyImage hs formed

end Sys2Proof.Machine
end

section
/-! The floor list through the moves (R129), and the settled statement on bindings, strays and the floor. -/

namespace Sys2Proof.Machine

/-- A floor list with entries taken off stays lawful while it fits FLOOR_LIMIT, the seats left on it stay bound and
the sitting clock has not gone back. -/
theorem State.floorLaw_of_sublist {s t : State} (hs : s.floorLaw) (sub : t.floor.Sublist s.floor)
    (limit : t.floor.length ≤ t.params.floorLimit) (idle : t.sitting ≠ .sitting → t.floor = [])
    (bound : ∀ e ∈ t.floor, s.bound e.seat = true → t.bound e.seat = true)
    (clock : t.floor = [] ∨ s.clock ≤ t.clock) : t.floorLaw := by
  obtain ⟨-, hnodup, -, hall⟩ := hs
  refine ⟨limit, (sub.map FloorEntry.seat).nodup hnodup, idle, fun e he => ?_⟩
  obtain ⟨hb, hg⟩ := hall e (sub.subset he)
  refine ⟨bound e he hb, ?_⟩
  rcases clock with empty | le
  · simp [empty] at he
  · exact hg.trans le

/-- The same floor list in the same sitting state, the seats on it still bound. -/
theorem State.floorLaw_of_bound {s t : State} (hs : s.floorLaw) (floor : t.floor = s.floor)
    (params : t.params = s.params) (sitting : t.sitting = s.sitting) (clock : t.clock = s.clock)
    (bound : ∀ n, s.bound n = true → t.bound n = true) : t.floorLaw :=
  State.floorLaw_of_sublist hs (floor ▸ List.Sublist.refl _) (by rw [floor, params]; exact hs.1)
    (by rw [floor, sitting]; exact hs.2.2.1) (fun e _ => bound e.seat) (.inr clock.ge)

/-- An empty floor list is lawful. -/
theorem State.floorLaw_of_nil {t : State} (h : t.floor = []) : t.floorLaw :=
  ⟨by simp [h], by simp [h], fun _ => h, by simp [h]⟩

theorem State.floorLaw_frame {s t : State} (h : s.onlyMonitorAndList t) (hs : s.floorLaw) : t.floorLaw :=
  State.onlyMonitorAndList_law h (fun _ _ _ _ h => h) hs

/-- A bound seat that is not on the floor joins it where there is room (R130). -/
theorem State.floorLaw_joinFloor {s : State} (hs : s.floorLaw) {n : Seat} (sitting : s.sitting = .sitting)
    (bound : s.bound n = true) (off : s.onFloor n = false) (room : s.floor.length < s.params.floorLimit) :
    (s.joinFloor n).floorLaw := by
  obtain ⟨-, hnodup, -, hall⟩ := hs
  have absent : n ∉ s.floor.map FloorEntry.seat := by
    simp only [State.onFloor, List.any_eq_false, beq_iff_eq] at off
    simpa using off
  refine ⟨?_, ?_, fun h => absurd sitting h, fun e he => ?_⟩
  · rw [State.joinFloor_floor, List.length_append]
    exact room
  · rw [State.joinFloor_floor, List.map_append]
    exact List.nodup_append.2 ⟨hnodup, List.nodup_singleton _, by
      intro a ha b hb
      obtain rfl : b = n := by simpa using hb
      exact fun h => absent (h ▸ ha)⟩
  · rw [State.joinFloor_floor] at he
    rcases List.mem_append.1 he with he | he
    · exact hall e he
    · cases List.mem_singleton.1 he
      exact ⟨bound, le_rfl⟩

theorem State.floorLaw_writeParameter {s : State} (hs : s.floorLaw) {number : Nat}
    (range : 1 ≤ number ∧ number ≤ 21) (v : Nat) : (s.writeParameter number v).floorLaw := by
  refine State.floorLaw_frame (s.writeParameter_frame number v) ?_
  have packs : ∀ n, s.bound n = true → (s.writeTables number v).bound n = true := fun n hn => by
    rw [State.bound, State.seat_writeTables]
    split <;> exact hn
  by_cases h : number = 20
  · subst h
    have floor : (s.writeTables 20 v).floor = s.floor.drop (s.floor.length - (s.params.write 20 v).floorLimit) := rfl
    refine State.floorLaw_of_sublist hs (by rw [floor]; exact List.drop_sublist ..) ?_ (fun hsit => ?_)
      (fun e _ => packs e.seat) (.inr le_rfl)
    · rw [floor, List.length_drop]
      change _ ≤ (s.params.write 20 v).floorLimit
      omega
    · rw [floor, hs.2.2.1 hsit, List.drop_nil]
  · have floor : (s.writeTables number v).floor = s.floor := if_neg h
    have limit : (s.writeTables number v).params.floorLimit = s.params.floorLimit :=
      s.params.get_write range v (m := 20) (fun e => h e.symm) (by simp only [pairOf]; split <;> decide)
    exact State.floorLaw_of_sublist hs (floor ▸ List.Sublist.refl _) (by rw [floor, limit]; exact hs.1)
      (by rw [floor]; exact hs.2.2.1) (fun e _ => packs e.seat) (.inr le_rfl)

theorem State.floorLaw_bindTables {s : State} (hs : s.floorLaw) {n : Seat} {pack : PackId} {from? : Option Seat}
    (new : from? ≠ some n) : (s.bindTables n pack from?).floorLaw := by
  have sub : (s.bindTables n pack from?).floor.Sublist s.floor := by
    rw [State.floor_bindTables]
    exact List.filter_sublist
  have eq := s.bindTables_eq n pack from?
  have params : (s.bindTables n pack from?).params = s.params := by rw [eq]
  have sitting : (s.bindTables n pack from?).sitting = s.sitting := by rw [eq]
  have clock : (s.bindTables n pack from?).clock = s.clock := by rw [eq]
  refine State.floorLaw_of_sublist hs sub (by rw [params]; exact sub.length_le.trans hs.1) (fun hsit => ?_)
    (fun e he hb => ?_) (.inr clock.ge)
  · rw [sitting] at hsit
    exact List.sublist_nil.1 (hs.2.2.1 hsit ▸ sub)
  · rw [State.floor_bindTables] at he
    have stays : from? ≠ some e.seat := by simpa using (List.mem_filter.1 he).2
    rw [State.bound, s.seat_bindTables pack new]
    split
    · rfl
    · exact hb

theorem State.floorLaw_leaveFloor {s : State} (hs : s.floorLaw) (n : Seat) : (s.leaveFloor n).floorLaw := by
  have sub : (s.leaveFloor n).floor.Sublist s.floor := List.filter_sublist
  exact State.floorLaw_of_sublist hs sub (sub.length_le.trans hs.1)
    (fun h => List.sublist_nil.1 (hs.2.2.1 h ▸ sub)) (fun _ _ h => h) (.inr le_rfl)

theorem State.floorLaw_requested {s t : State} (h : s.Requested t) (hs : s.floorLaw) : t.floorLaw := by
  cases h with
  | apart core intake links profile lines =>
    rw [core]
    exact hs
  | bound n pack valid new => exact State.floorLaw_frame (s.bindSeat_frame ..) (State.floorLaw_bindTables hs new)
  | released n =>
    refine State.floorLaw_frame (s.releaseSeat_frame n) ?_
    have off := State.floorLaw_leaveFloor hs n
    refine State.floorLaw_of_sublist off (List.Sublist.refl _) off.1 off.2.2.1 (fun e he hb => ?_) (.inr le_rfl)
    have stays : e.seat ≠ n := by simpa using (List.mem_filter.1 he).2
    rw [State.bound, s.seat_releaseTables, if_neg stays]
    exact hb
  | grouped f group =>
    refine State.floorLaw_of_bound hs (s.mapSeats_floor f) (s.mapSeats_params f) (s.mapSeats_sitting f)
      (s.mapSeats_clock f) fun n hn => ?_
    rw [State.bound, State.seat_mapSeats]
    rcases group n (s.seat n) with h | ⟨g, -, h⟩ <;> rw [h] <;> exact hn
  | restarted setup =>
    refine State.floorLaw_frame s.restartBound_frame (State.floorLaw_of_nil ?_)
    exact State.restartTables_law (P := fun u => u.floor = []) (fun _ _ _ _ h => h) (hs.2.2.1 (by simp [setup]))
  | curved c valid setup =>
    refine State.floorLaw_of_nil ((State.mapSeats_floor ..).trans (hs.2.2.1 (by simp [setup])))
  | written number v range => exact State.floorLaw_writeParameter hs range v
  | seen x picked enabled => exact hs
  | acked x picked held enabled => exact State.floorLaw_frame (s.listWork_acknowledgeAll ..).frame hs
  | started length range setup idle =>
    exact State.floorLaw_frame (State.onlyMonitorAndList_startMonitors _)
      (State.floorLaw_of_nil (hs.2.2.1 (by simp [setup])))
  | scheduled length range => exact State.floorLaw_frame (State.onlyMonitorAndList_evaluate ..) hs
  | recessed sitting => exact State.floorLaw_frame (State.onlyMonitorAndList_recessMonitors _) (State.floorLaw_of_nil rfl)
  | resumed recess =>
    exact State.floorLaw_frame (State.onlyMonitorAndList_evaluate ..)
      (State.floorLaw_of_nil (hs.2.2.1 (by simp [recess])))
  | ended => exact State.floorLaw_frame (State.onlyMonitorAndList_mapMonitors ..) (State.floorLaw_of_nil rfl)
  | granted n sitting bound off room =>
    exact State.floorLaw_frame (State.onlyMonitorAndList_granted ..) (State.floorLaw_joinFloor hs sitting bound off room)
  | replaced n oldest rest sitting bound off floor =>
    refine State.floorLaw_frame (State.onlyMonitorAndList_replaced ..) ?_
    have len : rest.length + 1 ≤ s.params.floorLimit := by
      have := hs.1
      rwa [floor, List.length_cons] at this
    have freed : State.floorLaw { s with floor := rest } :=
      State.floorLaw_of_sublist hs (by rw [floor]; exact List.sublist_cons_self ..) (Nat.le_of_succ_le len)
        (fun h => absurd sitting h) (fun _ _ h => h) (.inr le_rfl)
    refine State.floorLaw_joinFloor freed sitting bound ?_ len
    simp only [State.onFloor, floor, List.any_cons, Bool.or_eq_false_iff] at off
    exact off.2
  | withdrawn n sitting =>
    exact State.floorLaw_frame (State.onlyMonitorAndList_withdrawn ..) (State.floorLaw_leaveFloor hs n)
  | cleared sitting => exact State.floorLaw_frame (State.onlyMonitorAndList_withdrawn ..) (State.floorLaw_of_nil rfl)

theorem State.floorLaw_processReport {s : State} (hs : s.floorLaw) (rep : Report) : (s.processReport rep).floorLaw := by
  simp only [State.processReport]
  split
  · next n _ =>
    refine State.floorLaw_frame (s.changeSeat_spec ..) (State.floorLaw_of_bound hs rfl rfl rfl rfl fun m hm => ?_)
    rw [State.bound, State.seat_putSeat]
    split
    · next h => rwa [SeatRecord.pack_report, ← h]
    · exact hm
  · exact hs

/-- After an image the floor holds only seats that stay bound (R153). -/
theorem State.floorLaw_applyImage {s : State} (hs : s.floorLaw) (img : List Byte) : (s.applyImage img).floorLaw := by
  have params : (s.applyParameters img).floorLaw :=
    State.applyParameters_law img (fun _ _ v range h => State.floorLaw_writeParameter h range v) hs
  generalize hu : s.applyParameters img = u at params
  have curved : State.floorLaw { u with curve := imageCurve img } := params
  have tables : ∀ w : State, w.floorLaw → (w.imageTables img).floorLaw := fun w hw => by
    have sub : (w.imageTables img).floor.Sublist w.floor := List.filter_sublist
    have same : (w.imageTables img).params = w.params ∧ (w.imageTables img).sitting = w.sitting
        ∧ (w.imageTables img).clock = w.clock :=
      State.imageTables_law (P := fun v => v.params = w.params ∧ v.sitting = w.sitting ∧ v.clock = w.clock) img
        (fun _ _ _ h => h) ⟨rfl, rfl, rfl⟩
    obtain ⟨hp, hsit, hc⟩ := same
    refine State.floorLaw_of_sublist hw sub (by rw [hp]; exact sub.length_le.trans hw.1)
      (fun h => List.sublist_nil.1 (hw.2.2.1 (hsit ▸ h) ▸ sub)) (fun e he _ => ?_) (.inr hc.ge)
    rw [State.bound, State.seat_imageTables, SeatRecord.rebind_pack]
    exact (List.mem_filter.1 he).2
  have bound : (s.imageBound img).floorLaw := by
    rw [State.imageBound, hu]
    exact State.floorLaw_frame (State.applyBindings_frame ..) (tables _ curved)
  rw [State.applyImage_eq]
  generalize s.imageBound img = w at bound
  exact bound

/-- Every move keeps the floor list lawful, the parameters and the clock being in range (R129). -/
theorem State.floorLaw_moves {whole : Prop} {s t : State} (h : State.Moves whole s t) (hc : s.clockLaws)
    (hs : s.floorLaw) : t.floorLaw := by
  have seats : ∀ f : Seat → SeatRecord → SeatRecord, (∀ n r, (f n r).pack = r.pack) → (s.mapSeats f).floorLaw :=
    fun f hf => State.floorLaw_of_bound hs (s.mapSeats_floor f) (s.mapSeats_params f) (s.mapSeats_sitting f)
      (s.mapSeats_clock f) fun n hn => by rwa [State.bound, State.seat_mapSeats, hf]
  cases h with
  | requested h => exact State.floorLaw_requested h hs
  | outside core intake links profile store enabled =>
    rw [core]
    exact hs
  | reset straps protect g => exact State.floorLaw_of_nil rfl
  | picked p rep rest fifo => exact State.floorLaw_processReport (by exact hs) rep
  | tookValues => exact State.takeSetValues_law (fun _ _ _ h => h) hs
  | advanced who =>
    refine State.floorLaw_frame (s.changeSeats_spec _) (seats _ fun n r => ?_)
    split
    · exact r.pack_advance ..
    · rfl
  | counted kinds => exact State.floorLaw_frame (s.onlyMonitorAndList_evaluate ..) hs
  | quarterPhase q range => exact hs
  | clock =>
    simp only [State.tickClock]
    split
    · exact hs
    · have below : s.clock ≤ Config.clockMax := hc.2.2.2.2.1
      have later : s.clock ≤ bump Config.clockMax s.clock := by
        simp only [bump]
        omega
      exact State.floorLaw_of_sublist hs (List.Sublist.refl _) hs.1 hs.2.2.1 (fun _ _ h => h) (.inr later)
  | window =>
    simp only [State.tickWindow]
    split
    · refine State.floorLaw_frame s.endDropoutWindow_frame ?_
      have same : s.windowTables.floor = s.floor ∧ s.windowTables.params = s.params
          ∧ s.windowTables.sitting = s.sitting ∧ s.windowTables.clock = s.clock :=
        State.windowTables_law (P := fun v => v.floor = s.floor ∧ v.params = s.params ∧ v.sitting = s.sitting
          ∧ v.clock = s.clock) (fun _ _ h => h) ⟨rfl, rfl, rfl, rfl⟩
      obtain ⟨hf, hp, hsit, hcl⟩ := same
      refine State.floorLaw_of_bound hs hf hp hsit hcl fun n hn => ?_
      rw [State.bound, State.seat_windowTables]
      exact hn
    · exact hs
  | timers =>
    simp only [State.tickTimers]
    split <;> exact hs
  | seconds => exact hs
  | escalated n k r record runs => exact hs
  | aged who =>
    refine State.floorLaw_frame (s.minuteSeats_frame who) (seats _ fun n r => ?_)
    split
    · exact r.pack_ageMinute _
    · rfl
  | unseen x => exact hs
  | loaded img formed loading => exact State.floorLaw_applyImage hs img

/-- Settles O56: the laws on bindings and strays, and on the floor with the parameters and clocks, hold through every
move and so through every step. -/
theorem stepKeepsBindingsAndFloor : Obligations.StepKeepsBindingsAndFloor := by
  unfold Obligations.StepKeepsBindingsAndFloor
  refine ⟨fun s t hb hst h => ?_, fun s t hp ht hf h => ?_⟩
  · exact law_of_step (law := State.bindLaws) h (fun _ _ move hu => State.bindLaws_moves move hu) ⟨hb, hst⟩
  · exact (law_of_step (law := fun u => u.clockLaws ∧ u.floorLaw) h
      (fun _ _ move hu => ⟨State.clockLaws_moves move hu.1, State.floorLaw_moves move hu.1 hu.2⟩)
      ⟨⟨hp, ht⟩, hf⟩).2

end Sys2Proof.Machine
end

section
/-! The curve, the intake, the EEPROM, the links and the profile controller through the moves (R23 to R25, R42, R105,
R138, R144, R148 to R153). -/

namespace Sys2Proof.Machine

/-! ## The curve -/

theorem State.curve_requested {s t : State} (h : s.Requested t) (hs : curveValid s.curve = true) :
    curveValid t.curve = true := by
  have work : ∀ {u v : State}, u.onlyMonitorAndList v → curveValid u.curve = true → curveValid v.curve = true :=
    fun hf hu => State.onlyMonitorAndList_law (P := fun w => curveValid w.curve = true) hf (fun _ _ _ _ h => h) hu
  cases h with
  | apart core intake links profile lines =>
    rw [core]
    exact hs
  | bound n pack valid new =>
    refine work (s.bindSeat_frame ..) ?_
    rw [s.bindTables_eq]
    exact hs
  | released n => exact work (s.releaseSeat_frame n) hs
  | grouped f group => rwa [s.mapSeats_curve f]
  | restarted setup =>
    exact work s.restartBound_frame
      (State.restartTables_law (P := fun w => curveValid w.curve = true) (fun _ _ _ _ h => h) hs)
  | curved c valid setup =>
    rw [State.restartEstimators, State.mapSeats_curve]
    exact valid
  | written number v range => exact work (s.writeParameter_frame number v) hs
  | seen x picked enabled => exact hs
  | acked x picked held enabled => exact work (s.listWork_acknowledgeAll ..).frame hs
  | started length range setup idle => exact work (State.onlyMonitorAndList_startMonitors _) hs
  | scheduled length range => exact work (State.onlyMonitorAndList_evaluate ..) hs
  | recessed sitting => exact work (State.onlyMonitorAndList_recessMonitors _) hs
  | resumed recess => exact work (State.onlyMonitorAndList_evaluate ..) hs
  | ended => exact work (State.onlyMonitorAndList_mapMonitors ..) hs
  | granted n sitting bound off room => exact work (State.onlyMonitorAndList_granted ..) hs
  | replaced n oldest rest sitting bound off floor => exact work (State.onlyMonitorAndList_replaced ..) hs
  | withdrawn n sitting => exact work (State.onlyMonitorAndList_withdrawn ..) hs
  | cleared sitting => exact work (State.onlyMonitorAndList_withdrawn ..) hs

theorem State.curve_applyImage (s : State) (img : List Byte) : (s.applyImage img).curve = imageCurve img := by
  rw [State.applyImage_eq]
  generalize hw : s.imageBound img = w
  change w.curve = _
  rw [← hw, State.imageBound]
  generalize s.applyParameters img = u
  exact State.onlyMonitorAndList_law (P := fun v => v.curve = imageCurve img) (State.applyBindings_frame ..)
    (fun _ _ _ _ h => h) (State.imageTables_law (P := fun v => v.curve = imageCurve img) img (fun _ _ _ h => h) rfl)

/-- Every move keeps the curve valid (R42). -/
theorem State.curve_moves {whole : Prop} {s t : State} (h : State.Moves whole s t) (hs : curveValid s.curve = true) :
    curveValid t.curve = true := by
  have work : ∀ {u v : State}, u.onlyMonitorAndList v → curveValid u.curve = true → curveValid v.curve = true :=
    fun hf hu => State.onlyMonitorAndList_law (P := fun w => curveValid w.curve = true) hf (fun _ _ _ _ h => h) hu
  cases h with
  | requested h => exact State.curve_requested h hs
  | outside core intake links profile store enabled =>
    rw [core]
    exact hs
  | reset straps protect g => exact (by decide : curveValid defaultCurve = true)
  | picked p rep rest fifo =>
    obtain ⟨v, l, frame⟩ := State.processReport_frame { s.putPort p { s.port p with fifo := rest } with lastServed := p } rep
    exact work frame hs
  | tookValues => exact State.takeSetValues_law (P := fun w => curveValid w.curve = true) (fun _ _ _ h => h) hs
  | advanced who =>
    refine work (s.changeSeats_spec _) ?_
    rwa [State.mapSeats_curve]
  | counted kinds => exact work (s.onlyMonitorAndList_evaluate ..) hs
  | quarterPhase q range => exact hs
  | clock =>
    simp only [State.tickClock]
    split <;> exact hs
  | window =>
    simp only [State.tickWindow]
    split
    · exact work s.endDropoutWindow_frame
        (State.windowTables_law (P := fun w => curveValid w.curve = true) (fun _ _ h => h) hs)
    · exact hs
  | timers =>
    simp only [State.tickTimers]
    split <;> exact hs
  | seconds => exact hs
  | escalated n k r record runs => exact hs
  | aged who =>
    refine work (s.minuteSeats_frame who) ?_
    rwa [State.mapSeats_curve]
  | unseen x => exact hs
  | loaded img formed loading =>
    rw [State.curve_applyImage]
    simp only [imageFormed, Bool.and_eq_true] at formed
    exact formed.1.1

/-! ## The intake -/

theorem PortState.reset_lawful : PortState.reset.lawful := by
  refine ⟨Nat.zero_le _, fun r hr => absurd hr List.not_mem_nil, fun _ => rfl, rfl⟩

/-- A port with a FIFO that has lost reports stays lawful. -/
theorem PortState.lawful_of_sublist {t : PortState} (h : t.lawful) {fifo : List Report} (sub : fifo.Sublist t.fifo) :
    { t with fifo := fifo }.lawful := by
  obtain ⟨hlen, hin, hstop, ha⟩ := h
  exact ⟨sub.length_le.trans hlen, fun r hr => hin r (sub.subset hr), fun hs => List.sublist_nil.1 (hstop hs ▸ sub), ha⟩

theorem State.intakeLaw_ports {s t : State} (h : t.ports = s.ports) (hs : s.intakeLaw) : t.intakeLaw := by
  intro p
  rw [State.port, h]
  exact hs p

theorem State.intakeLaw_requested {s t : State} (h : s.Requested t) (hs : s.intakeLaw) : t.intakeLaw := by
  have work : ∀ {u v : State}, u.onlyMonitorAndList v → u.intakeLaw → v.intakeLaw := fun hf hu =>
    State.onlyMonitorAndList_law hf (fun _ _ _ _ h => h) hu
  cases h with
  | apart core intake links profile lines => exact intake hs
  | bound n pack valid new =>
    refine work (s.bindSeat_frame ..) ?_
    rw [s.bindTables_eq]
    exact hs
  | released n => exact work (s.releaseSeat_frame n) hs
  | grouped f group => exact State.intakeLaw_ports (s.mapSeats_ports f) hs
  | restarted setup =>
    refine work s.restartBound_frame fun p => ?_
    have read : s.restartTables.port p
        = ((s.mapSeats fun _ r => if r.pack.isSome then r.restart else r).mapPorts fun _ t => { t with fifo := [] }).port p := by
      simp only [State.restartTables, State.port]
    rw [read, State.port_mapPorts]
    exact PortState.lawful_of_sublist (State.intakeLaw_ports (s.mapSeats_ports _) hs p) (List.nil_sublist _)
  | curved c valid setup => exact State.intakeLaw_ports (State.mapSeats_ports ..) hs
  | written number v range => exact work (s.writeParameter_frame number v) hs
  | seen x picked enabled => exact hs
  | acked x picked held enabled => exact work (s.listWork_acknowledgeAll ..).frame hs
  | started length range setup idle => exact work (State.onlyMonitorAndList_startMonitors _) hs
  | scheduled length range => exact work (State.onlyMonitorAndList_evaluate ..) hs
  | recessed sitting => exact work (State.onlyMonitorAndList_recessMonitors _) hs
  | resumed recess => exact work (State.onlyMonitorAndList_evaluate ..) hs
  | ended => exact work (State.onlyMonitorAndList_mapMonitors ..) hs
  | granted n sitting bound off room => exact work (State.onlyMonitorAndList_granted ..) hs
  | replaced n oldest rest sitting bound off floor => exact work (State.onlyMonitorAndList_replaced ..) hs
  | withdrawn n sitting => exact work (State.onlyMonitorAndList_withdrawn ..) hs
  | cleared sitting => exact work (State.onlyMonitorAndList_withdrawn ..) hs

/-- Every move keeps the ports lawful (R23 to R25). -/
theorem State.intakeLaw_moves {whole : Prop} {s t : State} (h : State.Moves whole s t) (hs : s.intakeLaw) :
    t.intakeLaw := by
  have work : ∀ {u v : State}, u.onlyMonitorAndList v → u.intakeLaw → v.intakeLaw := fun hf hu =>
    State.onlyMonitorAndList_law hf (fun _ _ _ _ h => h) hu
  cases h with
  | requested h => exact State.intakeLaw_requested h hs
  | outside core intake links profile store enabled => exact intake hs
  | reset straps protect g =>
    intro p
    have port : (State.ofStraps straps protect (s.storeAtReset g) s.freeCount s.pending).port p = .reset := by
      simp [State.port, State.ofStraps]
    rw [port]
    exact PortState.reset_lawful
  | picked p rep rest fifo =>
    obtain ⟨v, l, frame⟩ := State.processReport_frame { s.putPort p { s.port p with fifo := rest } with lastServed := p } rep
    refine work frame (State.intakeLaw_putPort (fun hp => PortState.lawful_of_sublist hp ?_) hs)
    rw [fifo]
    exact List.sublist_cons_self ..
  | tookValues => exact State.takeSetValues_law (fun _ _ _ h => h) hs
  | advanced who => exact work (s.changeSeats_spec _) (State.intakeLaw_ports (s.mapSeats_ports _) hs)
  | counted kinds => exact work (s.onlyMonitorAndList_evaluate ..) hs
  | quarterPhase q range => exact hs
  | clock =>
    simp only [State.tickClock]
    split <;> exact hs
  | window =>
    simp only [State.tickWindow]
    split
    · exact work s.endDropoutWindow_frame (State.windowTables_law (fun _ _ h => h) hs)
    · exact hs
  | timers =>
    simp only [State.tickTimers]
    split <;> exact hs
  | seconds => exact hs
  | escalated n k r record runs => exact hs
  | aged who => exact work (s.minuteSeats_frame who) (State.intakeLaw_ports (s.mapSeats_ports _) hs)
  | unseen x => exact hs
  | loaded img formed loading =>
    exact State.applyImage_law img (fun u number v _ hu => work (u.writeParameter_frame number v) hu)
      (fun _ _ _ _ _ _ _ _ h => h) hs

/-! ## The EEPROM -/

theorem State.store_requested {s t : State} (h : s.Requested t) : t.store = s.store := by
  have work : ∀ {u v : State}, u.onlyMonitorAndList v → u.store = s.store → v.store = s.store := fun hf hu =>
    State.onlyMonitorAndList_law (P := fun w => w.store = s.store) hf (fun _ _ _ _ h => h) hu
  cases h with
  | apart core intake links profile lines => rw [core]
  | bound n pack valid new =>
    refine work (s.bindSeat_frame ..) ?_
    rw [s.bindTables_eq]
  | released n => exact work (s.releaseSeat_frame n) rfl
  | grouped f group => exact s.mapSeats_store f
  | restarted setup =>
    exact work s.restartBound_frame (State.restartTables_law (P := fun w => w.store = s.store) (fun _ _ _ _ h => h) rfl)
  | curved c valid setup => exact State.mapSeats_store ..
  | written number v range => exact work (s.writeParameter_frame number v) rfl
  | seen x picked enabled => rfl
  | acked x picked held enabled => exact work (s.listWork_acknowledgeAll ..).frame rfl
  | started length range setup idle => exact work (State.onlyMonitorAndList_startMonitors _) rfl
  | scheduled length range => exact work (State.onlyMonitorAndList_evaluate ..) rfl
  | recessed sitting => exact work (State.onlyMonitorAndList_recessMonitors _) rfl
  | resumed recess => exact work (State.onlyMonitorAndList_evaluate ..) rfl
  | ended => exact work (State.onlyMonitorAndList_mapMonitors ..) rfl
  | granted n sitting bound off room => exact work (State.onlyMonitorAndList_granted ..) rfl
  | replaced n oldest rest sitting bound off floor => exact work (State.onlyMonitorAndList_replaced ..) rfl
  | withdrawn n sitting => exact work (State.onlyMonitorAndList_withdrawn ..) rfl
  | cleared sitting => exact work (State.onlyMonitorAndList_withdrawn ..) rfl

theorem State.storeAtReset_wf {s : State} (h : s.store.wf = true) (g : Progress) : (s.storeAtReset g).wf = true := by
  simp only [State.storeAtReset]
  split
  · exact Memory.wf_cutSave _ _ _ h
  · exact h

/-- Every move keeps the EEPROM in its canonical form (log 14). -/
theorem State.store_moves {whole : Prop} {s t : State} (h : State.Moves whole s t) (hs : s.store.wf = true) :
    t.store.wf = true := by
  have work : ∀ {u v : State}, u.onlyMonitorAndList v → u.store.wf = true → v.store.wf = true := fun hf hu =>
    State.onlyMonitorAndList_law (P := fun w => w.store.wf = true) hf (fun _ _ _ _ h => h) hu
  cases h with
  | requested h => rwa [State.store_requested h]
  | outside core intake links profile store enabled => exact store hs
  | reset straps protect g => exact State.storeAtReset_wf hs g
  | picked p rep rest fifo =>
    obtain ⟨v, l, frame⟩ := State.processReport_frame { s.putPort p { s.port p with fifo := rest } with lastServed := p } rep
    exact work frame hs
  | tookValues => exact State.takeSetValues_law (P := fun w => w.store.wf = true) (fun _ _ _ h => h) hs
  | advanced who =>
    refine work (s.changeSeats_spec _) ?_
    rwa [State.mapSeats_store]
  | counted kinds => exact work (s.onlyMonitorAndList_evaluate ..) hs
  | quarterPhase q range => exact hs
  | clock =>
    simp only [State.tickClock]
    split <;> exact hs
  | window =>
    simp only [State.tickWindow]
    split
    · exact work s.endDropoutWindow_frame
        (State.windowTables_law (P := fun w => w.store.wf = true) (fun _ _ h => h) hs)
    · exact hs
  | timers =>
    simp only [State.tickTimers]
    split <;> exact hs
  | seconds => exact hs
  | escalated n k r record runs => exact hs
  | aged who =>
    refine work (s.minuteSeats_frame who) ?_
    rwa [State.mapSeats_store]
  | unseen x => exact hs
  | loaded img formed loading =>
    exact State.applyImage_law (P := fun w => w.store.wf = true) img
      (fun u number v _ hu => work (u.writeParameter_frame number v) hu) (fun _ _ _ _ _ _ _ _ h => h) hs

/-! ## The links -/

theorem View.ofRole_lawful (role : Role) : (View.ofRole role).lawful := by
  cases role <;> exact ⟨by decide, by decide⟩

theorem LinkState.reset_lawful (role : Role) : (LinkState.reset role).lawful :=
  ⟨View.ofRole_lawful role, View.ofRole_lawful role, rfl, fun h => absurd rfl h, fun _ => ⟨rfl, rfl, rfl, rfl⟩,
    fun _ => ⟨rfl, rfl⟩⟩

theorem State.linkLaw_ofStraps (straps : Straps) (protect : Bool) (m : Memory) (count : Nat) (q : List Instr) :
    (State.ofStraps straps protect m count q).linkLaw := by
  intro x _
  cases x <;> exact LinkState.reset_lawful _

theorem imageView_lawful (img : List Byte) (i : Nat) : (imageView img i).lawful :=
  ⟨Nat.min_le_left .., Nat.min_le_left ..⟩

theorem State.linkLaw_applyViews {s : State} (hs : s.linkLaw) (img : List Byte) : (s.applyViews img).linkLaw := by
  intro x hx
  obtain ⟨-, -, ha, hr, hdeaf, hoff⟩ := hs x hx
  cases x <;> exact ⟨imageView_lawful .., imageView_lawful .., ha, hr, hdeaf, hoff⟩

theorem State.noticed_applyParameters (s : State) (img : List Byte) : s.noticed (s.applyParameters img) :=
  State.applyParameters_law (P := fun u => s.noticed u) img
    (fun u number v _ hu => State.noticed_trans hu (u.noticed_writeParameter number v)) (State.noticed_of_links rfl)

theorem State.noticed_imageBound (s : State) (img : List Byte) : s.noticed (s.imageBound img) := by
  rw [State.imageBound]
  have params := s.noticed_applyParameters img
  generalize s.applyParameters img = u at params
  refine State.noticed_trans params (State.noticed_restartMonitors ?_ _)
  exact State.imageTables_law (P := fun w => w.links = u.links) (s := { u with curve := imageCurve img }) img
    (fun _ _ _ h => h) rfl

/-- Every move keeps the links lawful, on the assumption of its command (R105, R138, R144). -/
theorem State.linkLaw_moves {whole : Prop} {s t : State} (h : State.Moves whole s t) (hw : whole) (hs : s.linkLaw) :
    t.linkLaw := by
  cases h with
  | requested h => exact h.links.2 hs
  | outside core intake links profile store enabled => exact links hw hs
  | reset straps protect g => exact State.linkLaw_ofStraps _ _ _ _ _
  | picked p rep rest fifo =>
    simp only [State.processReport]
    split
    · exact (State.noticed_trans (State.noticed_of_links rfl) (State.noticed_changeSeat ..)).linkLaw hs
    · exact hs
  | tookValues => exact State.takeSetValues_law (fun _ _ _ h => h) hs
  | advanced who => exact (s.noticed_changeSeats _).linkLaw hs
  | counted kinds => exact (State.noticed_evaluate rfl ..).linkLaw hs
  | quarterPhase q range => exact hs
  | clock =>
    simp only [State.tickClock]
    split <;> exact hs
  | window => exact s.noticed_tickWindow.linkLaw hs
  | timers =>
    simp only [State.tickTimers]
    split <;> exact hs
  | seconds => exact hs
  | escalated n k r record runs => exact hs
  | aged who => exact (s.noticed_minuteSeats who).linkLaw hs
  | unseen x => exact hs
  | loaded img formed loading =>
    rw [State.applyImage_eq]
    have bound : (s.imageBound img).linkLaw := (s.noticed_imageBound img).linkLaw hs
    generalize s.imageBound img = w at bound
    exact State.linkLaw_applyViews (s := { w with strays := _ }) bound img

/-! ## The profile controller -/

theorem State.profileLaw_requested {s t : State} (h : s.Requested t) (hs : s.profileLaw) : t.profileLaw := by
  have work : ∀ {u v : State}, u.onlyMonitorAndList v → u.profileLaw → v.profileLaw := fun hf hu =>
    State.onlyMonitorAndList_law hf (fun _ _ _ _ h => h) hu
  have seats : ∀ f, (s.mapSeats f).profileLaw := fun f => State.mapSeats_law f (fun _ _ h => h) hs
  have notLoading : s.sitting ≠ .setup → s.profile.op ≠ .loading := fun h hl => h (hs.2.2.2 hl)
  have kept : ∀ {u : State}, u.profile = s.profile → s.profile.op ≠ .loading → u.profileLaw := fun hp hl =>
    ⟨hp ▸ hs.1, hp ▸ hs.2.1, hp ▸ hs.2.2.1, fun h => absurd (hp ▸ h) hl⟩
  cases h with
  | apart core intake links profile lines => exact profile hs
  | bound n pack valid new =>
    refine work (s.bindSeat_frame ..) ?_
    rw [s.bindTables_eq]
    exact hs
  | released n => exact work (s.releaseSeat_frame n) hs
  | grouped f group => exact seats f
  | restarted setup => exact work s.restartBound_frame (State.restartTables_law (fun _ _ _ _ h => h) hs)
  | curved c valid setup => exact State.mapSeats_law (P := State.profileLaw) _ (fun _ _ h => h) hs
  | written number v range => exact work (s.writeParameter_frame number v) hs
  | seen x picked enabled => exact hs
  | acked x picked held enabled => exact work (s.listWork_acknowledgeAll ..).frame hs
  | started length range setup idle =>
    refine work (State.onlyMonitorAndList_startMonitors _) (kept rfl fun h => ?_)
    simp [State.loading, h] at idle
  | scheduled length range => exact work (State.onlyMonitorAndList_evaluate ..) hs
  | recessed sitting =>
    exact work (State.onlyMonitorAndList_recessMonitors _) (kept rfl (notLoading (by simp [sitting])))
  | resumed recess => exact work (State.onlyMonitorAndList_evaluate ..) (kept rfl (notLoading (by simp [recess])))
  | ended => exact work (State.onlyMonitorAndList_mapMonitors ..) ⟨hs.1, hs.2.1, hs.2.2.1, fun _ => rfl⟩
  | granted n sitting bound off room => exact work (State.onlyMonitorAndList_granted ..) hs
  | replaced n oldest rest sitting bound off floor => exact work (State.onlyMonitorAndList_replaced ..) hs
  | withdrawn n sitting => exact work (State.onlyMonitorAndList_withdrawn ..) hs
  | cleared sitting => exact work (State.onlyMonitorAndList_withdrawn ..) hs

theorem slotsOfStrap_mem (pins : BitVec 2) :
    slotsOfStrap pins = 0 ∨ slotsOfStrap pins = 1 ∨ slotsOfStrap pins = 2 ∨ slotsOfStrap pins = 4 := by
  revert pins
  decide

theorem State.profileLaw_ofStraps (straps : Straps) (protect : Bool) (m : Memory) (count : Nat) (q : List Instr) :
    (State.ofStraps straps protect m count q).profileLaw := by
  simp only [State.profileLaw, State.ofStraps]
  split
  · next h =>
    simp only [Bool.and_eq_true, bne_iff_ne] at h
    exact ⟨slotsOfStrap_mem _, fun _ => ⟨0, rfl, Nat.pos_of_ne_zero h.2⟩, by simp, by simp⟩
  · exact ⟨slotsOfStrap_mem _, by simp, by simp, by simp⟩

/-- Every move keeps the profile controller lawful (R148 to R150, R153). -/
theorem State.profileLaw_moves {whole : Prop} {s t : State} (h : State.Moves whole s t) (hs : s.profileLaw) :
    t.profileLaw := by
  have work : ∀ {u v : State}, u.onlyMonitorAndList v → u.profileLaw → v.profileLaw := fun hf hu =>
    State.onlyMonitorAndList_law hf (fun _ _ _ _ h => h) hu
  have seats : ∀ f, (s.mapSeats f).profileLaw := fun f => State.mapSeats_law f (fun _ _ h => h) hs
  cases h with
  | requested h => exact State.profileLaw_requested h hs
  | outside core intake links profile store enabled => exact profile hs
  | reset straps protect g => exact State.profileLaw_ofStraps ..
  | picked p rep rest fifo =>
    obtain ⟨v, l, frame⟩ := State.processReport_frame { s.putPort p { s.port p with fifo := rest } with lastServed := p } rep
    exact work frame hs
  | tookValues => exact State.takeSetValues_law (fun _ _ _ h => h) hs
  | advanced who => exact work (s.changeSeats_spec _) (seats _)
  | counted kinds => exact work (s.onlyMonitorAndList_evaluate ..) hs
  | quarterPhase q range => exact hs
  | clock =>
    simp only [State.tickClock]
    split <;> exact hs
  | window =>
    simp only [State.tickWindow]
    split
    · exact work s.endDropoutWindow_frame (State.windowTables_law (fun _ _ h => h) hs)
    · exact hs
  | timers =>
    simp only [State.tickTimers]
    split <;> exact hs
  | seconds => exact hs
  | escalated n k r record runs => exact hs
  | aged who => exact work (s.minuteSeats_frame who) (seats _)
  | unseen x => exact hs
  | loaded img formed loading =>
    exact State.applyImage_law img (fun u number v _ hu => work (u.writeParameter_frame number v) hu)
      (fun _ _ _ _ _ _ _ _ h => h) hs

end Sys2Proof.Machine
end

section
/-! How a request on a ready link is answered, said once, and with it the requests that read the Seat Table or
write its groups (R16 to R19), the reset columns and the arbiter's order. -/

namespace Sys2Proof.Machine

/-! ## The answer on a ready link -/

/-- The state in which a link's request is judged: its assembly is back in HUNT (R136). -/
def State.listening (s : State) (x : LinkId) : State := s.putLink x { s.link x with assembly := .hunt }

/-- The reply of a rule comes into progress on its link (R139). -/
def Served.onLink (v : Served) (x : LinkId) (code : Byte) : State :=
  v.state.putLink x { v.state.link x with reply := some (replyFrame code v.status v.payload) }

/-- A request command is its CODE reaching the link, the PROTECT level being the command's (log 5, log 17). -/
theorem exec_request {c : Instr} {x : LinkId} {code : Byte} {payload : List Byte}
    (h : asRequest c = some (x, code, payload)) (s : State) :
    exec c s = .next ((s.samplePin (s.protectAfter c)).requestReaches x code payload) := by
  cases c <;> simp only [asRequest, Option.some.injEq, Prod.mk.injEq, reduceCtorEq] at h <;>
    obtain ⟨rfl, rfl, rfl⟩ := h <;> rfl

/-- On a ready link the rule that owns the CODE judges the request and its reply comes into progress (R138). -/
theorem State.requestReaches_of_ready {s : State} {x : LinkId} (ready : s.ready x) (q : Request)
    (payload : List Byte) :
    s.requestReaches x q.code payload = (serve q x payload (s.listening x)).onLink x q.code := by
  obtain ⟨hears, reply, idle⟩ := ready
  rw [State.requestReaches_of_idle hears reply, State.takeRequest_eq,
    State.judgeRequest_of_code (s := s.putLink x _) idle]
  rfl

/-- A rule that writes nothing of its link is answered in the state it leaves (R139). -/
theorem State.requestReaches_of_answer {s t : State} {x : LinkId} (ready : s.ready x) {q : Request}
    {payload : List Byte} {st : ReplyStatus} {p : List Byte}
    (h : serve q x payload (s.listening x) = (t.listening x).answer st p) :
    s.requestReaches x q.code payload = t.replied x q.code st p := by
  rw [State.requestReaches_of_ready ready, h]
  simp [Served.onLink, State.answer, State.listening, State.replied, LinkState.replying]

section
variable (s : State) (x : LinkId)

@[simp] theorem State.seat_listening (n : Seat) : (s.listening x).seat n = s.seat n := rfl
@[simp] theorem State.port_listening (p : Port) : (s.listening x).port p = s.port p := rfl
@[simp] theorem State.bound_listening (n : Seat) : (s.listening x).bound n = s.bound n := rfl
@[simp] theorem State.onFloor_listening (n : Seat) : (s.listening x).onFloor n = s.onFloor n := rfl
@[simp] theorem State.loading_listening : (s.listening x).loading = s.loading := rfl
@[simp] theorem State.strays_listening : (s.listening x).strays = s.strays := rfl
@[simp] theorem State.floor_listening : (s.listening x).floor = s.floor := rfl
@[simp] theorem State.sitting_listening : (s.listening x).sitting = s.sitting := rfl
@[simp] theorem State.profile_listening : (s.listening x).profile = s.profile := rfl
@[simp] theorem State.params_listening : (s.listening x).params = s.params := rfl
@[simp] theorem State.records_listening : (s.listening x).records = s.records := rfl
@[simp] theorem State.monitor_listening (n : Seat) : (s.listening x).monitor n = s.monitor n := rfl
@[simp] theorem State.seatOfPack_listening (pack : PackId) :
    (s.listening x).seatOfPack pack = s.seatOfPack pack := rfl
@[simp] theorem State.freeCount_listening : (s.listening x).freeCount = s.freeCount := rfl

@[simp] theorem State.link_listening (y : LinkId) :
    (s.listening x).link y = if y = x then { s.link x with assembly := .hunt } else s.link y :=
  State.link_putLink ..

@[simp] theorem State.technical_listening : (s.listening x).technical x = s.technical x := by
  simp [State.technical]
@[simp] theorem State.anyRole_listening : (s.listening x).anyRole x = s.anyRole x := by
  simp [State.anyRole, LinkState.enabled]

end

theorem State.technical_of_role {s : State} {x : LinkId} (h : (s.link x).role = .technical) : s.technical x = true := by
  simp [State.technical, h]

theorem State.anyRole_of_ready {s : State} {x : LinkId} (h : s.ready x) : s.anyRole x = true := by
  have hears := h.1
  simp only [LinkState.hears, Bool.and_eq_true] at hears
  exact hears.1

/-! ## Bytes that name a seat -/

theorem seatOf_eq_some {b : Byte} {n : Seat} (h : b.toNat = n.val) : seatOf b = some n := by
  simp [seatOf, h]

theorem seatOf_eq_none {b : Byte} (h : 128 ≤ b.toNat) : seatOf b = none := by
  simp only [seatOf]
  split
  · omega
  · rfl

theorem byte_toNat (b : Byte) : byte b.toNat = b := by simp [byte]

/-! ## READ SEAT, READ SEATS and READ STRAYS -/

/-- A run of seats is a stretch of the seats in order (R18). -/
theorem seatRun_eq (first count : Nat) :
    seatRun first count = ((List.finRange 128).drop first).take count := by
  have split : List.finRange 128 = (List.finRange 128).take first
      ++ (((List.finRange 128).drop first).take count ++ ((List.finRange 128).drop first).drop count) := by
    rw [List.take_append_drop, List.take_append_drop]
  have before : ((List.finRange 128).take first).filter
      (fun n => first ≤ n.val && n.val < first + count) = [] := by
    rw [List.filter_eq_nil_iff]
    intro n hn
    obtain ⟨i, hi, rfl⟩ := List.mem_take_iff_getElem.1 hn
    simp only [List.getElem_finRange, Bool.and_eq_true, decide_eq_true_eq, Fin.val_cast]
    omega
  have within : (((List.finRange 128).drop first).take count).filter
      (fun n => first ≤ n.val && n.val < first + count) = ((List.finRange 128).drop first).take count := by
    rw [List.filter_eq_self]
    intro n hn
    obtain ⟨i, hi, rfl⟩ := List.mem_take_iff_getElem.1 hn
    simp only [List.getElem_drop, List.getElem_finRange, Bool.and_eq_true, decide_eq_true_eq, Fin.val_cast]
    omega
  have after : (((List.finRange 128).drop first).drop count).filter
      (fun n => first ≤ n.val && n.val < first + count) = [] := by
    rw [List.filter_eq_nil_iff]
    intro n hn
    obtain ⟨i, hi, rfl⟩ := List.mem_drop_iff_getElem.1 hn
    simp only [List.getElem_drop, List.getElem_finRange, Bool.and_eq_true, decide_eq_true_eq, Fin.val_cast]
    omega
  rw [seatRun, allSeats, split, List.filter_append, List.filter_append, before, within, after]
  simp

/-- The bytes of a sequence, absent where there is none and its sample absent where it is CLOSED (R17, R157). -/
theorem sequenceBytes_eq (q : SeqState) :
    orFFFF q.number ++ [orFF q.statusCode, orFF q.sampleLevel, orFF q.sampleReceiver] = match q with
      | .absent => [0xFF, 0xFF, 0xFF, 0xFF, 0xFF]
      | .closed k => [0x00, k, 0x00, 0xFF, 0xFF]
      | .opened k level receiver => [0x00, k, 0x01, byte level, byte receiver.val] := by
  have high (k : Byte) : k.toNat / 256 = 0 := Nat.div_eq_of_lt k.isLt
  cases q with
  | absent => rfl
  | closed k => simp [SeqState.number, SeqState.statusCode, SeqState.sampleLevel, SeqState.sampleReceiver, orFFFF,
      orFF, bytes2, high, byte]
  | opened k level receiver => simp [SeqState.number, SeqState.statusCode, SeqState.sampleLevel,
      SeqState.sampleReceiver, orFFFF, orFF, bytes2, high, byte]

/-- The level average's byte, absent where no level is stored (R1, R157). -/
theorem levelByte_eq (r : SeatRecord) :
    orFF r.levelAverage = match r.levelStore with | none => 0xFF | some a => byte (a / 4) := by
  rw [SeatRecord.levelAverage]
  cases r.levelStore <;> rfl

/-- The smoothed voltage's bytes (R40, R157). -/
theorem smoothedBytes_eq (e : EstRecord) :
    orFFFF e.smoothed = bytes2 (match e.store with | none => 65535 | some v => v / 8) := by
  rw [EstRecord.smoothed]
  cases e.store <;> rfl

/-- A pack's bytes, 000000 where there is none (R17). -/
theorem packBytes_eq (o : Option PackId) : packBytes o = bytes3 (match o with | none => 0 | some p => p.toNat) := by
  cases o <;> rfl

/-- The seat record's 23 bytes with those of its sequence together (10.4). -/
theorem seatBytes_grouped (n : Seat) (r : SeatRecord) (onFloor : Bool) : seatBytes n r onFloor =
    [byte n.val, byte r.group] ++ packBytes r.pack ++ [byte r.signal.code, byte r.silence]
      ++ (orFFFF r.seq.number ++ [orFF r.seq.statusCode, orFF r.seq.sampleLevel, orFF r.seq.sampleReceiver])
      ++ [orFF r.levelAverage, byte r.mute.code, byte (boolCode r.voice), byte r.dropouts, byte (boolCode onFloor)]
      ++ orFFFF r.est.smoothed ++ [orFF r.est.percent, orFF r.est.drain] ++ orFFFF r.est.minutes := by
  simp [seatBytes]

/-- Settles O18: the rules' answers in the state as it stands. -/
theorem seatTableReadsReport : Obligations.SeatTableReadsReport := by
  unfold Obligations.SeatTableReadsReport
  refine ⟨fun s x rest ready => ⟨fun b n hb => ?_, fun b hb => ?_, ?_⟩,
    fun s x first count compact rest ready => ⟨fun h => ?_, fun hf hc => ?_⟩⟩
  all_goals
    have role := State.anyRole_of_ready ready
    refine congrArg Host.Outcome.next ?_
  · have read : serve .readSeat x (b :: rest) (s.listening x)
        = (s.listening x).answer .ok (seatBytes n (s.seat n) (s.onFloor n)) := by
      simp [serve, serveReadSeat, role, seatOf_eq_some hb]
    refine (State.requestReaches_of_answer ready read).trans (congrArg (s.replied x 0x06 .ok) ?_)
    rw [seatBytes_grouped, packBytes_eq, sequenceBytes_eq, levelByte_eq, smoothedBytes_eq]
    rfl
  · refine State.requestReaches_of_answer ready (q := .readSeat) ?_
    simp [serve, serveReadSeat, role, seatOf_eq_none hb, State.refuse, State.answer]
  · refine State.requestReaches_of_answer ready (q := .readStrays) ?_
    simp only [serve, serveReadStrays, State.anyRole_listening, role, Bool.not_true, Bool.false_eq_true, if_false]
    rfl
  · refine State.requestReaches_of_answer ready (q := .readSeats) ?_
    have outside : (127 < first.toNat || count == 0) = true := by simpa using h
    simp only [serve, serveReadSeats, State.anyRole_listening, role, outside, Bool.not_true, Bool.false_eq_true,
      if_false, if_true]
    rfl
  · refine State.requestReaches_of_answer ready (q := .readSeats) ?_
    have inside : (127 < first.toNat || count == 0) = false := by
      simpa [hf] using hc
    simp only [serve, serveReadSeats, State.anyRole_listening, role, inside, Bool.not_true, Bool.false_eq_true,
      if_false, seatRun_eq, okOr, bne_iff_ne, beq_iff_eq, ite_not]
    congr 2
    refine List.flatMap_congr fun n _ => ?_
    simp only [State.seat_listening, State.onFloor_listening]
    split
    · rfl
    · rw [seatSummary, levelByte_eq]
      rfl

/-! ## SET GROUP -/

theorem State.mapSeats_listening (s : State) (x : LinkId) (f : Seat → SeatRecord → SeatRecord) :
    (s.listening x).mapSeats f = (s.mapSeats f).listening x := by
  simp only [State.mapSeats, State.listening, State.putLink, State.link]

/-- What SET GROUP makes of one seat (R16). -/
def groupedAs (first last group : Nat) (n : Seat) (r : SeatRecord) : SeatRecord :=
  if first ≤ n.val ∧ n.val ≤ min 127 last then { r with group := group } else r

/-- Settles O19. -/
theorem setGroupWritesTheRange : Obligations.SetGroupWritesTheRange := by
  unfold Obligations.SetGroupWritesTheRange
  intro s x first last group rest ready role idle
  have role := State.technical_of_role role
  refine ⟨fun h => congrArg Host.Outcome.next (State.requestReaches_of_answer ready (q := .setGroup) ?_),
    fun hf hg hl => ?_⟩
  · have outside : (127 < first.toNat || 15 < group.toNat || last.toNat < first.toNat) = true := by
      simpa [or_assoc] using h
    simp only [serve, serveSetGroup, State.technical_listening, role, State.loading_listening, idle, outside,
      Bool.not_true, Bool.false_eq_true, if_false, if_true]
    rfl
  · have inside : (127 < first.toNat || 15 < group.toNat || last.toNat < first.toNat) = false := by
      simp [hf, hg, hl]
    have write : serve .setGroup x (first :: last :: group :: rest) (s.listening x)
        = ((s.mapSeats (groupedAs first.toNat last.toNat group.toNat)).listening x).answer (okOr (127 < last.toNat))
            [first, byte (min 127 last.toNat), group] := by
      simp only [serve, serveSetGroup, State.technical_listening, role, State.loading_listening, idle, inside,
        Bool.not_true, Bool.false_eq_true, if_false, ← State.mapSeats_listening]
      rfl
    refine ⟨s.mapSeats (groupedAs first.toNat last.toNat group.toNat), congrArg Host.Outcome.next ?_,
      by simp only [State.mapSeats], fun n => ?_⟩
    · refine (State.requestReaches_of_answer ready write).trans ?_
      simp only [okOr, decide_eq_true_eq]
      rfl
    · have below : n.val ≤ 127 := by omega
      simp only [State.seat_mapSeats, groupedAs, le_min_iff, below, true_and]
      split <;> rfl

end Sys2Proof.Machine
end

section
/-! The reset columns of the tables, and the arbiter's order (R1, R30). -/

namespace Sys2Proof.Machine

/-! ## Reset -/

section
variable (straps : Straps) (protect : Bool) (m : Memory) (count : Nat) (q : List Instr)

@[simp] theorem State.port_ofStraps (p : Port) : (State.ofStraps straps protect m count q).port p = .reset := by
  simp [State.port, State.ofStraps]

@[simp] theorem State.monitor_ofStraps (n : Seat) :
    (State.ofStraps straps protect m count q).monitor n = .quiet .defaults := by
  simp [State.monitor, State.ofStraps]

theorem State.isDue_ofStraps (n : Seat) (k : Kind) : (State.ofStraps straps protect m count q).isDue n k = false := by
  rw [State.isDue, State.monitor_ofStraps]
  cases k <;> rfl

theorem State.overflow_ofStraps : (State.ofStraps straps protect m count q).overflow = false := by
  rw [Bool.eq_false_iff, ne_eq, State.overflow_iff]
  rintro ⟨n, k, due⟩
  simp [State.isDue_ofStraps] at due

end

/-- Settles O3. -/
theorem resetPinClearsTheTables : Obligations.ResetPinClearsTheTables := by
  unfold Obligations.ResetPinClearsTheTables
  intro straps protect g s
  refine ⟨_, rfl, fun n => State.seat_ofStraps .., rfl, fun p => State.port_ofStraps .., rfl, (rfl : defaultCurve.toList = _),
    (by decide : parameterNumbers.map Params.defaults.get = _),
    fun n k => ⟨?_, State.isDue_ofStraps ..⟩, fun n => ?_, rfl, rfl, State.overflow_ofStraps ..⟩
  · rw [State.monitor_ofStraps]
    cases k <;> rfl
  · rw [State.monitor_ofStraps]
    decide

/-! ## The arbiter (R30) -/

/-- A port stands in the arbiter's order as far behind the last served one as its distance says. -/
theorem pickOrder_pairwise (last : Port) :
    (pickOrder last).Pairwise fun p q => pickDistance last p < pickDistance last q := by
  revert last
  decide

theorem mem_pickOrder (last p : Port) : p ∈ pickOrder last := by
  revert last p
  decide

/-- The arbiter takes the first port in its order whose FIFO is not empty (R30). -/
theorem State.nextPort_eq_some {s : State} {p : Port} (held : (s.port p).fifo ≠ [])
    (first : ∀ q, pickDistance s.lastServed q < pickDistance s.lastServed p → (s.port q).fifo = []) :
    s.nextPort = some p := by
  obtain ⟨before, after, order⟩ := List.append_of_mem (mem_pickOrder s.lastServed p)
  rw [State.nextPort, order, List.find?_append, List.find?_eq_none.2, Option.none_or, List.find?_cons_of_pos]
  · simpa using held
  · intro q hq
    have pairwise := pickOrder_pairwise s.lastServed
    rw [order, List.pairwise_append] at pairwise
    obtain ⟨-, -, across⟩ := pairwise
    simp [first q (across q hq p List.mem_cons_self)]

/-- The intake with the head of a FIFO picked (R24, R30). -/
def State.pickedFrom (s : State) (p : Port) (rest : List Report) : State :=
  { s.putPort p { s.port p with fifo := rest } with lastServed := p }

/-- INTAKE_PICK processes the head report of the first port in turn that holds one (R30, R31). -/
theorem exec_intakePick {s : State} {p : Port} {rep : Report} {rest : List Report}
    (fifo : (s.port p).fifo = rep :: rest)
    (first : ∀ q, pickDistance s.lastServed q < pickDistance s.lastServed p → (s.port q).fifo = []) :
    exec .intakePick s = .next ((s.pickedFrom p rest).processReport rep) := by
  have picked := State.nextPort_eq_some (s := s) (p := p) (by simp [fifo]) first
  simp only [exec, execIntakePick, picked, fifo]
  rfl

theorem State.processReport_of_unbound {s : State} {rep : Report} (h : s.seatOfPack rep.pack = none) :
    s.processReport rep
      = { s with strays := noteStray s.strays rep.pack rep.level rep.receiver s.deviceSeconds } := by
  simp only [State.processReport, h]

/-- Settles O9. -/
theorem pickServesPortsInTurnAndNotesStrays : Obligations.PickServesPortsInTurnAndNotesStrays := by
  unfold Obligations.PickServesPortsInTurnAndNotesStrays
  intro s
  refine ⟨fun empty => ?_, fun p rep rest fifo first stray => ?_⟩
  · simp only [exec, execIntakePick, (State.nextPort_eq_none s).2 empty]
  · have unbound : (s.pickedFrom p rest).seatOfPack rep.pack = none := (State.seatOfPack_eq_none s rep.pack).2 stray
    rw [exec_intakePick fifo first, State.processReport_of_unbound unbound]
    rfl

end Sys2Proof.Machine
end

section
/-! The checks of R140 in their order: the roles, the operation in flight, the sitting state, the payload. -/

namespace Sys2Proof.Machine

theorem exists_request_of_code {code : Byte} (low : 1 ≤ code.toNat) (high : code.toNat ≤ 37) :
    ∃ q : Request, q.code = code := by
  have all : ∀ c : Byte, 1 ≤ c.toNat → c.toNat ≤ 37 → ∃ q ∈ allRequests, q.code = c := by decide
  obtain ⟨q, -, hq⟩ := all code low high
  exact ⟨q, hq⟩

/-- The roles that a request is taken from, a class of requests at a time (the table of R140). -/
inductive RoleClass where
  | technical | presiding | either | any

/-- The class of a request (the table of R140). -/
def Request.roleClass : Request → RoleClass
  | .bindPack | .unbindSeat | .setGroup | .restartSeats | .portStart | .portStop | .clearPortFlags | .setCurve
  | .setParameter | .purgeCleared | .profileSave | .profileLoad | .profileCompare => .technical
  | .startSitting | .setSchedule | .recess | .resume | .grantFloor | .withdrawFloor | .withdrawAll => .presiding
  | .ackWarning | .ackGroup | .endSitting => .either
  | _ => .any

/-- The check of a class as the rules make it. -/
def State.admits (s : State) (x : LinkId) : RoleClass → Bool
  | .technical => s.technical x
  | .presiding => s.presiding x
  | .either => s.mayAcknowledge x
  | .any => s.anyRole x

theorem State.admits_roleClass (s : State) (x : LinkId) (q : Request) :
    s.admits x q.roleClass = roleAdmits q.code (s.link x).role := by
  cases q <;> simp [State.admits, Request.roleClass, Request.code, roleAdmits, State.technical, State.presiding,
    State.mayAcknowledge, State.anyRole, LinkState.enabled]

/-- Every rule makes the role check first (R140, R149). -/
theorem serve_of_role {q : Request} {x : LinkId} {s : State} (h : roleAdmits q.code (s.link x).role = false)
    (payload : List Byte) : serve q x payload s = s.refuse .role := by
  rw [← State.admits_roleClass] at h
  cases q <;> simp only [Request.roleClass, State.admits] at h
  case profileSave => simp only [serve, serveProfileSave, State.profileRefusal, h, Bool.not_false, if_true]
  case profileLoad => simp only [serve, serveProfileLoad, State.profileRefusal, h, Bool.not_false, if_true]
  case profileCompare => simp only [serve, serveProfileCompare, State.profileRefusal, h, Bool.not_false, if_true]
  all_goals exact if_pos (congrArg not h)

/-- A rule with its role check passed is what stands behind the check. -/
theorem State.admitted_of_role {q : Request} {x : LinkId} {s : State} (h : roleAdmits q.code (s.link x).role = true) :
    (!s.admits x q.roleClass) = false := by rw [State.admits_roleClass, h]; rfl

/-- After the role the rules turn away what an operation in flight would spoil (R12, R44, R78, R123, R149). -/
theorem serve_of_busy {q : Request} {x : LinkId} {s : State} (role : roleAdmits q.code (s.link x).role = true)
    (h : s.busyFor q.code = true) (payload : List Byte) : serve q x payload s = s.refuse .busy := by
  have admitted := State.admitted_of_role role
  cases q <;> simp [State.busyFor, Request.code] at h <;>
    simp only [Request.roleClass, State.admits] at admitted
  case profileSave | profileLoad | profileCompare =>
    simp only [serve, serveProfileSave, serveProfileLoad, serveProfileCompare, State.profileRefusal, admitted,
      Bool.false_eq_true, if_false, ne_eq, h, not_false_eq_true, if_true]
  all_goals
    refine (if_neg ?_).trans (if_pos h)
    simp only [admitted, Bool.false_eq_true, not_false_eq_true]

/-- The three checks that come before a request's payload have passed (R140). -/
structure State.checked (s : State) (x : LinkId) (q : Request) : Prop where
  role : roleAdmits q.code (s.link x).role = true
  idle : s.busyFor q.code = false
  sitting : sittingAdmits q.code s.sitting = true

/-- After these the rules turn away what the sitting state excludes (R140). -/
theorem serve_of_sitting {q : Request} {x : LinkId} {s : State} (role : roleAdmits q.code (s.link x).role = true)
    (idle : s.busyFor q.code = false) (h : sittingAdmits q.code s.sitting = false) (payload : List Byte) :
    serve q x payload s = s.refuse .state := by
  have admitted := State.admitted_of_role role
  cases q <;> simp [sittingAdmits, Request.code] at h <;> simp [State.busyFor, Request.code] at idle <;>
    simp only [Request.roleClass, State.admits] at admitted
  case restartSeats | setCurve | startSitting =>
    refine (if_neg ?_).trans ((if_neg ?_).trans (if_pos h)) <;> simp [admitted, idle]
  case setSchedule | recess | resume | grantFloor | withdrawFloor | withdrawAll | endSitting =>
    refine (if_neg ?_).trans (if_pos h)
    simpa [State.mayAcknowledge] using admitted
  case profileLoad =>
    simp [serve, serveProfileLoad, State.profileRefusal, admitted, idle, h]

/-- A payload shorter than its layout is RANGE (R140). -/
theorem serve_of_short {q : Request} {x : LinkId} {s : State} (checked : s.checked x q) {payload : List Byte}
    (h : payload.length < layoutLength q.code) : serve q x payload s = s.refuse .range := by
  have admitted := State.admitted_of_role checked.role
  have idle := checked.idle
  have sitting := checked.sitting
  cases q <;> simp only [Request.roleClass, State.admits] at admitted <;> simp [State.busyFor, Request.code] at idle <;>
    simp [sittingAdmits, Request.code] at sitting
  case setCurve =>
    have h : payload.length < 24 := h
    simp [serve, serveSetCurve, admitted, idle, sitting, h]
  case status | readStrays | restartSeats | readPorts | readCurve | readUnseen | purgeCleared | readView | recess | resume
      | endSitting | withdrawAll | readFloor | readProfileStatus =>
    exact absurd h (Nat.not_lt_zero _)
  all_goals
    simp only [serve, serveClearLinkFlags, serveBindPack, serveUnbindSeat, serveSetGroup, serveReadSeat, serveReadSeats,
      servePortStart, servePortStop, serveClearPortFlags, serveSetParameter, serveReadParameter, serveReadWarnings,
      serveAckWarning, serveAckGroup, serveSetView, serveStartSitting, serveSetSchedule, serveGrantFloor,
      serveWithdrawFloor, serveProfileSave, serveProfileLoad, serveProfileCompare, State.profileRefusal, admitted, idle,
      sitting, ne_eq, not_true_eq_false, Bool.false_eq_true, if_false]
    split
    · simp [layoutLength, Request.code] at h <;> omega
    · rfl

/-- A first payload byte outside its range is RANGE (R13, R15, R27, R28, R78, R114, R130, R131). -/
theorem serve_of_outside {q : Request} {x : LinkId} {s : State} (checked : s.checked x q) {first : Byte}
    (h : outsideRange q.code first = true) (rest : List Byte) : serve q x (first :: rest) s = s.refuse .range := by
  by_cases short : (first :: rest).length < layoutLength q.code
  · exact serve_of_short checked short
  have admitted := State.admitted_of_role checked.role
  have idle := checked.idle
  have sitting := checked.sitting
  cases q <;> simp [outsideRange, Request.code] at h <;>
    simp only [Request.roleClass, State.admits] at admitted <;> simp [State.busyFor, Request.code] at idle <;>
    simp [sittingAdmits, Request.code] at sitting
  case portStart | portStop => simp [serve, servePortStart, servePortStop, admitted, h]
  case setParameter =>
    rcases rest with _ | ⟨a, _ | ⟨b, rest⟩⟩ <;> simp [layoutLength, Request.code] at short
    have outside : first.toNat = 0 ∨ 21 < first.toNat := h.imp (fun zero => by simp [zero]) id
    simp only [serve, serveSetParameter, admitted, idle, outside, Bool.false_eq_true, if_false, if_true]
  case clearPortFlags =>
    rcases rest with _ | ⟨a, rest⟩ <;> simp [layoutLength, Request.code] at short
    simp [serve, serveClearPortFlags, admitted, portOf, show ¬ first.toNat < 8 by omega]
  case ackWarning =>
    rcases rest with _ | ⟨a, rest⟩ <;> simp [layoutLength, Request.code] at short
    simp [serve, serveAckWarning, admitted, seatOf_eq_none (b := first) (by omega)]
  case bindPack =>
    rcases rest with _ | ⟨a, _ | ⟨b, _ | ⟨c, _ | ⟨d, rest⟩⟩⟩⟩ <;> simp [layoutLength, Request.code] at short
    simp [serve, serveBindPack, admitted, idle, seatOf_eq_none (b := first) (by omega)]
  case unbindSeat | grantFloor | withdrawFloor =>
    simp [serve, serveUnbindSeat, serveGrantFloor, serveWithdrawFloor, admitted, idle, sitting,
      seatOf_eq_none (b := first) (by omega)]

/-- The parameters that SETUP alone may write are STATE outside it (R78). -/
theorem serve_of_setupParameter {x : LinkId} {s : State} (checked : s.checked x .setParameter)
    (h : s.sitting ≠ .setup) {number : Byte} (h5 : number.toNat = 5 ∨ number.toNat = 15 ∨ number.toNat = 16)
    (hi lo : Byte) (rest : List Byte) :
    serve .setParameter x (number :: hi :: lo :: rest) s = s.refuse .state := by
  have admitted : (!s.technical x) = false := State.admitted_of_role checked.role
  have idle := checked.idle
  simp [State.busyFor, Request.code] at idle
  have inside : ¬ (number.toNat = 0 ∨ 21 < number.toNat) := by omega
  simp only [serve, serveSetParameter, admitted, idle, inside, h5, ne_eq, h, not_false_eq_true, and_self,
    Bool.false_eq_true, if_false, if_true]

/-! ## Refusals on their links -/

/-- A refused request changes nothing but its link. -/
theorem State.requestReaches_of_refused {s : State} {x : LinkId} (ready : s.ready x) {q : Request}
    {payload : List Byte} {st : ReplyStatus}
    (h : serve q x payload (s.listening x) = (s.listening x).refuse st) :
    s.requestReaches x q.code payload = s.replied x q.code st [] := State.requestReaches_of_answer ready h

/-- During the start-up load a request is BUSY before any other check, unless it is STATUS or READ PROFILE STATUS
(R140 step 1). -/
theorem State.judgeRequest_of_startUp {s : State} (h : s.startUpLoading = true) (x : LinkId) {code : Byte}
    (status : code ≠ 0x01) (profile : code ≠ 0x25) (payload : List Byte) :
    s.judgeRequest x ⟨code, payload⟩ = s.refuse .busy := by
  simp only [State.judgeRequest, h]
  split
  · next q named =>
    have code : q.code = code := by simpa using List.find?_some named
    cases q <;> first | rfl | exact absurd code.symm status | exact absurd code.symm profile
  · rfl

/-- Settles O49: a refusal of each rule, in the order of R140. -/
theorem refusedRequestsChangeNothing : Obligations.RefusedRequestsChangeNothing := by
  unfold Obligations.RefusedRequestsChangeNothing
  refine ⟨fun s x code payload c h status profile hears reply loading => ?_, fun s x code payload c h low high ready => ?_⟩
  · refine (exec_request h s).trans (congrArg Host.Outcome.next ?_)
    refine (State.requestReaches_of_idle (s := s.samplePin (s.protectAfter c)) hears reply code payload).trans ?_
    have listening : ((s.samplePin (s.protectAfter c)).listening x).startUpLoading = true := loading
    exact State.takeRequest_of_refused (State.judgeRequest_of_startUp listening x status profile payload)
  · obtain ⟨q, rfl⟩ := exists_request_of_code low high
    obtain ⟨u, hu⟩ : ∃ u, u = s.samplePin (s.protectAfter c) := ⟨_, rfl⟩
    have pinned : u.ready x := hu ▸ ready
    have admits : roleAdmits q.code ((u.listening x).link x).role = roleAdmits q.code (s.link x).role := by
      rw [hu]
      simp
    have busy : (u.listening x).busyFor q.code = s.busyFor q.code := by rw [hu]; rfl
    have admitted : sittingAdmits q.code (u.listening x).sitting = sittingAdmits q.code s.sitting := by rw [hu]; rfl
    have refused : ∀ {st}, serve q x payload (u.listening x) = (u.listening x).refuse st →
        exec c s = .next (State.replied { s with protect := s.protectAfter c } x q.code st []) := fun served => by
      rw [exec_request h s, ← hu, State.requestReaches_of_refused pinned served, hu]
      rfl
    refine ⟨fun hr => refused (serve_of_role (admits.trans hr) payload),
      fun hr hb => refused (serve_of_busy (admits.trans hr) (busy.trans hb) payload), fun hr hb => ?_⟩
    have checked (hs : sittingAdmits q.code s.sitting = true) : (u.listening x).checked x q :=
      ⟨admits.trans hr, busy.trans hb, admitted.trans hs⟩
    refine ⟨fun hs => refused (serve_of_sitting (admits.trans hr) (busy.trans hb) (admitted.trans hs) payload),
      fun hs short => refused (serve_of_short (checked hs) short), fun hs first rest hp outside => ?_,
      fun number hi lo rest hc hp setup alone => ?_⟩
    · subst hp
      exact refused (serve_of_outside (checked hs) outside rest)
    · subst hp
      obtain rfl : q = .setParameter := by
        simpa using congrArg requestOf (hc.trans (show (0x10 : Byte) = Request.setParameter.code from rfl))
      have outside : (u.listening x).sitting ≠ .setup := by rwa [hu]
      exact refused (serve_of_setupParameter (checked rfl) outside alone hi lo rest)

end Sys2Proof.Machine
end

section
/-! One evaluation is seven evaluations that do not meet: each kind reads and writes its own part of a seat's
qualifiers alone (chapter 4). -/

namespace Sys2Proof.Machine

/-! ## The part of a kind -/

/-- What a seat's qualifiers hold of one kind. -/
@[ext] structure KindPart where
  state : QState
  due : Bool
  pv : Nat
  grade : Option Grade
  held : Option Bool
  mark : Bool

/-- The present value of a kind, 0 where the seat's qualifiers hold none for it. -/
def SeatMonitor.pvOf (m : SeatMonitor) : Kind → Nat
  | .battery => m.batteryPv
  | .mutedSpeech => m.mutedPv
  | .openNoFloor => m.openPv
  | .signalWeak => m.weakPv
  | .batteryShortfall | .dropouts | .signalLost => 0

/-- BATTERY's held condition, none for the other kinds. -/
def SeatMonitor.heldOf (m : SeatMonitor) (k : Kind) : Option Bool := if k = .battery then m.held else none

/-- The window mark of DROPOUTS, false for the other kinds. -/
def SeatMonitor.markOf (m : SeatMonitor) (k : Kind) : Bool := if k = .dropouts then m.windowMark else false

/-- A kind's part of a seat's qualifiers. -/
def SeatMonitor.part (m : SeatMonitor) (k : Kind) : KindPart :=
  ⟨m.state.get k, m.due.get k, m.pvOf k, gradeOf k m, m.heldOf k, m.markOf k⟩

theorem PerKind.ext_get {α : Type} {u v : PerKind α} (h : ∀ k, u.get k = v.get k) : u = v := by
  have h1 := h .battery
  have h2 := h .batteryShortfall
  have h3 := h .mutedSpeech
  have h4 := h .openNoFloor
  have h5 := h .signalWeak
  have h6 := h .dropouts
  have h7 := h .signalLost
  cases u
  cases v
  simp_all [PerKind.get]

/-- A seat's qualifiers are the parts of their kinds. -/
theorem SeatMonitor.ext_part {m m' : SeatMonitor} (h : ∀ k, m.part k = m'.part k) : m = m' := by
  have state : m.state = m'.state := PerKind.ext_get fun k => congrArg KindPart.state (h k)
  have due : m.due = m'.due := PerKind.ext_get fun k => congrArg KindPart.due (h k)
  have battery : m.batteryPv = m'.batteryPv := congrArg KindPart.pv (h .battery)
  have muted : m.mutedPv = m'.mutedPv := congrArg KindPart.pv (h .mutedSpeech)
  have opened : m.openPv = m'.openPv := congrArg KindPart.pv (h .openNoFloor)
  have weak : m.weakPv = m'.weakPv := congrArg KindPart.pv (h .signalWeak)
  have grade : m.grade = m'.grade := congrArg KindPart.grade (h .battery)
  have held : m.held = m'.held := congrArg KindPart.held (h .battery)
  have mark : m.windowMark = m'.windowMark := congrArg KindPart.mark (h .dropouts)
  cases m
  cases m'
  simp_all

section
variable (s : State) (tick : Bool) (n : Seat)

/-- Judging a kind leaves the due marks alone. -/
theorem State.due_judgeKind (k : Kind) (m : SeatMonitor) : (s.judgeKind tick n k m).1.due = m.due := by
  cases k with
  | battery => rfl
  | batteryShortfall =>
    simp only [State.judgeKind, State.judgeShortfall]
    split <;> rfl
  | mutedSpeech =>
    simp only [State.judgeKind]
    split <;> rfl
  | openNoFloor =>
    simp only [State.judgeKind, State.judgeOpenNoFloor]
    split
    · split <;> rfl
    · rfl
  | signalWeak => rfl
  | dropouts =>
    simp only [State.judgeKind, State.judgeDropouts]
    split
    · split <;> rfl
    · rfl
  | signalLost =>
    simp only [State.judgeKind, State.judgeSignalLost]
    split
    · split <;> rfl
    · rfl

/-- Judging a kind leaves the parts of the other kinds alone. -/
theorem State.part_judgeKind_of_ne {j k : Kind} (h : j ≠ k) (m : SeatMonitor) :
    (s.judgeKind tick n k m).1.part j = m.part j := by
  cases k with
  | battery => cases j <;> first | rfl | exact absurd rfl h
  | batteryShortfall =>
    simp only [State.judgeKind, State.judgeShortfall]
    split <;> cases j <;> first | rfl | exact absurd rfl h
  | mutedSpeech =>
    simp only [State.judgeKind]
    split <;> cases j <;> first | rfl | exact absurd rfl h
  | openNoFloor =>
    simp only [State.judgeKind, State.judgeOpenNoFloor]
    split
    · split <;> cases j <;> first | rfl | exact absurd rfl h
    · rfl
  | signalWeak => cases j <;> first | rfl | exact absurd rfl h
  | dropouts =>
    simp only [State.judgeKind, State.judgeDropouts]
    split
    · split <;> cases j <;> first | rfl | exact absurd rfl h
    · rfl
  | signalLost =>
    simp only [State.judgeKind, State.judgeSignalLost]
    split
    · split <;> cases j <;> first | rfl | exact absurd rfl h
    · cases j <;> first | rfl | exact absurd rfl h

/-- What a kind's judgement makes of its part, and its verdict, depend on that part alone. -/
theorem State.judgeKind_congr {k : Kind} {m m' : SeatMonitor} (h : m.part k = m'.part k) :
    (s.judgeKind tick n k m).1.part k = (s.judgeKind tick n k m').1.part k
      ∧ (s.judgeKind tick n k m).2 = (s.judgeKind tick n k m').2 := by
  obtain ⟨state, due, pv, grade, held, mark⟩ := KindPart.mk.inj h
  cases k <;> simp only [PerKind.get] at state due
  case battery =>
    have pv : m.batteryPv = m'.batteryPv := pv
    have grade : m.grade = m'.grade := grade
    have held : m.held = m'.held := held
    simp [State.judgeKind, State.judgeBattery, state, pv, held, grade, SeatMonitor.part, PerKind.get, due,
      gradeOf, SeatMonitor.pvOf, SeatMonitor.heldOf, SeatMonitor.markOf]
  case batteryShortfall =>
    simp only [State.judgeKind, State.judgeShortfall, state]
    split <;> simp [SeatMonitor.part, PerKind.get, gradeOf, due, state, SeatMonitor.pvOf, SeatMonitor.heldOf,
      SeatMonitor.markOf]
  case mutedSpeech =>
    have pv : m.mutedPv = m'.mutedPv := pv
    simp only [State.judgeKind, State.judgeMutedSpeech, state, pv]
    split <;> simp [SeatMonitor.part, PerKind.get, gradeOf, due, state, pv, SeatMonitor.pvOf, SeatMonitor.heldOf,
      SeatMonitor.markOf]
  case openNoFloor =>
    have pv : m.openPv = m'.openPv := pv
    simp only [State.judgeKind, State.judgeOpenNoFloor, state, pv]
    split
    · split <;> simp [SeatMonitor.part, PerKind.get, gradeOf, due, SeatMonitor.pvOf, SeatMonitor.heldOf,
        SeatMonitor.markOf]
    · simp [SeatMonitor.part, PerKind.get, gradeOf, due, state, pv, SeatMonitor.pvOf, SeatMonitor.heldOf,
        SeatMonitor.markOf]
  case signalWeak =>
    have pv : m.weakPv = m'.weakPv := pv
    simp [State.judgeKind, State.judgeSignalWeak, state, pv, SeatMonitor.part, PerKind.get, gradeOf, due,
      SeatMonitor.pvOf, SeatMonitor.heldOf, SeatMonitor.markOf]
  case dropouts =>
    have mark : m.windowMark = m'.windowMark := by simpa [SeatMonitor.markOf] using mark
    simp only [State.judgeKind, State.judgeDropouts, state]
    split
    · split <;> simp [SeatMonitor.part, PerKind.get, gradeOf, due, state, SeatMonitor.pvOf, SeatMonitor.heldOf,
        SeatMonitor.markOf]
    · simp [SeatMonitor.part, PerKind.get, gradeOf, due, state, mark, SeatMonitor.pvOf, SeatMonitor.heldOf,
        SeatMonitor.markOf]
  case signalLost =>
    simp only [State.judgeKind, State.judgeSignalLost, state]
    split
    · split <;> simp [SeatMonitor.part, PerKind.get, gradeOf, due, state, SeatMonitor.pvOf, SeatMonitor.heldOf,
        SeatMonitor.markOf]
    · simp [SeatMonitor.part, PerKind.get, gradeOf, due, SeatMonitor.pvOf, SeatMonitor.heldOf, SeatMonitor.markOf]

/-! ## A kind evaluated -/

@[simp] theorem SeatMonitor.state_dropDue (k : Kind) (v : Option Verdict) (m : SeatMonitor) :
    (m.dropDue k v).state = m.state := by
  simp only [SeatMonitor.dropDue]
  split <;> rfl

theorem SeatMonitor.due_dropDue (j k : Kind) (v : Option Verdict) (m : SeatMonitor) :
    (m.dropDue k v).due.get j = (m.due.get j && !(v == some .cleared && j == k)) := by
  simp only [SeatMonitor.dropDue]
  split
  · next h =>
    subst h
    by_cases hj : j = k <;> simp [hj]
  · next h => simp [h]

theorem SeatMonitor.part_dropDue (j k : Kind) (v : Option Verdict) (m : SeatMonitor) :
    (m.dropDue k v).part j = { m.part j with due := m.due.get j && !(v == some .cleared && j == k) } := by
  rw [← SeatMonitor.due_dropDue]
  simp only [SeatMonitor.dropDue]
  split <;> cases j <;> rfl

theorem State.part_evaluateKind_of_ne {j k : Kind} (h : j ≠ k) (m : SeatMonitor) :
    (s.evaluateKind tick n k m).1.part j = m.part j := by
  have judged := s.part_judgeKind_of_ne tick n h m
  simp only [State.evaluateKind, SeatMonitor.part_dropDue, judged, State.due_judgeKind, beq_eq_false_iff_ne.2 h,
    Bool.and_false, Bool.not_false, Bool.and_true]
  rfl

theorem detailOf_of_part {k : Kind} {m m' : SeatMonitor} (h : m.part k = m'.part k) (r : SeatRecord) :
    detailOf k r m = detailOf k r m' := by
  cases k <;> first | rfl | exact congrArg (fun p : KindPart => some (p.pv / 4)) h

theorem State.evaluateKind_congr {k : Kind} {m m' : SeatMonitor} (h : m.part k = m'.part k) :
    (s.evaluateKind tick n k m).1.part k = (s.evaluateKind tick n k m').1.part k
      ∧ (s.evaluateKind tick n k m).2 = (s.evaluateKind tick n k m').2 := by
  obtain ⟨part, verdict⟩ := s.judgeKind_congr tick n h
  have due : m.due.get k = m'.due.get k := congrArg KindPart.due h
  have grade : gradeOf k (s.judgeKind tick n k m).1 = gradeOf k (s.judgeKind tick n k m').1 :=
    congrArg KindPart.grade part
  have detail := detailOf_of_part part (s.seat n)
  constructor
  · simp only [State.evaluateKind, SeatMonitor.part_dropDue, part, State.due_judgeKind, due, verdict]
  · simp only [State.evaluateKind, State.outcomeFor, due, verdict, grade, detail]

/-! ## A seat evaluated -/

/-- One step of a seat's evaluation (R59). -/
def State.evaluateStep (kinds : PerKind Bool) (acc : SeatMonitor × List HandedOutcome) (k : Kind) :
    SeatMonitor × List HandedOutcome :=
  if kinds.get k then
    let one := s.evaluateKind tick n k acc.1
    (one.1, acc.2 ++ one.2)
  else acc

theorem State.evaluateSeat_eq (kinds : PerKind Bool) (m : SeatMonitor) :
    s.evaluateSeat tick n kinds m = allKinds.foldl (s.evaluateStep tick n kinds) (m, []) := rfl

/-- What kinds that are evaluated one after another make of each kind's part, and what they hand on. -/
theorem State.foldl_evaluateStep (kinds : PerKind Bool) (m : SeatMonitor) :
    ∀ (l : List Kind) (acc : SeatMonitor × List HandedOutcome), l.Nodup → (∀ k ∈ l, acc.1.part k = m.part k) →
      (∀ k, (l.foldl (s.evaluateStep tick n kinds) acc).1.part k
          = if k ∈ l ∧ kinds.get k = true then (s.evaluateKind tick n k m).1.part k else acc.1.part k)
        ∧ (l.foldl (s.evaluateStep tick n kinds) acc).2
          = acc.2 ++ l.flatMap fun k => if kinds.get k then (s.evaluateKind tick n k m).2 else [] := by
  intro l
  induction l with
  | nil => simp
  | cons j l ih =>
    intro acc hl same
    obtain ⟨hj, hl⟩ := List.nodup_cons.1 hl
    have ne : ∀ k ∈ l, k ≠ j := fun k hk h => hj (h ▸ hk)
    obtain ⟨here, handed⟩ := s.evaluateKind_congr tick n (same j List.mem_cons_self)
    by_cases on : kinds.get j = true
    · have step : s.evaluateStep tick n kinds acc j
          = ((s.evaluateKind tick n j acc.1).1, acc.2 ++ (s.evaluateKind tick n j m).2) := by
        simp only [State.evaluateStep, on, if_true, handed]
      obtain ⟨parts, outs⟩ := ih (s.evaluateStep tick n kinds acc j) hl fun k hk => by
        rw [step, State.part_evaluateKind_of_ne _ _ _ (ne k hk), same k (List.mem_cons_of_mem _ hk)]
      refine ⟨fun k => ?_, ?_⟩
      · rw [List.foldl_cons, parts k, step]
        by_cases hk : k = j
        · subst hk
          simp only [hj, false_and, if_false, List.mem_cons_self, on, and_self, if_true, here]
        · simp only [List.mem_cons, hk, false_or, s.part_evaluateKind_of_ne tick n hk]
      · rw [List.foldl_cons, outs, step, List.flatMap_cons, if_pos on, List.append_assoc]
    · have step : s.evaluateStep tick n kinds acc j = acc := by simp only [State.evaluateStep, on, Bool.false_eq_true,
        if_false]
      obtain ⟨parts, outs⟩ := ih acc hl fun k hk => same k (List.mem_cons_of_mem _ hk)
      refine ⟨fun k => ?_, ?_⟩
      · rw [List.foldl_cons, step, parts k]
        by_cases hk : k = j
        · subst hk
          simp only [hj, on, Bool.false_eq_true, and_false, if_false]
        · simp only [List.mem_cons, hk, false_or]
      · rw [List.foldl_cons, step, outs, List.flatMap_cons, if_neg on, List.nil_append]

theorem allKinds_nodup : allKinds.Nodup := by decide

theorem State.part_evaluateSeat (kinds : PerKind Bool) (m : SeatMonitor) (k : Kind) :
    (s.evaluateSeat tick n kinds m).1.part k
      = if kinds.get k then (s.evaluateKind tick n k m).1.part k else m.part k := by
  rw [State.evaluateSeat_eq,
    (s.foldl_evaluateStep tick n kinds m allKinds (m, []) allKinds_nodup fun _ _ => rfl).1 k]
  simp

theorem State.outcomes_evaluateSeat (kinds : PerKind Bool) (m : SeatMonitor) :
    (s.evaluateSeat tick n kinds m).2
      = allKinds.flatMap fun k => if kinds.get k then (s.evaluateKind tick n k m).2 else [] := by
  rw [State.evaluateSeat_eq,
    (s.foldl_evaluateStep tick n kinds m allKinds (m, []) allKinds_nodup fun _ _ => rfl).2, List.nil_append]

end

/-! ## An evaluation, kind by kind -/

/-- A (seat, kind) is judged at an evaluation. -/
def State.judges (s : State) (kinds : Seat → PerKind Bool) (n : Seat) (k : Kind) : Bool :=
  s.evaluates n && (kinds n).get k

section
variable (s : State) (tick : Bool) (kinds : Seat → PerKind Bool)

/-- An evaluation leaves every kind it does not judge, and moves each other one by its own judgement. -/
theorem State.part_evaluateAll (n : Seat) (k : Kind) :
    ((s.evaluateAll tick kinds).monitor n).part k
      = if s.judges kinds n k then (s.evaluateKind tick n k (s.monitor n)).1.part k else (s.monitor n).part k := by
  rw [State.monitor_evaluateAll, State.evaluated, State.judges]
  by_cases h : s.evaluates n = true
  · simp only [h, if_true, State.part_evaluateSeat, Bool.true_and]
  · simp only [h, Bool.false_eq_true, if_false, Bool.false_and]

theorem State.outcomes_eq : s.outcomes tick kinds = allSeats.flatMap fun n => allKinds.flatMap fun k =>
    if s.judges kinds n k then (s.evaluateKind tick n k (s.monitor n)).2 else [] := by
  refine List.flatMap_congr fun n _ => ?_
  rw [State.evaluated]
  by_cases h : s.evaluates n = true
  · simp only [h, if_true, State.outcomes_evaluateSeat, State.judges, Bool.true_and]
  · simp [h, State.judges]

end

end Sys2Proof.Machine
end

section
/-! What the judgement of a kind hands on: a qualified outcome as the qualifier enters QUALIFIED, a cleared one as it
leaves, a grade rise of a BATTERY that stays (R59, R66, R75, R76). -/

namespace Sys2Proof.Machine

section
variable (s : State) (tick : Bool) (n : Seat)

/-- A verdict agrees with the states between which a qualifier moves. -/
structure Verdict.fits (k : Kind) (v : Option Verdict) (before now : QState) : Prop where
  qualified : v = some .qualified ↔ before ≠ .qualified ∧ now = .qualified
  cleared : v = some .cleared ↔ before = .qualified ∧ now ≠ .qualified
  rise : v = some .gradeRise → k = .battery ∧ before = .qualified ∧ now = .qualified

theorem Verdict.fits_of_resetting (k : Kind) {tick holds clears : Bool} {setValue : Nat} {q : QState} {pv : Nat} :
    Verdict.fits k (resetting tick setValue holds clears q pv).2.2 q (resetting tick setValue holds clears q pv).1 := by
  obtain ⟨qualified, cleared, rise⟩ := resetting_verdict (tick := tick) (holds := holds) (clears := clears)
    (setValue := setValue) (q := q) (pv := pv) rfl
  exact ⟨qualified, cleared, fun h => absurd h rise⟩

theorem Verdict.fits_of_accumulatingEvent (k : Kind) {limit : Nat} {holds : Bool} {q : QState} {pv : Nat} :
    Verdict.fits k (accumulatingEvent limit holds q pv).2 q (accumulatingEvent limit holds q pv).1 := by
  cases q <;> cases holds <;> simp only [accumulatingEvent] <;> (try split) <;> constructor <;> simp

theorem Verdict.fits_of_accumulatingTick (k : Kind) {limit : Nat} {holds : Bool} {q : QState} {pv : Nat} :
    Verdict.fits k (accumulatingTick limit holds q pv).2.2 q (accumulatingTick limit holds q pv).1 := by
  cases q <;> cases holds <;> simp only [accumulatingTick, if_true, if_false, Bool.false_eq_true] <;> (try split) <;>
    constructor <;> simp

/-- BATTERY's grade keeps what its qualifier hands on, and may add a rise where it stays QUALIFIED (R66). -/
theorem Verdict.fits_batteryGrade {p : Params} {r : SeatRecord} {held : Option Bool} {before now : QState}
    {v : Option Verdict} {grade : Option Grade} (h : Verdict.fits .battery v before now) (hv : v ≠ some .gradeRise) :
    Verdict.fits .battery (batteryGrade p r held now v grade).2 before now := by
  have stays (hn : now = .qualified) (hq : v ≠ some .qualified) : before = .qualified := by
    by_contra hb
    exact hq (h.qualified.2 ⟨hb, hn⟩)
  rcases v with _ | _ | _ | _
  · simp only [batteryGrade]
    split
    · next rises =>
      have kept := stays rises.1 (by simp)
      exact ⟨by simp [kept], by simp [rises.1], fun _ => ⟨rfl, kept, rises.1⟩⟩
    · exact h
  · exact h
  · exact absurd rfl hv
  · exact h

theorem State.judgeKind_fits (k : Kind) (m : SeatMonitor) :
    Verdict.fits k (s.judgeKind tick n k m).2 (m.state.get k) ((s.judgeKind tick n k m).1.state.get k) := by
  cases k with
  | battery =>
    refine Verdict.fits_batteryGrade (Verdict.fits_of_resetting .battery) ?_
    exact (resetting_verdict (q' := _) (pv' := _) rfl).2.2
  | batteryShortfall =>
    simp only [State.judgeKind, State.judgeShortfall, PerKind.get]
    split <;> constructor <;> simp_all
  | mutedSpeech =>
    simp only [State.judgeKind]
    split
    · exact Verdict.fits_of_resetting .mutedSpeech
    · constructor <;> simp
  | openNoFloor =>
    simp only [State.judgeKind, State.judgeOpenNoFloor, PerKind.get]
    split
    · split
      · exact Verdict.fits_of_accumulatingTick .openNoFloor
      · exact Verdict.fits_of_accumulatingEvent .openNoFloor
    · constructor <;> simp
  | signalWeak => exact Verdict.fits_of_resetting .signalWeak
  | dropouts =>
    simp only [State.judgeKind, State.judgeDropouts, PerKind.get]
    split
    · split <;> constructor <;> simp_all
    · constructor <;> simp
  | signalLost =>
    simp only [State.judgeKind, State.judgeSignalLost, PerKind.get]
    split
    · split <;> constructor <;> simp_all
    · split <;> constructor <;> simp_all

/-- The grade that goes with a qualified outcome is there for BATTERY alone (R59, R66). -/
theorem State.gradeOf_judgeKind {k : Kind} {m : SeatMonitor}
    (h : (s.judgeKind tick n k m).2 = some .qualified) :
    (gradeOf k (s.judgeKind tick n k m).1).isSome = true ↔ k = .battery := by
  cases k with
  | battery =>
    simp only [State.judgeKind, State.judgeBattery] at h
    simp only [gradeOf, iff_true, State.judgeKind, State.judgeBattery]
    generalize (resetting _ _ _ _ _ _) = moved at h ⊢
    obtain ⟨q, pv, v⟩ := moved
    rcases v with _ | _ | _ | _
    · simp only [batteryGrade] at h
      split at h <;> cases h
    · rfl
    · simp only [batteryGrade] at h
      split at h <;> cases h
    · simp only [batteryGrade] at h
      cases h
  | batteryShortfall | mutedSpeech | openNoFloor | signalWeak | dropouts | signalLost => simp [gradeOf]

/-! ## A kind evaluated -/

/-- What the evaluation of one kind hands on: its verdict, where a due mark does not keep it back (R59, R75, R76). -/
theorem State.mem_evaluateKind {k : Kind} {m : SeatMonitor} {o : HandedOutcome} :
    o ∈ (s.evaluateKind tick n k m).2 ↔ ∃ v, (s.judgeKind tick n k m).2 = some v
      ∧ (v = .qualified ∨ m.due.get k = false)
      ∧ o = ⟨n, k, v, gradeOf k (s.judgeKind tick n k m).1, detailOf k (s.seat n) (s.judgeKind tick n k m).1⟩ := by
  simp only [State.evaluateKind, State.outcomeFor]
  rcases (s.judgeKind tick n k m).2 with _ | v
  · simp
  · cases v <;> simp

theorem State.length_evaluateKind (k : Kind) (m : SeatMonitor) : (s.evaluateKind tick n k m).2.length ≤ 1 := by
  simp only [State.evaluateKind, State.outcomeFor]
  split
  · exact Nat.zero_le _
  · exact Nat.le_refl _
  · split
    · exact Nat.zero_le _
    · exact Nat.le_refl _

theorem State.state_evaluateKind (k : Kind) (m : SeatMonitor) :
    (s.evaluateKind tick n k m).1.state = (s.judgeKind tick n k m).1.state := SeatMonitor.state_dropDue ..

theorem State.due_evaluateKind (k : Kind) (m : SeatMonitor) : (s.evaluateKind tick n k m).1.due.get k
    = (m.due.get k && !((s.judgeKind tick n k m).2 == some .cleared)) := by
  rw [State.evaluateKind, SeatMonitor.due_dropDue, State.due_judgeKind]
  simp

end

/-! ## The outcomes of an evaluation -/

section
variable (s : State) (tick : Bool) (kinds : Seat → PerKind Bool)

/-- The outcomes of an evaluation are those of the (seat, kind)s it judges. -/
theorem State.mem_outcomes {o : HandedOutcome} : o ∈ s.outcomes tick kinds ↔
    s.judges kinds o.seat o.kind = true ∧ o ∈ (s.evaluateKind tick o.seat o.kind (s.monitor o.seat)).2 := by
  rw [State.outcomes_eq]
  simp only [List.mem_flatMap, mem_allSeats, mem_allKinds, true_and]
  constructor
  · rintro ⟨n, k, h⟩
    split at h
    · next judged =>
      obtain ⟨v, -, -, rfl⟩ := (s.mem_evaluateKind tick n).1 h
      exact ⟨judged, h⟩
    · cases h
  · rintro ⟨judged, h⟩
    exact ⟨o.seat, o.kind, by rwa [if_pos judged]⟩

/-- An evaluation hands on at most one outcome for a (seat, kind). -/
theorem State.outcomes_pairwise :
    (s.outcomes tick kinds).Pairwise fun a b => ¬ (a.seat = b.seat ∧ a.kind = b.kind) := by
  have own : ∀ n k o, o ∈ (if s.judges kinds n k then (s.evaluateKind tick n k (s.monitor n)).2 else []) →
      o.seat = n ∧ o.kind = k := by
    intro n k o h
    split at h
    · obtain ⟨v, -, -, rfl⟩ := (s.mem_evaluateKind tick n).1 h
      exact ⟨rfl, rfl⟩
    · cases h
  have single : ∀ n k, (if s.judges kinds n k then (s.evaluateKind tick n k (s.monitor n)).2 else []).Pairwise
      fun a b => ¬ (a.seat = b.seat ∧ a.kind = b.kind) := by
    intro n k
    split
    · match h : (s.evaluateKind tick n k (s.monitor n)).2 with
      | [] => exact .nil
      | [o] => exact List.pairwise_singleton ..
      | _ :: _ :: _ =>
        have := s.length_evaluateKind tick n k (s.monitor n)
        simp [h] at this
    · exact .nil
  rw [State.outcomes_eq, List.pairwise_flatMap]
  refine ⟨fun n _ => ?_, (List.nodup_finRange 128).imp fun {n m} ne a ha b hb same => ?_⟩
  · rw [List.pairwise_flatMap]
    refine ⟨fun k _ => single n k, allKinds_nodup.imp fun {j k} ne a ha b hb same => ?_⟩
    exact ne ((own n j a ha).2.symm.trans (same.2.trans (own n k b hb).2))
  · obtain ⟨j, -, hj⟩ := List.mem_flatMap.1 ha
    obtain ⟨k, -, hk⟩ := List.mem_flatMap.1 hb
    exact ne ((own n j a hj).1.symm.trans (same.1.trans (own m k b hk).1))

end

end Sys2Proof.Machine
end

section
/-! What each operation of the Warning List does to the record, the due mark and the qualifier of a (seat, kind):
it moves one (seat, kind) and leaves the others (R80, R83 to R90). -/

namespace Sys2Proof.Machine

/-! ## The record of a (seat, kind) -/

/-- A change of records that keeps their seat and kind. -/
def Record.keepsKey (f : Record → Record) : Prop := ∀ r, (f r).seat = r.seat ∧ (f r).kind = r.kind

theorem Record.isFor_of_keepsKey {f : Record → Record} (h : Record.keepsKey f) (n : Seat) (k : Kind) (r : Record) :
    (f r).isFor n k = r.isFor n k := by rw [Record.isFor, Record.isFor, (h r).1, (h r).2]

theorem keepsKey_reRaise (p : Params) (c : Nat) (g : Option Grade) (d : Option Nat) :
    Record.keepsKey (Record.reRaise p c g d) := fun _ => ⟨rfl, rfl⟩

theorem keepsKey_gradeRise (p : Params) (c : Nat) (d : Option Nat) : Record.keepsKey (Record.gradeRise p c d) :=
  fun _ => ⟨rfl, rfl⟩

theorem keepsKey_clearing (c : Nat) : Record.keepsKey (Record.clearing c) := fun _ => ⟨rfl, rfl⟩

theorem keepsKey_acked (c : Nat) (x : LinkId) : Record.keepsKey (Record.acked c x) := fun _ => ⟨rfl, rfl⟩

theorem keepsKey_ackedAgain (x : LinkId) : Record.keepsKey (Record.ackedAgain x) := fun _ => ⟨rfl, rfl⟩

section
variable (s : State) (n m : Seat) (j k : Kind)

theorem State.record_updateRecord {f : Record → Record} (h : Record.keepsKey f) :
    (s.updateRecord n k f).record m j = if m = n ∧ j = k then (s.record n k).map f else s.record m j := by
  simp only [State.record, State.updateRecord_records]
  induction s.records with
  | nil => simp
  | cons r rs ih =>
    have key : (if r.isFor n k then f r else r).isFor m j = r.isFor m j := by
      split
      · exact Record.isFor_of_keepsKey h m j r
      · rfl
    simp only [List.map_cons, List.find?_cons, key, ih]
    by_cases hr : r.isFor m j = true
    · by_cases hmn : m = n ∧ j = k
      · obtain ⟨rfl, rfl⟩ := hmn
        simp [hr]
      · have off : r.isFor n k = false := by
          rw [Bool.eq_false_iff]
          intro hn
          obtain ⟨hs, hk⟩ := (Record.isFor_iff ..).1 hr
          obtain ⟨hs', hk'⟩ := (Record.isFor_iff ..).1 hn
          exact hmn ⟨hs.symm.trans hs', hk.symm.trans hk'⟩
        simp [hr, hmn, off]
    · by_cases hmn : m = n ∧ j = k
      · obtain ⟨rfl, rfl⟩ := hmn
        simp [hr]
      · simp [hr, hmn]

theorem State.record_appendRecord (r : Record) : (s.appendRecord r).record m j
    = (s.record m j).or (if r.isFor m j then some r else none) := by
  by_cases h : r.isFor m j = true <;> simp [State.record, List.find?_append, h]

theorem State.record_removeRecord :
    (s.removeRecord n k).record m j = if m = n ∧ j = k then none else s.record m j := by
  simp only [State.record, State.removeRecord_records, List.find?_filter]
  split
  · next h =>
    obtain ⟨rfl, rfl⟩ := h
    simp
  · next h =>
    congr 1
    funext r
    by_cases hr : r.isFor m j = true
    · have off : r.isFor n k = false := by
        rw [Bool.eq_false_iff]
        intro hn
        obtain ⟨hs, hk⟩ := (Record.isFor_iff ..).1 hr
        obtain ⟨hs', hk'⟩ := (Record.isFor_iff ..).1 hn
        exact h ⟨hs.symm.trans hs', hk.symm.trans hk'⟩
      simp [hr, off]
    · simp [hr]

@[simp] theorem State.record_putMonitor (v : SeatMonitor) : (s.putMonitor n v).record m j = s.record m j := rfl
@[simp] theorem State.record_putDue (d : Bool) : (s.putDue n k d).record m j = s.record m j := rfl
@[simp] theorem State.record_setDue : (s.setDue n k).record m j = s.record m j := by
  simp only [State.record, State.setDue_records]

end

/-! ## The list's own law (R80) -/

section
variable {s : State}

theorem State.record_of_mem (hs : s.listLaw) {r : Record} (hr : r ∈ s.records) : s.record r.seat r.kind = some r := by
  cases h : s.record r.seat r.kind with
  | none =>
    have none := (State.record_eq_none ..).1 h r hr
    simp [Record.isFor] at none
  | some q =>
    obtain ⟨hq, hs', hk⟩ := State.mem_of_record h
    exact congrArg some (List.inj_on_of_nodup_map hs.2 hq hr (Prod.ext hs' hk))

theorem State.listLaw_updateRecord (hs : s.listLaw) (n : Seat) (k : Kind) {f : Record → Record}
    (h : Record.keepsKey f) : (s.updateRecord n k f).listLaw := by
  have keys : (s.updateRecord n k f).records.map (fun r => (r.seat, r.kind))
      = s.records.map fun r => (r.seat, r.kind) := by
    simp only [State.updateRecord_records, List.map_map]
    refine List.map_congr_left fun r _ => ?_
    simp only [Function.comp]
    split
    · rw [(h r).1, (h r).2]
    · rfl
  exact ⟨by simpa using hs.1, keys ▸ hs.2⟩

theorem State.listLaw_appendRecord (hs : s.listLaw) {r : Record} (room : s.records.length < Config.listCapacity)
    (new : s.record r.seat r.kind = none) : (s.appendRecord r).listLaw := by
  refine ⟨by simpa using room, ?_⟩
  rw [State.appendRecord_records, List.map_append, List.map_singleton, List.nodup_append]
  refine ⟨hs.2, List.nodup_singleton _, fun key hkey own hown same => ?_⟩
  obtain ⟨q, hq, rfl⟩ := List.mem_map.1 hkey
  rw [List.mem_singleton.1 hown] at same
  obtain ⟨hseat, hkind⟩ := Prod.mk.inj same
  have none := (State.record_eq_none ..).1 new q hq
  simp [Record.isFor, hseat, hkind] at none

theorem State.listLaw_of_sublist {t : State} (hs : s.listLaw) (sub : t.records.Sublist s.records) : t.listLaw :=
  ⟨sub.length_le.trans hs.1, hs.2.sublist (sub.map _)⟩

theorem State.listLaw_removeRecord (hs : s.listLaw) (n : Seat) (k : Kind) : (s.removeRecord n k).listLaw :=
  State.listLaw_of_sublist hs (by simp)

end

/-! ## Warnings -/

/-- A (seat, kind) has a warning: a due mark or an active record (R58, R75, R86). -/
def State.warns (s : State) (n : Seat) (k : Kind) : Prop :=
  s.isDue n k = true ∨ ∃ r ∈ s.record n k, r.active = true

theorem State.warns_congr {s t : State} {n : Seat} {k : Kind} (due : t.isDue n k = s.isDue n k)
    (record : t.record n k = s.record n k) : t.warns n k ↔ s.warns n k := by rw [State.warns, State.warns, due, record]

/-- In a lawful list a warning is a due mark or an active record of it. -/
theorem State.warns_iff {s : State} (hs : s.listLaw) (n : Seat) (k : Kind) : s.warns n k ↔
    (s.isDue n k = true ∨ ∃ r ∈ s.records, r.isFor n k = true ∧ r.active = true) := by
  refine or_congr Iff.rfl ⟨fun ⟨r, hr, active⟩ => ?_, fun ⟨r, hr, key, active⟩ => ⟨r, ?_, active⟩⟩
  · obtain ⟨mem, seat, kind⟩ := State.mem_of_record hr
    exact ⟨r, mem, (Record.isFor_iff ..).2 ⟨seat, kind⟩, active⟩
  · obtain ⟨rfl, rfl⟩ := (Record.isFor_iff ..).1 key
    exact State.record_of_mem hs hr

end Sys2Proof.Machine
end

section
/-! One outcome applied, one mark admitted, one record acknowledged: what the list makes of the (seat, kind)
concerned and of the others (R83 to R90). -/

namespace Sys2Proof.Machine

/-- All that the list and the monitor hold of a (seat, kind) stays. -/
structure State.sameAt (s t : State) (n : Seat) (k : Kind) : Prop where
  record : t.record n k = s.record n k
  due : t.isDue n k = s.isDue n k
  state : (t.monitor n).state.get k = (s.monitor n).state.get k

/-- All but one (seat, kind) stay, and the list stays lawful. -/
structure State.movesOnly (s t : State) (n : Seat) (k : Kind) : Prop where
  list : s.listLaw → t.listLaw
  others : ∀ m j, ¬(m = n ∧ j = k) → s.sameAt t m j

section
variable (s : State) (n : Seat) (k : Kind)

theorem State.movesOnly_refl : s.movesOnly s n k := ⟨id, fun _ _ _ => ⟨rfl, rfl, rfl⟩⟩

theorem State.movesOnly_updateRecord {f : Record → Record} (h : Record.keepsKey f) :
    s.movesOnly (s.updateRecord n k f) n k :=
  ⟨fun hs => State.listLaw_updateRecord hs n k h,
    fun m j off => ⟨by rw [State.record_updateRecord s n m j k h, if_neg off], rfl, rfl⟩⟩

theorem State.monitor_putDue (d : Bool) (m : Seat) : (s.putDue n k d).monitor m
    = if m = n then { s.monitor n with due := (s.monitor n).due.set k d } else s.monitor m :=
  State.monitor_putMonitor ..

theorem State.monitor_setDue (m : Seat) : (s.setDue n k).monitor m = (s.putDue n k true).monitor m := by
  simp only [State.setDue]
  split <;> rfl

theorem State.state_putDue (d : Bool) (m : Seat) : ((s.putDue n k d).monitor m).state = (s.monitor m).state := by
  rw [State.monitor_putDue]
  split
  · next h => rw [h]
  · rfl

theorem State.state_setDue (m : Seat) : ((s.setDue n k).monitor m).state = (s.monitor m).state := by
  rw [State.monitor_setDue, State.state_putDue]

theorem State.movesOnly_putDue (d : Bool) : s.movesOnly (s.putDue n k d) n k :=
  ⟨id, fun m j off => ⟨rfl, by rw [State.isDue_putDue, if_neg off], by rw [State.state_putDue]⟩⟩

theorem State.movesOnly_setDue : s.movesOnly (s.setDue n k) n k := by
  refine ⟨fun hs => ?_, fun m j off => ⟨State.record_setDue .., by rw [State.isDue_setDue, if_neg off], ?_⟩⟩
  · simpa [State.listLaw] using hs
  · rw [State.state_setDue]

theorem State.movesOnly_appendRecord {r : Record} (room : s.records.length < Config.listCapacity)
    (new : s.record r.seat r.kind = none) : s.movesOnly (s.appendRecord r) r.seat r.kind := by
  refine ⟨fun hs => State.listLaw_appendRecord hs room new, fun m j off => ⟨?_, rfl, rfl⟩⟩
  rw [State.record_appendRecord, if_neg, Option.or_none]
  intro h
  obtain ⟨hs, hk⟩ := (Record.isFor_iff ..).1 h
  exact off ⟨hs.symm, hk.symm⟩

/-- A seat's qualifiers as a removal of its OPEN_NO_FLOOR record leaves them (R74, R76). -/
def State.openRemoved (s : State) (n : Seat) : SeatMonitor :=
  { (s.monitor n).openReset (s.openRestart n) with due := (s.monitor n).due.set .openNoFloor false }

/-- A removal tells the monitor of an OPEN_NO_FLOOR record alone (R88). -/
theorem State.monitor_removeRecord (m : Seat) : (s.removeRecord n k).monitor m
    = if k = .openNoFloor ∧ m = n then s.openRemoved n else s.monitor m := by
  simp only [State.removeRecord]
  split
  · next hk =>
    simp only [hk, true_and, State.resetOpenPv, State.monitor_putMonitor]
    rfl
  · next hk =>
    simp only [hk, false_and, if_false]
    rfl

theorem State.openRestart_ne_qualified : s.openRestart n ≠ .qualified := by
  simp only [State.openRestart]
  split <;> simp

theorem State.state_openRemoved_of_ne {j : Kind} (h : j ≠ .openNoFloor) :
    (s.openRemoved n).state.get j = (s.monitor n).state.get j := by
  cases j <;> first | rfl | exact absurd rfl h

theorem State.movesOnly_removeRecord : s.movesOnly (s.removeRecord n k) n k := by
  refine ⟨fun hs => State.listLaw_removeRecord hs n k, fun m j off => ?_⟩
  have record : (s.removeRecord n k).record m j = s.record m j := by rw [State.record_removeRecord, if_neg off]
  by_cases h : k = .openNoFloor ∧ m = n
  · obtain ⟨rfl, rfl⟩ := h
    have hj : j ≠ .openNoFloor := fun hj => off ⟨rfl, hj⟩
    refine ⟨record, ?_, ?_⟩
    · simp [State.isDue, State.monitor_removeRecord, State.openRemoved, hj]
    · rw [State.monitor_removeRecord, if_pos ⟨rfl, rfl⟩, State.state_openRemoved_of_ne _ _ hj]
  · refine ⟨record, ?_, ?_⟩
    · rw [State.isDue, State.monitor_removeRecord, if_neg h, State.isDue]
    · rw [State.monitor_removeRecord, if_neg h]

end

/-! ## One outcome -/

/-- What one outcome makes of its own (seat, kind) (R83 to R86). -/
structure State.takes (s t : State) (o : HandedOutcome) : Prop where
  moves : s.movesOnly t o.seat o.kind
  state : (t.monitor o.seat).state.get o.kind = (s.monitor o.seat).state.get o.kind
    ∨ o.verdict = .cleared ∧ o.kind = .openNoFloor ∧ (t.monitor o.seat).state.get o.kind ≠ .qualified
  undue : (t.record o.seat o.kind).isSome = true → t.isDue o.seat o.kind = false
  qualified : o.verdict = .qualified → t.warns o.seat o.kind
  rise : o.verdict = .gradeRise → t.isDue o.seat o.kind = false ∧ (t.warns o.seat o.kind ↔ s.warns o.seat o.kind)
  cleared : o.verdict = .cleared → t.isDue o.seat o.kind = false ∧ ¬ t.warns o.seat o.kind

theorem State.warns_of_active {t : State} {n : Seat} {k : Kind} {r : Record} (h : t.record n k = some r)
    (active : r.active = true) : t.warns n k := .inr ⟨r, h, active⟩

theorem State.not_warns_of_none {t : State} {n : Seat} {k : Kind} (due : t.isDue n k = false)
    (h : t.record n k = none) : ¬ t.warns n k := by simp [State.warns, due, h]

theorem State.not_warns_of_cleared {t : State} {n : Seat} {k : Kind} {r : Record} (due : t.isDue n k = false)
    (h : t.record n k = some r) (cleared : r.state = .clearedUnacked) : ¬ t.warns n k := by
  simp [State.warns, due, h, Record.active, cleared]

theorem Record.active_iff (r : Record) : r.active = true ↔ r.state ≠ .clearedUnacked := by simp [Record.active]

section
variable {s : State} {o : HandedOutcome} (due : s.isDue o.seat o.kind = false)
include due

theorem State.takes_raise (hv : o.verdict = .qualified) (new : s.record o.seat o.kind = none) :
    s.takes (s.raise o) o := by
  simp only [State.raise]
  split
  · next room =>
    have appended : (s.appendRecord (newRecord s.params s.clock o.seat o.kind o.grade o.detail)).record o.seat o.kind
        = some (newRecord s.params s.clock o.seat o.kind o.grade o.detail) := by
      simp [State.record_appendRecord, new, Record.isFor, newRecord]
    exact ⟨s.movesOnly_appendRecord room new, .inl rfl, fun _ => due, fun _ => State.warns_of_active appended rfl,
      by simp [hv], by simp [hv]⟩
  · exact ⟨s.movesOnly_setDue .., .inl (by rw [State.state_setDue]), by simp [new],
      fun _ => .inl (by simp), by simp [hv], by simp [hv]⟩

/-- An outcome that changes a record where it stands and leaves its warning as it was. -/
theorem State.takes_update {f : Record → Record} (h : Record.keepsKey f) {r : Record}
    (hr : s.record o.seat o.kind = some r)
    (qualified : o.verdict = .qualified → (f r).state ≠ .clearedUnacked)
    (rise : o.verdict = .gradeRise → (f r).active = r.active)
    (cleared : o.verdict = .cleared → (f r).state = .clearedUnacked) :
    s.takes (s.updateRecord o.seat o.kind f) o := by
  have here : (s.updateRecord o.seat o.kind f).record o.seat o.kind = some (f r) := by
    rw [State.record_updateRecord _ _ _ _ _ h, if_pos ⟨rfl, rfl⟩, hr]
    rfl
  refine ⟨s.movesOnly_updateRecord _ _ h, .inl rfl, fun _ => due, fun hv => ?_, fun hv => ⟨due, ?_⟩,
    fun hv => ⟨due, State.not_warns_of_cleared due here (cleared hv)⟩⟩
  · exact State.warns_of_active here ((Record.active_iff _).2 (qualified hv))
  · rw [State.warns, State.warns, here, hr]
    simp only [Option.mem_some_iff, exists_eq_left', rise hv]
    rfl

/-- An outcome that finds its (seat, kind) as it would leave it. -/
theorem State.takes_nothing
    (qualified : o.verdict = .qualified → s.warns o.seat o.kind)
    (cleared : o.verdict = .cleared → ¬ s.warns o.seat o.kind) : s.takes s o :=
  ⟨s.movesOnly_refl .., .inl rfl, fun _ => due, qualified, fun _ => ⟨due, Iff.rfl⟩, fun hv => ⟨due, cleared hv⟩⟩

theorem State.takes_removeRecord (hv : o.verdict = .cleared) : s.takes (s.removeRecord o.seat o.kind) o := by
  have gone : (s.removeRecord o.seat o.kind).record o.seat o.kind = none := by
    rw [State.record_removeRecord, if_pos ⟨rfl, rfl⟩]
  have undue : (s.removeRecord o.seat o.kind).isDue o.seat o.kind = false := by
    rw [State.isDue, State.monitor_removeRecord]
    split
    · next h => simp [State.openRemoved, h.1]
    · exact due
  refine ⟨s.movesOnly_removeRecord .., ?_, by simp [gone], by simp [hv], by simp [hv],
    fun _ => ⟨undue, State.not_warns_of_none undue gone⟩⟩
  rw [State.monitor_removeRecord]
  split
  · next h =>
    refine .inr ⟨hv, h.1, ?_⟩
    rw [h.1]
    exact State.openRestart_ne_qualified s o.seat
  · exact .inl rfl

/-- The list takes one outcome of a (seat, kind) that is not due (R83 to R86). -/
theorem State.takes_applyOutcome : s.takes (s.applyOutcome o) o := by
  simp only [State.applyOutcome]
  split
  case h_1 hv new => exact State.takes_raise due hv new
  case h_2 r hv hr =>
    split
    · next cleared => exact State.takes_update due (keepsKey_reRaise _ _ _ _) hr (by simp [Record.reRaise]) (by simp [hv]) (by simp [hv])
    · next active => exact State.takes_nothing due (fun _ => State.warns_of_active hr ((Record.active_iff r).2 active)) (by simp [hv])
  case h_3 hv new => exact State.takes_nothing due (by simp [hv]) (by simp [hv])
  case h_4 r hv hr =>
    split
    · exact State.takes_nothing due (by simp [hv]) (by simp [hv])
    · next active =>
      refine State.takes_update due (keepsKey_gradeRise _ _ _) hr (by simp [hv]) (fun _ => ?_) (by simp [hv])
      rw [(Record.active_iff r).2 active]
      rfl
  case h_5 hv new => exact State.takes_nothing due (by simp [hv]) fun _ => State.not_warns_of_none due new
  case h_6 r hv hr =>
    split
    · exact State.takes_update due (keepsKey_clearing _) hr (by simp [hv]) (by simp [hv]) fun _ => rfl
    · exact State.takes_removeRecord due hv
    · next cleared => exact State.takes_nothing due (by simp [hv]) fun _ => State.not_warns_of_cleared due hr cleared

end

end Sys2Proof.Machine
end

section
/-! The list through the outcomes of an event: what the qualifiers are ahead of the list by is exactly what the event
has still to hand to it, and at the end they agree (R58, R75, R80, R86, R88 to R91). -/

namespace Sys2Proof.Machine

/-- Of two outcomes of an event for one (seat, kind) the first is the clearing of a restart and the second enters
QUALIFIED anew; OPEN_NO_FLOOR has never two (R74). -/
def HandedOutcome.before (a b : HandedOutcome) : Prop :=
  a.seat = b.seat → a.kind = b.kind → a.verdict = .cleared ∧ b.verdict = .qualified ∧ a.kind ≠ .openNoFloor

/-- A (seat, kind) is QUALIFIED as the outcomes still to be handed will leave the list. -/
def State.owesQualified (s : State) (os : List HandedOutcome) (n : Seat) (k : Kind) : Prop :=
  (∃ o ∈ os, o.seat = n ∧ o.kind = k ∧ o.verdict = .qualified)
    ∨ (∀ o ∈ os, o.seat = n → o.kind = k → o.verdict = .gradeRise) ∧ s.warns n k

/-- The state within an event, with the outcomes that it has still to hand to the list. -/
structure State.owes (s : State) (os : List HandedOutcome) : Prop where
  list : s.listLaw
  undue : ∀ n k, (s.record n k).isSome = true → s.isDue n k = false
  owed : ∀ o ∈ os, s.isDue o.seat o.kind = false
  order : os.Pairwise HandedOutcome.before
  qualified : ∀ n k, (s.monitor n).state.get k = .qualified ↔ s.owesQualified os n k

/-- A due mark is outstanding only while the list is full (R91). -/
abbrev State.full (s : State) : Prop := s.overflow = true → s.records.length = Config.listCapacity

/-- The laws of the list between events: list, due marks and qualifiers agree (R75, R80, R91). -/
structure State.agrees (s : State) : Prop where
  owes : s.owes []
  full : s.full

theorem State.owesQualified_nil (s : State) (n : Seat) (k : Kind) : s.owesQualified [] n k ↔ s.warns n k := by
  simp [State.owesQualified]

/-- The laws of the list in the words of the spec. -/
theorem State.agrees_iff (s : State) : s.agrees ↔ s.listLaw ∧ s.dueLaw ∧ s.qualifiedLaw := by
  constructor
  · rintro ⟨⟨list, undue, -, -, qualified⟩, full⟩
    refine ⟨list, ⟨fun r hr => undue _ _ (by simp [State.record_of_mem list hr]), full⟩, fun n k _ => ?_⟩
    rw [qualified, State.owesQualified_nil, State.warns_iff list]
  · rintro ⟨list, ⟨undue, full⟩, qualified⟩
    refine ⟨⟨list, fun n k held => ?_, by simp, .nil, fun n k => ?_⟩, full⟩
    · obtain ⟨r, hr⟩ := Option.isSome_iff_exists.1 held
      obtain ⟨mem, rfl, rfl⟩ := State.mem_of_record hr
      exact undue r mem
    · rw [qualified n k (mem_allKinds k), State.owesQualified_nil, State.warns_iff list]

/-! ## One outcome -/

/-- Elsewhere than at the outcome's own (seat, kind) nothing owed is paid. -/
theorem State.owesQualified_cons_of_other {s : State} {o : HandedOutcome} {os : List HandedOutcome} {n : Seat}
    {k : Kind} (off : ¬(n = o.seat ∧ k = o.kind)) : s.owesQualified (o :: os) n k ↔ s.owesQualified os n k := by
  have never : ¬ (o.seat = n ∧ o.kind = k) := fun ⟨hn, hk⟩ => off ⟨hn.symm, hk.symm⟩
  have skip : o.seat = n → o.kind = k → False := fun hn hk => never ⟨hn, hk⟩
  simp only [State.owesQualified, List.mem_cons, exists_eq_or_imp, forall_eq_or_imp]
  constructor
  · rintro ((⟨hn, hk, -⟩ | paid) | ⟨⟨-, rest⟩, warned⟩)
    · exact (skip hn hk).elim
    · exact .inl paid
    · exact .inr ⟨rest, warned⟩
  · rintro (paid | ⟨rest, warned⟩)
    · exact .inl (.inr paid)
    · exact .inr ⟨⟨fun hn hk => (skip hn hk).elim, rest⟩, warned⟩

theorem State.sameAt.owesQualified {s t : State} {n : Seat} {k : Kind} (h : s.sameAt t n k)
    (os : List HandedOutcome) : t.owesQualified os n k ↔ s.owesQualified os n k := by
  rw [State.owesQualified, State.owesQualified, State.warns_congr h.due h.record]

/-- The list takes the first outcome owed. -/
theorem State.owes.takes {s t : State} {o : HandedOutcome} {os : List HandedOutcome} (h : s.owes (o :: os))
    (taken : s.takes t o) : t.owes os := by
  obtain ⟨list, undue, owed, order, qualified⟩ := h
  obtain ⟨first, order⟩ := List.pairwise_cons.1 order
  have same : ∀ n k, ¬(n = o.seat ∧ k = o.kind) → s.sameAt t n k := taken.moves.others
  refine ⟨taken.moves.list list, fun n k held => ?_, fun p hp => ?_, order, fun n k => ?_⟩
  · by_cases here : n = o.seat ∧ k = o.kind
    · obtain ⟨rfl, rfl⟩ := here
      exact taken.undue held
    · rw [(same n k here).due]
      exact undue n k ((same n k here).record ▸ held)
  · by_cases here : p.seat = o.seat ∧ p.kind = o.kind
    · rw [here.1, here.2]
      exact (taken.cleared (first p hp here.1.symm here.2.symm).1).1
    · rw [(same _ _ here).due]
      exact owed p (List.mem_cons_of_mem _ hp)
  · by_cases here : n = o.seat ∧ k = o.kind
    · obtain ⟨rfl, rfl⟩ := here
      have before := qualified o.seat o.kind
      simp only [State.owesQualified, List.mem_cons, exists_eq_or_imp, forall_eq_or_imp, true_and, forall_const]
        at before ⊢
      cases hv : o.verdict with
      | qualified =>
        have last : ∀ p ∈ os, p.seat = o.seat → p.kind = o.kind → p.verdict = .gradeRise := fun p hp hs hk =>
          absurd ((first p hp hs.symm hk.symm).1.symm.trans hv) (by simp)
        have kept := taken.state.resolve_right fun c => absurd (c.1.symm.trans hv) (by simp)
        rw [kept]
        exact iff_of_true (before.2 (.inl (.inl hv))) (.inr ⟨last, taken.qualified hv⟩)
      | gradeRise =>
        have last : ∀ p ∈ os, ¬(p.seat = o.seat ∧ p.kind = o.kind) := fun p hp same =>
          absurd ((first p hp same.1.symm same.2.symm).1.symm.trans hv) (by simp)
        have kept := taken.state.resolve_right fun c => absurd (c.1.symm.trans hv) (by simp)
        have none : ¬ ∃ p ∈ os, p.seat = o.seat ∧ p.kind = o.kind ∧ p.verdict = .qualified := fun ⟨p, hp, hs, hk, _⟩ =>
          last p hp ⟨hs, hk⟩
        rw [kept, before, (taken.rise hv).2]
        simp only [hv, reduceCtorEq, false_or, none, true_and]
      | cleared =>
        have unwarned := (taken.cleared hv).2
        simp only [hv, reduceCtorEq, false_or, false_and, or_false] at before
        simp only [unwarned, and_false, or_false]
        rcases taken.state with kept | ⟨-, opened, left⟩
        · rw [kept, before]
        · refine iff_of_false left fun ⟨p, hp, hs, hk, _⟩ => ?_
          exact (first p hp hs.symm hk.symm).2.2 opened
    · rw [(same n k here).state, qualified n k, State.owesQualified_cons_of_other here, (same n k here).owesQualified]

theorem State.owes.applyOutcome {s : State} {o : HandedOutcome} {os : List HandedOutcome} (h : s.owes (o :: os)) :
    (s.applyOutcome o).owes os := h.takes (State.takes_applyOutcome (h.owed o List.mem_cons_self))

/-! ## Admission (R88 to R91) -/

/-- A due mark is admitted as a record that is active (R90). -/
theorem State.owes.admitMark {s : State} {os : List HandedOutcome} (h : s.owes os)
    (room : s.records.length < Config.listCapacity) {n : Seat} {k : Kind} (due : s.isDue n k = true) :
    (s.admitMark n k).owes os := by
  have new : s.record n k = none := by
    rw [← Option.not_isSome_iff_eq_none]
    intro held
    simp [h.undue n k held] at due
  have unpaid : ∀ o ∈ os, ¬(o.seat = n ∧ o.kind = k) := fun o ho same => by
    have := h.owed o ho
    rw [same.1, same.2, due] at this
    cases this
  have marked := s.movesOnly_putDue n k false
  have moves : s.movesOnly (s.admitMark n k) n k := by
    have appended := (s.putDue n k false).movesOnly_appendRecord room
      (r := newRecord s.params s.clock n k (gradeOf k (s.monitor n)) (detailOf k (s.seat n) (s.monitor n))) new
    refine ⟨fun hs => appended.list (marked.list hs), fun m j off => ?_⟩
    have one := marked.others m j off
    have two := appended.others m j off
    exact ⟨two.record.trans one.record, two.due.trans one.due, two.state.trans one.state⟩
  have undue : (s.admitMark n k).isDue n k = false :=
    (s.isDue_putDue n n k k false).trans (if_pos ⟨rfl, rfl⟩)
  have held : (s.admitMark n k).record n k
      = some (newRecord s.params s.clock n k (gradeOf k (s.monitor n)) (detailOf k (s.seat n) (s.monitor n))) := by
    simp [State.admitMark, State.record_appendRecord, new, Record.isFor, newRecord]
  refine ⟨moves.list h.list, fun m j hr => ?_, fun o ho => ?_, h.order, fun m j => ?_⟩
  · by_cases here : m = n ∧ j = k
    · rw [here.1, here.2, undue]
    · rw [(moves.others m j here).due]
      exact h.undue m j ((moves.others m j here).record ▸ hr)
  · rw [(moves.others _ _ (unpaid o ho)).due]
    exact h.owed o ho
  · by_cases here : m = n ∧ j = k
    · obtain ⟨rfl, rfl⟩ := here
      have state : ((s.admitMark m j).monitor m).state = (s.monitor m).state := s.state_putDue m j false m
      have nothing : ∀ o ∈ os, o.seat = m → o.kind = j → o.verdict = .gradeRise := fun o ho hs hk =>
        (unpaid o ho ⟨hs, hk⟩).elim
      rw [state]
      exact iff_of_true ((h.qualified m j).2 (.inr ⟨nothing, .inl due⟩))
        (.inr ⟨nothing, State.warns_of_active held rfl⟩)
    · rw [(moves.others m j here).state, h.qualified m j, (moves.others m j here).owesQualified]

theorem State.owes.fillPlaces {os : List HandedOutcome} (places : Nat) :
    ∀ {s : State}, s.owes os → s.records.length + places = Config.listCapacity →
      (State.fillPlaces places s).owes os ∧ (State.fillPlaces places s).full := by
  induction places with
  | zero => exact fun h length => ⟨h, fun _ => length⟩
  | succ places ih =>
    intro s h length
    simp only [State.fillPlaces]
    split
    · next none =>
      refine ⟨h, fun marked => ?_⟩
      rw [(State.firstDue_eq_none s).1 none] at marked
      cases marked
    · next n k first =>
      refine ih (h.admitMark (by omega) (State.isDue_of_firstDue first)) ?_
      simp only [State.admitMark, State.appendRecord_records, State.putDue_records, List.length_append,
        List.length_singleton]
      omega

/-- Admission leaves no due mark beside a free place (R89, R91). -/
theorem State.owes.fillFreed {s : State} {os : List HandedOutcome} (h : s.owes os) :
    s.fillFreed.owes os ∧ s.fillFreed.full :=
  h.fillPlaces _ (Nat.add_sub_cancel' h.list.1)

/-! ## The outcomes of an event -/

/-- An outcome that takes no record out leaves the list as full as its due marks need it (R91). -/
theorem State.full_applyOutcome {s : State} {o : HandedOutcome} (h : s.full) (stays : s.removes o = false)
    (list : s.listLaw) : (s.applyOutcome o).full := by
  have same : ∀ {t : State}, t.records.length = s.records.length → t.overflow = s.overflow → t.full :=
    fun hl ho marked => hl.trans (h (ho ▸ marked))
  simp only [State.applyOutcome]
  split
  · simp only [State.raise]
    split
    · next room =>
      intro marked
      exact absurd (h marked) (Nat.ne_of_lt room)
    · next lack =>
      intro _
      rw [State.setDue_records]
      exact Nat.le_antisymm list.1 (Nat.not_lt.1 lack)
  · split
    · exact same (by simp) rfl
    · exact h
  · exact h
  · split
    · exact h
    · exact same (by simp) rfl
  · exact h
  · next r hv hr =>
    split
    · exact same (by simp) rfl
    · next acked => simp [State.removes, hv, hr, acked] at stays
    · exact h

/-- The outcomes of an event bring the list to agree with the qualifiers (R88, R91). -/
theorem State.owes.applyHanded (os : List HandedOutcome) : ∀ {freed : Bool} {s : State}, s.owes os →
    (freed = false → s.full) → (freed = true → os ≠ []) → (s.applyHanded freed os).agrees := by
  induction os with
  | nil =>
    intro freed s h full more
    cases freed with
    | false => exact ⟨h, full rfl⟩
    | true => exact absurd rfl (more rfl)
  | cons o os ih =>
    intro freed s h full _
    have applied := h.applyOutcome
    simp only [State.applyHanded]
    split
    · split
      · next more => exact ih applied (by simp) fun _ empty => by simp [empty] at more
      · exact ih applied.fillFreed.1 (fun _ => applied.fillFreed.2) (by simp)
    · next stays =>
      obtain ⟨unfreed, kept⟩ := Bool.or_eq_false_iff.1 (Bool.eq_false_iff.2 stays)
      exact ih applied (fun _ => State.full_applyOutcome (full unfreed) kept h.list) (by simp)

/-- The state in which an event begins to hand its outcomes. -/
structure State.handing (s : State) (os : List HandedOutcome) : Prop where
  owes : s.owes os
  full : s.full

theorem State.handing.applyOutcomes {s : State} {os : List HandedOutcome} (h : s.handing os) :
    (s.applyOutcomes os).agrees := h.owes.applyHanded os (fun _ => h.full) (by simp)

end Sys2Proof.Machine
end

section
/-! An evaluation owes the list exactly the outcomes it hands on (R59, R75, R76). -/

namespace Sys2Proof.Machine

section
variable (s : State) (tick : Bool) (kinds : Seat → PerKind Bool)

theorem State.record_mapMonitors (f : Seat → SeatMonitor → SeatMonitor) (n : Seat) (k : Kind) :
    (s.mapMonitors f).record n k = s.record n k := by
  simp only [State.record, State.mapMonitors_records]

theorem State.records_evaluateAll : (s.evaluateAll tick kinds).records = s.records := State.mapMonitors_records ..

theorem State.record_evaluateAll (n : Seat) (k : Kind) : (s.evaluateAll tick kinds).record n k = s.record n k :=
  s.record_mapMonitors _ n k

/-- The verdict of an evaluation on a (seat, kind); none where it is not judged. -/
def State.verdict (n : Seat) (k : Kind) : Option Verdict :=
  if s.judges kinds n k then (s.judgeKind tick n k (s.monitor n)).2 else none

theorem State.isDue_evaluateAll (n : Seat) (k : Kind) : (s.evaluateAll tick kinds).isDue n k
    = (s.isDue n k && !(s.verdict tick kinds n k == some .cleared)) := by
  have part := congrArg KindPart.due (s.part_evaluateAll tick kinds n k)
  rw [State.isDue, show ((s.evaluateAll tick kinds).monitor n).due.get k = _ from part, State.verdict]
  split
  · exact s.due_evaluateKind tick n k _
  · simp [State.isDue, SeatMonitor.part]

theorem State.state_evaluateAll (n : Seat) (k : Kind) : ((s.evaluateAll tick kinds).monitor n).state.get k
    = if s.judges kinds n k then (s.judgeKind tick n k (s.monitor n)).1.state.get k
      else (s.monitor n).state.get k := by
  have part := congrArg KindPart.state (s.part_evaluateAll tick kinds n k)
  rw [show ((s.evaluateAll tick kinds).monitor n).state.get k = _ from part]
  split
  · exact congrArg (PerKind.get · k) (s.state_evaluateKind tick n k _)
  · rfl

/-- The verdict agrees with the move of the qualifier. -/
theorem State.verdict_fits (n : Seat) (k : Kind) : Verdict.fits k (s.verdict tick kinds n k)
    ((s.monitor n).state.get k) (((s.evaluateAll tick kinds).monitor n).state.get k) := by
  rw [State.state_evaluateAll, State.verdict]
  split
  · exact s.judgeKind_fits tick n k _
  · constructor <;> simp

/-- Every outcome of an evaluation carries the verdict on its (seat, kind), which a due mark has not kept back. -/
theorem State.verdict_of_mem_outcomes {o : HandedOutcome} (h : o ∈ s.outcomes tick kinds) :
    s.verdict tick kinds o.seat o.kind = some o.verdict
      ∧ (o.verdict = .qualified ∨ s.isDue o.seat o.kind = false) := by
  obtain ⟨judged, mem⟩ := (s.mem_outcomes tick kinds).1 h
  obtain ⟨v, hv, free, ho⟩ := (s.mem_evaluateKind tick o.seat).1 mem
  have verdict : o.verdict = v := by rw [ho]
  rw [State.verdict, if_pos judged, hv, verdict]
  exact ⟨rfl, free⟩

/-- A verdict is handed on unless a due mark keeps it back. -/
theorem State.exists_outcome_of_verdict {n : Seat} {k : Kind} {v : Verdict}
    (h : s.verdict tick kinds n k = some v) (free : v = .qualified ∨ s.isDue n k = false) :
    ∃ o ∈ s.outcomes tick kinds, o.seat = n ∧ o.kind = k ∧ o.verdict = v := by
  rw [State.verdict] at h
  split at h
  · next judged =>
    exact ⟨⟨n, k, v, gradeOf k (s.judgeKind tick n k (s.monitor n)).1,
        detailOf k (s.seat n) (s.judgeKind tick n k (s.monitor n)).1⟩,
      (s.mem_outcomes tick kinds).2 ⟨judged, (s.mem_evaluateKind tick n).2 ⟨v, h, free, rfl⟩⟩, rfl, rfl, rfl⟩
  · cases h

end

/-- The qualifiers of `t` are those of `s` after verdicts `v`, of which the outcomes `os` are handed on. -/
structure State.hands (s t : State) (v : Seat → Kind → Option Verdict) (os : List HandedOutcome) : Prop where
  records : t.records = s.records
  due : ∀ n k, t.isDue n k = (s.isDue n k && !(v n k == some .cleared))
  fits : ∀ n k, Verdict.fits k (v n k) ((s.monitor n).state.get k) ((t.monitor n).state.get k)
  handed : ∀ o ∈ os, v o.seat o.kind = some o.verdict ∧ (o.verdict = .qualified ∨ s.isDue o.seat o.kind = false)
  complete : ∀ n k w, v n k = some w → w = .qualified ∨ s.isDue n k = false →
    ∃ o ∈ os, o.seat = n ∧ o.kind = k ∧ o.verdict = w
  single : os.Pairwise fun a b => ¬(a.seat = b.seat ∧ a.kind = b.kind)

theorem State.hands_evaluateAll (s : State) (tick : Bool) (kinds : Seat → PerKind Bool) :
    s.hands (s.evaluateAll tick kinds) (s.verdict tick kinds) (s.outcomes tick kinds) :=
  ⟨s.records_evaluateAll tick kinds, s.isDue_evaluateAll tick kinds, s.verdict_fits tick kinds,
    fun _ => s.verdict_of_mem_outcomes tick kinds, fun _ _ _ => s.exists_outcome_of_verdict tick kinds,
    s.outcomes_pairwise tick kinds⟩

theorem State.owesQualified_append {s : State} {cs os : List HandedOutcome} {n : Seat} {k : Kind} :
    s.owesQualified (cs ++ os) n k ↔
      ((∃ o ∈ cs, o.seat = n ∧ o.kind = k ∧ o.verdict = .qualified)
        ∨ ∃ o ∈ os, o.seat = n ∧ o.kind = k ∧ o.verdict = .qualified)
      ∨ ((∀ o ∈ cs, o.seat = n → o.kind = k → o.verdict = .gradeRise)
        ∧ ∀ o ∈ os, o.seat = n → o.kind = k → o.verdict = .gradeRise) ∧ s.warns n k := by
  simp only [State.owesQualified, List.mem_append, or_and_right, exists_or, or_imp, forall_and]

section
variable {s t : State} {v : Seat → Kind → Option Verdict} {cs os : List HandedOutcome}

/-- What is QUALIFIED while clearings alone are owed has none of them owed, and has its warning. -/
theorem State.owes.unpaid (h : s.owes cs) (clear : ∀ c ∈ cs, c.verdict = .cleared) {n : Seat} {k : Kind}
    (hq : (s.monitor n).state.get k = .qualified) : (∀ c ∈ cs, ¬(c.seat = n ∧ c.kind = k)) ∧ s.warns n k := by
  rcases (h.qualified n k).1 hq with ⟨c, hc, -, -, hv⟩ | ⟨rise, warned⟩
  · rw [clear c hc] at hv
    cases hv
  · refine ⟨fun c hc same => ?_, warned⟩
    have := rise c hc same.1 same.2
    rw [clear c hc] at this
    cases this

/-- What is not QUALIFIED is not due. -/
theorem State.owes.undue_of_not_qualified (h : s.owes cs) {n : Seat} {k : Kind}
    (hq : (s.monitor n).state.get k ≠ .qualified) : s.isDue n k = false := by
  rw [Bool.eq_false_iff]
  intro due
  refine hq ((h.qualified n k).2 (.inr ⟨fun c hc hs hk => ?_, .inl due⟩))
  have := h.owed c hc
  rw [hs, hk, due] at this
  cases this

theorem State.hands.undue (g : s.hands t v os) (h : s.owes cs) {o : HandedOutcome} (ho : o ∈ os) :
    s.isDue o.seat o.kind = false := by
  obtain ⟨verdict, hv | undue⟩ := g.handed o ho
  · exact h.undue_of_not_qualified ((g.fits _ _).qualified.1 (hv ▸ verdict)).1
  · exact undue

/-- The qualifiers after verdicts are as what was owed and what is handed will leave the list. -/
theorem State.hands.qualified (g : s.hands t v os) (h : s.owes cs) (clear : ∀ c ∈ cs, c.verdict = .cleared)
    (n : Seat) (k : Kind) : (t.monitor n).state.get k = .qualified ↔ t.owesQualified (cs ++ os) n k := by
  have fits := g.fits n k
  have unpaid := h.unpaid clear (n := n) (k := k)
  have record : t.record n k = s.record n k := by rw [State.record, g.records, State.record]
  have due := g.due n k
  have noneClear : ¬ ∃ o ∈ cs, o.seat = n ∧ o.kind = k ∧ o.verdict = .qualified := fun ⟨c, hc, _, _, hq⟩ => by
    rw [clear c hc] at hq
    cases hq
  have handed : ∀ o ∈ os, o.seat = n → o.kind = k → v n k = some o.verdict := fun o ho hs hk =>
    hs ▸ hk ▸ (g.handed o ho).1
  have before := h.qualified n k
  rw [State.owesQualified_append]
  rw [State.owesQualified] at before
  simp only [noneClear, false_or] at before ⊢
  cases hv : v n k with
  | none =>
    have silent : ∀ o ∈ os, ¬(o.seat = n ∧ o.kind = k) := fun o ho same => by
      rw [handed o ho same.1 same.2] at hv
      cases hv
    have entered := fits.qualified
    have left := fits.cleared
    have kept : (t.monitor n).state.get k = .qualified ↔ (s.monitor n).state.get k = .qualified := by
      simp only [hv, reduceCtorEq, false_iff, not_and_or, not_not] at entered left
      tauto
    have warns : t.warns n k ↔ s.warns n k := State.warns_congr (by simp [due, hv]) record
    have none : ¬ ∃ o ∈ os, o.seat = n ∧ o.kind = k ∧ o.verdict = .qualified := fun ⟨o, ho, hs, hk, _⟩ =>
      silent o ho ⟨hs, hk⟩
    have all : ∀ o ∈ os, o.seat = n → o.kind = k → o.verdict = .gradeRise := fun o ho hs hk =>
      (silent o ho ⟨hs, hk⟩).elim
    rw [kept, before, warns]
    simp only [none, false_or]
    exact ⟨fun ⟨rise, warned⟩ => ⟨⟨rise, all⟩, warned⟩, fun ⟨⟨rise, _⟩, warned⟩ => ⟨rise, warned⟩⟩
  | some w =>
    cases w with
    | qualified =>
      exact iff_of_true (fits.qualified.1 hv).2 (.inl (g.complete n k _ hv (.inl rfl)))
    | gradeRise =>
      obtain ⟨-, was, now⟩ := fits.rise hv
      obtain ⟨free, warned⟩ := unpaid was
      refine iff_of_true now (.inr ⟨⟨fun c hc hs hk => (free c hc ⟨hs, hk⟩).elim, fun o ho hs hk => ?_⟩, ?_⟩)
      · exact (Option.some.inj (hv.symm.trans (handed o ho hs hk))).symm
      · exact (State.warns_congr (by simp [due, hv]) record).2 warned
    | cleared =>
      obtain ⟨was, now⟩ := fits.cleared.1 hv
      refine iff_of_false now ?_
      rintro (⟨o, ho, hs, hk, hq⟩ | ⟨⟨-, rise⟩, warned⟩)
      · have := hv.symm.trans (handed o ho hs hk)
        rw [hq] at this
        cases this
      · by_cases marked : s.isDue n k = true
        · have gone : s.record n k = Option.none := by
            rw [← Option.not_isSome_iff_eq_none]
            intro held
            rw [h.undue n k held] at marked
            cases marked
          exact State.not_warns_of_none (by simp [due, hv]) (record.trans gone) warned
        · obtain ⟨o, ho, hs, hk, hq⟩ := g.complete n k _ hv (.inr (Bool.eq_false_iff.2 marked))
          have := (rise o ho hs hk).symm.trans hq
          cases this

/-- Verdicts after clearings: the outcomes handed come on top of what is owed (R59, R74). -/
theorem State.hands.owes (g : s.hands t v os) (h : s.owes cs) (clear : ∀ c ∈ cs, c.verdict = .cleared)
    (opens : ∀ c ∈ cs, c.kind = .openNoFloor → v c.seat .openNoFloor ≠ some .qualified) : t.owes (cs ++ os) := by
  have fewer : ∀ {n k}, s.isDue n k = false → t.isDue n k = false := fun undue => by
    rw [g.due, undue, Bool.false_and]
  refine ⟨by simpa only [State.listLaw, g.records] using h.list, fun n k held => fewer (h.undue n k ?_), fun o ho => ?_,
    ?_, g.qualified h clear⟩
  · rwa [State.record, g.records] at held
  · rcases List.mem_append.1 ho with ho | ho
    · exact fewer (h.owed o ho)
    · exact fewer (g.undue h ho)
  · refine List.pairwise_append.2 ⟨h.order, g.single.imp fun ne hs hk => (ne ⟨hs, hk⟩).elim,
      fun a ha b hb hs hk => ?_⟩
    obtain ⟨verdict, -⟩ := g.handed b hb
    have fits := g.fits b.seat b.kind
    have off : (s.monitor b.seat).state.get b.kind ≠ .qualified := fun hq => (h.unpaid clear hq).1 a ha ⟨hs, hk⟩
    have qualified : b.verdict = .qualified := by
      cases hv : b.verdict with
      | qualified => rfl
      | gradeRise => exact absurd (fits.rise (hv ▸ verdict)).2.1 off
      | cleared => exact absurd (fits.cleared.1 (hv ▸ verdict)).1 off
    refine ⟨clear a ha, qualified, fun opened => opens a ha opened ?_⟩
    rw [hs, ← opened, hk, verdict, qualified]

theorem State.hands.full (g : s.hands t v os) (h : s.full) : t.full := by
  intro marked
  obtain ⟨n, k, due⟩ := (State.overflow_iff t).1 marked
  rw [g.due, Bool.and_eq_true] at due
  rw [g.records]
  exact h ((State.overflow_iff s).2 ⟨n, k, due.1⟩)

end

theorem State.agrees.evaluateAll {s : State} (h : s.agrees) (tick : Bool) (kinds : Seat → PerKind Bool) :
    (s.evaluateAll tick kinds).handing (s.outcomes tick kinds) :=
  have g := s.hands_evaluateAll tick kinds
  ⟨g.owes h.owes (by simp) (by simp), g.full h.full⟩

/-- An event's evaluation brings the list to agree with the qualifiers again (R59). -/
theorem State.agrees.evaluate {s : State} (h : s.agrees) (tick : Bool) (kinds : Seat → PerKind Bool) :
    (s.evaluate tick kinds).agrees := (h.evaluateAll tick kinds).applyOutcomes

end Sys2Proof.Machine
end

section
/-! Restarts, RECESS and dropout window ends quiet qualifiers and hand their clearings; acknowledgements and purges take
records out by hand (R64, R71, R74, R87, R88). -/

namespace Sys2Proof.Machine

/-! ## Quieting -/

/-- The kinds `ks n` of every seat are quieted and undue in `t`, and nothing else of the two differs. -/
structure State.quiets (s t : State) (ks : Seat → List Kind) : Prop where
  records : t.records = s.records
  quiet : ∀ n, ∀ k ∈ ks n, (t.monitor n).state.get k ≠ .qualified ∧ t.isDue n k = false
  others : ∀ n k, k ∉ ks n → (t.monitor n).state.get k = (s.monitor n).state.get k ∧ t.isDue n k = s.isDue n k
  nodup : ∀ n, (ks n).Nodup

/-- The clearings of quieted kinds, in ascending seat order. -/
def State.clearings (s : State) (ks : Seat → List Kind) : List HandedOutcome :=
  allSeats.flatMap fun n => clearingsOf n (ks n) (s.monitor n)

/-- The verdicts of a quieting: a cleared outcome for each kind that leaves QUALIFIED. -/
def State.quietVerdict (s : State) (ks : Seat → List Kind) (n : Seat) (k : Kind) : Option Verdict :=
  if k ∈ ks n ∧ (s.monitor n).state.get k = .qualified then some .cleared else none

theorem mem_clearingsOf {n : Seat} {kinds : List Kind} {m : SeatMonitor} {o : HandedOutcome} :
    o ∈ clearingsOf n kinds m ↔ ∃ k ∈ kinds, m.state.get k = .qualified ∧ m.due.get k = false
      ∧ o = ⟨n, k, .cleared, none, none⟩ := by
  simp only [clearingsOf, List.mem_map, List.mem_filter, Bool.and_eq_true, beq_iff_eq, Bool.not_eq_true']
  constructor
  · rintro ⟨k, ⟨hk, hq, hd⟩, rfl⟩
    exact ⟨k, hk, hq, hd, rfl⟩
  · rintro ⟨k, hk, hq, hd, rfl⟩
    exact ⟨k, ⟨hk, hq, hd⟩, rfl⟩

theorem State.mem_clearings {s : State} {ks : Seat → List Kind} {o : HandedOutcome} :
    o ∈ s.clearings ks ↔ o.kind ∈ ks o.seat ∧ (s.monitor o.seat).state.get o.kind = .qualified
      ∧ s.isDue o.seat o.kind = false ∧ o = ⟨o.seat, o.kind, .cleared, none, none⟩ := by
  simp only [State.clearings, List.mem_flatMap, mem_allSeats, true_and, mem_clearingsOf]
  constructor
  · rintro ⟨n, k, hk, hq, hd, rfl⟩
    exact ⟨hk, hq, hd, rfl⟩
  · rintro ⟨hk, hq, hd, ho⟩
    exact ⟨o.seat, o.kind, hk, hq, hd, ho⟩

theorem State.clearings_cleared {s : State} {ks : Seat → List Kind} : ∀ c ∈ s.clearings ks, c.verdict = .cleared := by
  intro c hc
  obtain ⟨-, -, -, h⟩ := State.mem_clearings.1 hc
  rw [h]

theorem State.clearings_pairwise (s : State) {ks : Seat → List Kind} (nodup : ∀ n, (ks n).Nodup) :
    (s.clearings ks).Pairwise fun a b => ¬(a.seat = b.seat ∧ a.kind = b.kind) := by
  rw [State.clearings, List.pairwise_flatMap]
  refine ⟨fun n _ => ?_, (List.nodup_finRange 128).imp fun {n m} ne a ha b hb same => ?_⟩
  · rw [clearingsOf, List.pairwise_map]
    exact ((nodup n).filter _).imp fun ne same => ne same.2
  · obtain ⟨j, -, -, -, rfl⟩ := mem_clearingsOf.1 ha
    obtain ⟨k, -, -, -, rfl⟩ := mem_clearingsOf.1 hb
    exact ne same.1

/-- A quieting hands on its clearings. -/
theorem State.quiets.hands {s t : State} {ks : Seat → List Kind} (g : s.quiets t ks) (h : s.owes []) :
    s.hands t (s.quietVerdict ks) (s.clearings ks) := by
  refine ⟨g.records, fun n k => ?_, fun n k => ?_, fun o ho => ?_, fun n k w hw free => ?_,
    s.clearings_pairwise g.nodup⟩
  · rw [State.quietVerdict]
    by_cases hk : k ∈ ks n
    · rw [(g.quiet n k hk).2]
      by_cases hq : (s.monitor n).state.get k = .qualified
      · simp [hk, hq]
      · simp [hq, h.undue_of_not_qualified hq]
    · simp [hk, (g.others n k hk).2]
  · rw [State.quietVerdict]
    by_cases hk : k ∈ ks n
    · have now := (g.quiet n k hk).1
      constructor <;> simp [hk, now]
    · rw [(g.others n k hk).1]
      constructor <;> simp [hk]
  · obtain ⟨hk, hq, hd, ho⟩ := State.mem_clearings.1 ho
    rw [State.quietVerdict, if_pos ⟨hk, hq⟩, show o.verdict = .cleared by rw [ho]]
    exact ⟨rfl, .inr hd⟩
  · rw [State.quietVerdict] at hw
    split at hw
    · next quieted =>
      cases hw
      refine ⟨⟨n, k, .cleared, none, none⟩, State.mem_clearings.2 ⟨quieted.1, quieted.2, ?_, rfl⟩, rfl, rfl, rfl⟩
      exact free.resolve_left (by simp)
    · cases hw

/-- A quieting owes its clearings, and once they are taken the list agrees with the qualifiers (R64, R71). -/
theorem State.quiets.handing {s t : State} {ks : Seat → List Kind} (g : s.quiets t ks) (h : s.agrees) :
    t.handing (s.clearings ks) :=
  ⟨(g.hands h.owes).owes h.owes (by simp) (by simp), (g.hands h.owes).full h.full⟩

/-- A quieting and then an evaluation, in one event (R74). -/
theorem State.quiets.handing_evaluateAll {s t : State} {ks : Seat → List Kind} (g : s.quiets t ks) (h : s.agrees)
    {tick : Bool} {kinds : Seat → PerKind Bool}
    (opens : ∀ n, .openNoFloor ∈ ks n → t.verdict tick kinds n .openNoFloor ≠ some .qualified) :
    (t.evaluateAll tick kinds).handing (s.clearings ks ++ t.outcomes tick kinds) := by
  have cleared := g.handing h
  have second := t.hands_evaluateAll tick kinds
  refine ⟨second.owes cleared.owes State.clearings_cleared fun c hc opened => ?_, second.full cleared.full⟩
  obtain ⟨hk, -⟩ := State.mem_clearings.1 hc
  exact opens c.seat (opened ▸ hk)

end Sys2Proof.Machine
end

section
/-! The list and the qualifiers agree after every operation that a move is made of (R58, R75, R80, R91). -/

namespace Sys2Proof.Machine

/-! ## Changes that touch no warning -/

/-- Records, due marks and states of qualifiers stay. -/
structure State.sameWarnings (s t : State) : Prop where
  records : t.records = s.records
  state : ∀ n k, (t.monitor n).state.get k = (s.monitor n).state.get k
  due : ∀ n k, t.isDue n k = s.isDue n k

theorem State.sameWarnings_of_eq {s t : State} (records : t.records = s.records) (monitors : t.monitors = s.monitors) :
    s.sameWarnings t :=
  ⟨records, fun n k => by rw [State.monitor, monitors, State.monitor],
    fun n k => by rw [State.isDue, State.monitor, monitors, State.isDue, State.monitor]⟩

/-- Records that change where they stand keep their seat and kind and stay active or not. -/
structure Record.keepsWarning (f : Record → Record) : Prop where
  key : Record.keepsKey f
  active : ∀ r, (f r).active = r.active

section
variable {s t : State}

theorem State.overflow_congr (due : ∀ n k, t.isDue n k = s.isDue n k) : t.overflow = s.overflow := by
  simp only [State.overflow, due]

theorem State.agrees.of_mapRecords (h : s.agrees) {f : Record → Record} (hf : Record.keepsWarning f)
    (records : t.records = s.records.map f) (state : ∀ n k, (t.monitor n).state.get k = (s.monitor n).state.get k)
    (due : ∀ n k, t.isDue n k = s.isDue n k) : t.agrees := by
  have record : ∀ n k, t.record n k = (s.record n k).map f := fun n k => by
    rw [State.record, State.record, records, List.find?_map]
    congr 2
    funext r
    exact Record.isFor_of_keepsKey hf.key n k r
  have warns : ∀ n k, t.warns n k ↔ s.warns n k := fun n k => by
    rw [State.warns, State.warns, due, record]
    simp [hf.active]
  have keys : t.records.map (fun r => (r.seat, r.kind)) = s.records.map fun r => (r.seat, r.kind) := by
    rw [records, List.map_map]
    refine List.map_congr_left fun r _ => ?_
    simp [Function.comp, hf.key r]
  obtain ⟨⟨list, undue, -, -, qualified⟩, full⟩ := h
  refine ⟨⟨⟨by simpa [records] using list.1, keys ▸ list.2⟩, fun n k held => ?_, by simp, .nil, fun n k => ?_⟩,
    fun marked => ?_⟩
  · rw [due]
    refine undue n k ?_
    rwa [record, Option.isSome_map] at held
  · rw [state, qualified, State.owesQualified_nil, State.owesQualified_nil, warns]
  · rw [records, List.length_map]
    exact full (State.overflow_congr due ▸ marked)

theorem State.agrees.of_sameWarnings (h : s.agrees) (g : s.sameWarnings t) : t.agrees :=
  h.of_mapRecords ⟨fun _ => ⟨rfl, rfl⟩, fun _ => rfl⟩ (by rw [g.records, List.map_id']) g.state g.due

/-- Nothing is QUALIFIED, due or in the list: nothing is owed. -/
theorem State.agrees_of_idle (records : t.records = []) (state : ∀ n k, (t.monitor n).state.get k ≠ .qualified)
    (due : ∀ n k, t.isDue n k = false) : t.agrees := by
  have record : ∀ n k, t.record n k = none := fun n k => by rw [State.record, records]; rfl
  refine ⟨⟨⟨by simp [records], by simp [records]⟩, fun n k _ => due n k, by simp, .nil, fun n k => ?_⟩, fun marked => ?_⟩
  · rw [State.owesQualified_nil]
    exact iff_of_false (state n k) (State.not_warns_of_none (due n k) (record n k))
  · obtain ⟨n, k, hd⟩ := (State.overflow_iff t).1 marked
    rw [due] at hd
    cases hd

end

/-! ## Restarts, RECESS, window ends -/

theorem SeatMonitor.state_quiet (p : Params) (k : Kind) : (SeatMonitor.quiet p).state.get k = .quiet := by
  cases k <;> rfl

theorem SeatMonitor.due_quiet (p : Params) (k : Kind) : (SeatMonitor.quiet p).due.get k = false := by
  cases k <;> rfl

/-- The kinds that a restart quiets: all those of the seats concerned. -/
def restartKinds (who : Seat → Bool) (n : Seat) : List Kind := if who n then allKinds else []

/-- The qualifiers of some seats at their reset values (R74 steps 1 to 4). -/
def State.quieted (s : State) (who : Seat → Bool) : State :=
  s.mapMonitors fun n m => if who n then restartedMonitor s.params else m

/-- The kinds of some seats. -/
def restartedKinds (who : Seat → Bool) (n : Seat) : PerKind Bool := if who n then .every else .nothing

theorem State.monitor_quieted (s : State) (who : Seat → Bool) (n : Seat) :
    (s.quieted who).monitor n = if who n then .quiet s.params else s.monitor n := State.monitor_mapMonitors ..

theorem State.restartMonitors_eq (s : State) (who : Seat → Bool) : s.restartMonitors who =
    ((s.quieted who).evaluateAll false (restartedKinds who)).applyOutcomes
      (s.clearings (restartKinds who) ++ (s.quieted who).outcomes false (restartedKinds who)) := by
  have same : s.clearings (restartKinds who)
      = allSeats.flatMap fun n => if who n then clearingsOf n allKinds (s.monitor n) else [] := by
    refine List.flatMap_congr fun n _ => ?_
    rw [restartKinds]
    split <;> rfl
  rw [same]
  rfl

theorem State.quiets_quieted (s : State) (who : Seat → Bool) : s.quiets (s.quieted who) (restartKinds who) := by
  refine ⟨State.mapMonitors_records .., fun n k hk => ?_, fun n k hk => ?_, fun n => ?_⟩
  all_goals simp only [restartKinds] at *
  · split at hk
    · next h =>
      rw [State.isDue, State.monitor_quieted, if_pos h, SeatMonitor.state_quiet, SeatMonitor.due_quiet]
      exact ⟨by simp, rfl⟩
    · cases hk
  · split at hk
    · exact absurd (mem_allKinds k) hk
    · next h =>
      rw [State.isDue, State.isDue, State.monitor_quieted, if_neg h]
      exact ⟨rfl, rfl⟩
  · split
    · exact allKinds_nodup
    · exact List.nodup_nil

/-- A seat whose mute is not OPEN has no OPEN_NO_FLOOR condition (R68). -/
theorem State.openNoFloorHolds_of_mute {s : State} {n : Seat} (h : (s.seat n).mute ≠ .opened) :
    s.openNoFloorHolds n = false := by
  simp [State.openNoFloorHolds, h]

/-- Where the condition does not hold, an event hands no OPEN_NO_FLOOR on as QUALIFIED (R62). -/
theorem State.judgeOpenNoFloor_of_not_holds {s : State} {n : Seat} {m : SeatMonitor}
    (h : s.openNoFloorHolds n = false) : (s.judgeKind false n .openNoFloor m).2 ≠ some .qualified := by
  simp only [State.judgeKind, State.judgeOpenNoFloor, h, Bool.false_eq_true, if_false]
  split
  · cases m.state.openNoFloor <;> simp [accumulatingEvent]
  · simp

/-- Restarts and releases owe their clearings and what the seats still bound hand on afresh (R74). -/
theorem State.agrees.restart {s : State} (h : s.agrees) {who : Seat → Bool}
    (mute : ∀ n, who n = true → (s.seat n).mute ≠ .opened) :
    ((s.quieted who).evaluateAll false (restartedKinds who)).handing
      (s.clearings (restartKinds who) ++ (s.quieted who).outcomes false (restartedKinds who)) := by
  refine (s.quiets_quieted who).handing_evaluateAll h fun n hn => ?_
  have picked : who n = true := by
    by_contra off
    simp [restartKinds, off] at hn
  have off : (s.quieted who).openNoFloorHolds n = false :=
    State.openNoFloorHolds_of_mute (by simpa only [State.quieted, State.seat_mapMonitors] using mute n picked)
  rw [State.verdict]
  split
  · exact State.judgeOpenNoFloor_of_not_holds off
  · simp

theorem State.agrees.restartMonitors {s : State} (h : s.agrees) {who : Seat → Bool}
    (mute : ∀ n, who n = true → (s.seat n).mute ≠ .opened) : (s.restartMonitors who).agrees := by
  rw [State.restartMonitors_eq]
  exact (h.restart mute).applyOutcomes

/-- The kinds that RECESS quiets (R71). -/
def State.recessKinds (s : State) (n : Seat) : List Kind := if s.bound n then [.mutedSpeech, .openNoFloor] else []

/-- The floor kinds quieted at the entry to RECESS, before the clearings are taken (R71). -/
def State.recessSettled (s : State) : State := s.mapMonitors fun n m => if s.bound n then m.enterRecess s.params else m

theorem State.monitor_recessSettled (s : State) (n : Seat) :
    s.recessSettled.monitor n = if s.bound n then (s.monitor n).enterRecess s.params else s.monitor n :=
  State.monitor_mapMonitors ..

theorem State.recessMonitors_eq (s : State) :
    s.recessMonitors = s.recessSettled.applyOutcomes (s.clearings s.recessKinds) := by
  have clearings : s.clearings s.recessKinds = allSeats.flatMap fun n =>
      if s.bound n then clearingsOf n [.mutedSpeech, .openNoFloor] (s.monitor n) else [] := by
    refine List.flatMap_congr fun n _ => ?_
    rw [State.recessKinds]
    split <;> rfl
  rw [clearings]
  rfl

theorem State.quiets_recessSettled (s : State) : s.quiets s.recessSettled s.recessKinds := by
  refine ⟨State.mapMonitors_records .., fun n k hk => ?_, fun n k hk => ?_, fun n => ?_⟩
  all_goals simp only [State.recessKinds, State.isDue, State.monitor_recessSettled] at *
  · split at hk
    · next hb =>
      simp only [hb, if_true]
      rcases List.mem_pair.1 hk with rfl | rfl <;> exact ⟨by simp [SeatMonitor.enterRecess, PerKind.get], rfl⟩
    · cases hk
  · split at hk
    · next hb =>
      simp only [hb, if_true]
      cases k <;> first | exact ⟨rfl, rfl⟩ | exact absurd (by decide) hk
    · next hb =>
      simp only [hb, Bool.false_eq_true, if_false, and_self]
  · split <;> decide

theorem State.agrees.recessMonitors {s : State} (h : s.agrees) : s.recessMonitors.agrees := by
  rw [State.recessMonitors_eq]
  exact (s.quiets_recessSettled.handing h).applyOutcomes

/-- The kinds that a dropout window end quiets: an unmarked DROPOUTS that is QUALIFIED (R64). -/
def State.windowKinds (s : State) (n : Seat) : List Kind := if (s.monitor n).windowMark then [] else [.dropouts]

theorem SeatMonitor.state_endWindow (m : SeatMonitor) (k : Kind) : m.endWindow.state.get k =
    if k = .dropouts ∧ m.state.dropouts = .qualified ∧ m.windowMark = false then .quiet else m.state.get k := by
  simp only [SeatMonitor.endWindow]
  split <;> cases k <;> simp_all [PerKind.get]

theorem SeatMonitor.due_endWindow (m : SeatMonitor) (k : Kind) : m.endWindow.due.get k =
    if k = .dropouts ∧ m.state.dropouts = .qualified ∧ m.windowMark = false then false else m.due.get k := by
  simp only [SeatMonitor.endWindow]
  split
  · next h => cases k <;> simp [h, PerKind.get]
  · next h => simp only [h, and_false, if_false]

/-- The tables and qualifiers of a dropout window end, before its clearings are taken (R64). -/
def State.windowSettled (s : State) : State :=
  { (s.mapMonitors fun _ m => m.endWindow).mapSeats fun _ r => { r with dropouts := 0 } with windowElapsed := 0 }

theorem State.monitor_windowSettled (s : State) (n : Seat) : s.windowSettled.monitor n = (s.monitor n).endWindow := by
  simp only [State.windowSettled, State.monitor, State.mapSeats_monitors]
  exact s.monitor_mapMonitors ..

theorem State.endDropoutWindow_eq (s : State) :
    s.endDropoutWindow = s.windowSettled.applyOutcomes (s.clearings s.windowKinds) := by
  have clearings : s.clearings s.windowKinds = allSeats.flatMap fun n =>
      if (s.monitor n).windowMark then [] else clearingsOf n [.dropouts] (s.monitor n) := by
    refine List.flatMap_congr fun n _ => ?_
    rw [State.windowKinds]
    split <;> rfl
  rw [clearings]
  rfl

theorem State.agrees.windowSettled {s : State} (h : s.agrees) : s.windowSettled.handing (s.clearings s.windowKinds) := by
  refine State.quiets.handing ⟨?_, fun n k hk => ?_, fun n k hk => ?_, fun n => ?_⟩ h
  · simp only [State.windowSettled, State.mapSeats_records, State.mapMonitors_records]
  · rw [State.windowKinds] at hk
    split at hk
    · cases hk
    · next unmarked =>
      obtain rfl := List.mem_singleton.1 hk
      rw [State.isDue, State.monitor_windowSettled, SeatMonitor.state_endWindow, SeatMonitor.due_endWindow]
      by_cases hq : (s.monitor n).state.dropouts = .qualified
      · simp [hq, unmarked]
      · have undue : (s.monitor n).due.dropouts = false := h.owes.undue_of_not_qualified (k := .dropouts) hq
        simp [hq, undue, PerKind.get]
  · have other : ¬(k = .dropouts ∧ (s.monitor n).state.dropouts = .qualified ∧ (s.monitor n).windowMark = false) := by
      rintro ⟨rfl, -, unmarked⟩
      simp [State.windowKinds, unmarked] at hk
    rw [State.isDue, State.monitor_windowSettled, SeatMonitor.state_endWindow, SeatMonitor.due_endWindow,
      if_neg other, if_neg other]
    exact ⟨rfl, rfl⟩
  · rw [State.windowKinds]
    split <;> decide

theorem State.agrees.endDropoutWindow {s : State} (h : s.agrees) : s.endDropoutWindow.agrees := by
  rw [State.endDropoutWindow_eq]
  exact h.windowSettled.applyOutcomes

/-! ## Acknowledgements and removals by hand (R87, R88) -/

/-- A change of one (seat, kind) whose qualifier agrees with its warning keeps the agreement. -/
theorem State.owes.of_movesOnly {s t : State} {n : Seat} {k : Kind} (h : s.owes []) (moves : s.movesOnly t n k)
    (undue : (t.record n k).isSome = true → t.isDue n k = false)
    (qualified : (t.monitor n).state.get k = .qualified ↔ t.warns n k) : t.owes [] := by
  refine ⟨moves.list h.list, fun m j held => ?_, by simp, .nil, fun m j => ?_⟩
  all_goals by_cases here : m = n ∧ j = k
  · obtain ⟨rfl, rfl⟩ := here
    exact undue held
  · rw [(moves.others m j here).due]
    exact h.undue m j ((moves.others m j here).record ▸ held)
  · obtain ⟨rfl, rfl⟩ := here
    rw [qualified, State.owesQualified_nil]
  · rw [(moves.others m j here).state, h.qualified, (moves.others m j here).owesQualified]

/-- The list holds the records that are still to be acknowledged, one for a (seat, kind). -/
structure State.toAck (s : State) (rs : List Record) : Prop where
  owes : s.owes []
  held : ∀ r ∈ rs, s.record r.seat r.kind = some r
  nodup : (rs.map fun r => (r.seat, r.kind)).Nodup

theorem State.toAck.acknowledge {s : State} {r : Record} {rs : List Record} (h : s.toAck (r :: rs)) (x : LinkId) :
    (s.acknowledge x r).toAck rs := by
  have here := h.held r List.mem_cons_self
  obtain ⟨new, nodup⟩ := List.nodup_cons.1 h.nodup
  have undue := h.owes.undue r.seat r.kind (by rw [here]; rfl)
  have warned := h.owes.qualified r.seat r.kind
  rw [State.owesQualified_nil] at warned
  have one : s.movesOnly (s.acknowledge x r) r.seat r.kind ∧ (s.acknowledge x r).owes [] := by
    simp only [State.acknowledge]
    split
    · next active =>
      have moves := s.movesOnly_updateRecord r.seat r.kind (keepsKey_acked s.clock x)
      refine ⟨moves, h.owes.of_movesOnly moves (fun _ => undue) ?_⟩
      refine iff_of_true (warned.2 (State.warns_of_active here (by simp [Record.active, active]))) ?_
      refine State.warns_of_active (r := r.acked s.clock x) ?_ rfl
      simp [State.record_updateRecord _ _ _ _ _ (keepsKey_acked s.clock x), here]
    · next active =>
      have moves := s.movesOnly_updateRecord r.seat r.kind (keepsKey_ackedAgain x)
      refine ⟨moves, h.owes.of_movesOnly moves (fun _ => undue) ?_⟩
      refine iff_of_true (warned.2 (State.warns_of_active here (by simp [Record.active, active]))) ?_
      refine State.warns_of_active (r := r.ackedAgain x) ?_ (by simp [Record.active, Record.ackedAgain, active])
      simp [State.record_updateRecord _ _ _ _ _ (keepsKey_ackedAgain x), here]
    · next cleared =>
      have moves := s.movesOnly_removeRecord r.seat r.kind
      let o : HandedOutcome := ⟨r.seat, r.kind, .cleared, none, none⟩
      have taken : s.takes (s.removeRecord r.seat r.kind) o := State.takes_removeRecord (o := o) undue rfl
      refine ⟨moves, h.owes.of_movesOnly moves taken.undue (iff_of_false ?_ (taken.cleared rfl).2)⟩
      have off : (s.monitor r.seat).state.get r.kind ≠ .qualified := fun hq =>
        State.not_warns_of_cleared undue here cleared (warned.1 hq)
      rcases taken.state with kept | ⟨-, -, left⟩
      · exact fun hq => off (kept.symm.trans hq)
      · exact left
  refine ⟨one.2, fun q hq => ?_, nodup⟩
  have other : ¬(q.seat = r.seat ∧ q.kind = r.kind) := fun same =>
    new (List.mem_map.2 ⟨q, hq, Prod.ext same.1 same.2⟩)
  rw [(one.1.others _ _ other).record]
  exact h.held q (List.mem_cons_of_mem _ hq)

theorem State.toAck.foldl {s : State} {rs : List Record} (h : s.toAck rs) (x : LinkId) :
    (rs.foldl (fun t r => t.acknowledge x r) s).owes [] := by
  induction rs generalizing s with
  | nil => exact h.owes
  | cons r rs ih => exact ih (h.acknowledge x)

/-- Records acknowledged that are not CLEARED_UNACKED leave the list as full as it was. -/
theorem State.full_foldl_acknowledge (x : LinkId) {rs : List Record} (active : ∀ r ∈ rs, r.state ≠ .clearedUnacked) :
    ∀ {s : State}, s.full → (rs.foldl (fun t r => t.acknowledge x r) s).full := by
  induction rs with
  | nil => exact id
  | cons r rs ih =>
    intro s full
    refine ih (fun q hq => active q (List.mem_cons_of_mem _ hq)) ?_
    have here := active r List.mem_cons_self
    have same : ∀ f, (s.updateRecord r.seat r.kind f).full := fun f marked => by
      rw [State.updateRecord_records, List.length_map]
      exact full marked
    simp only [State.acknowledge]
    split
    · exact same _
    · exact same _
    · next cleared => exact absurd cleared here

theorem State.agrees.toAck {s : State} (h : s.agrees) {picked : List Record} (held : picked.Sublist s.records) :
    s.toAck picked :=
  ⟨h.owes, fun _ hr => State.record_of_mem h.owes.list (held.subset hr), h.owes.list.2.sublist (held.map _)⟩

/-- Acknowledgements keep the list in agreement (R87, R88, R115). -/
theorem State.agrees.acknowledgeAll {s : State} (h : s.agrees) (x : LinkId) {picked : List Record}
    (held : picked.Sublist s.records) : (s.acknowledgeAll x picked).agrees := by
  have ack := h.toAck held
  simp only [State.acknowledgeAll]
  split
  · exact ⟨(ack.foldl x).fillFreed.1, (ack.foldl x).fillFreed.2⟩
  · next none =>
    refine ⟨ack.foldl x, State.full_foldl_acknowledge x (fun r hr cleared => none ?_) h.full⟩
    exact List.any_eq_true.2 ⟨r, hr, by simp [cleared]⟩

end Sys2Proof.Machine
end

section
/-! The four laws of the Warning List through the moves (R58, R75, R76, R80, R86, R91, R93). -/

namespace Sys2Proof.Machine

/-- The laws of the list and the marks, SETUP's among them (R58, R75, R80, R91, R93). -/
structure State.warningLaws (s : State) : Prop where
  agrees : s.agrees
  setup : s.setupLaw

theorem State.warningLaws_iff (s : State) :
    s.warningLaws ↔ s.listLaw ∧ s.dueLaw ∧ s.setupLaw ∧ s.qualifiedLaw := by
  constructor
  · rintro ⟨agrees, setup⟩
    obtain ⟨list, due, qualified⟩ := s.agrees_iff.1 agrees
    exact ⟨list, due, setup, qualified⟩
  · rintro ⟨list, due, setup, qualified⟩
    exact ⟨s.agrees_iff.2 ⟨list, due, qualified⟩, setup⟩

section
variable {s t : State}

theorem State.setupLaw_of_sitting (h : t.sitting ≠ .setup) : t.setupLaw := fun setup => absurd setup h

theorem State.warningLaws.of_mapRecords (h : s.warningLaws) {f : Record → Record} (hf : Record.keepsWarning f)
    (records : t.records = s.records.map f) (state : ∀ n k, (t.monitor n).state.get k = (s.monitor n).state.get k)
    (due : ∀ n k, t.isDue n k = s.isDue n k) (sitting : t.sitting = s.sitting) : t.warningLaws := by
  refine ⟨h.agrees.of_mapRecords hf records state due, fun setup => ?_⟩
  obtain ⟨empty, quiet⟩ := h.setup (sitting ▸ setup)
  refine ⟨by rw [records, empty, List.map_nil], fun n k hk => ?_⟩
  rw [due, state]
  exact quiet n k hk

theorem State.warningLaws.of_sameWarnings (h : s.warningLaws) (g : s.sameWarnings t) (sitting : t.sitting = s.sitting) :
    t.warningLaws :=
  h.of_mapRecords ⟨fun _ => ⟨rfl, rfl⟩, fun _ => rfl⟩ (by rw [g.records, List.map_id']) g.state g.due sitting

theorem State.warningLaws.of_records (h : s.warningLaws) {f : Record → Record} (hf : Record.keepsWarning f)
    (records : t.records = s.records.map f) (monitors : t.monitors = s.monitors) (sitting : t.sitting = s.sitting) :
    t.warningLaws := by
  have same := State.sameWarnings_of_eq (s := s) (t := { s with monitors := t.monitors }) rfl monitors
  exact h.of_mapRecords hf records same.state same.due sitting

theorem State.warningLaws.of_eq (h : s.warningLaws) (records : t.records = s.records)
    (monitors : t.monitors = s.monitors) (sitting : t.sitting = s.sitting) : t.warningLaws :=
  h.of_sameWarnings (State.sameWarnings_of_eq records monitors) sitting

theorem State.warningLaws.mapSeats (h : s.warningLaws) (f : Seat → SeatRecord → SeatRecord) :
    (s.mapSeats f).warningLaws :=
  State.mapSeats_law f (fun _ _ hu => hu.of_eq rfl rfl rfl) h

theorem State.warningLaws.evaluate (h : s.warningLaws) (tick : Bool) (kinds : Seat → PerKind Bool) :
    (s.evaluate tick kinds).warningLaws := by
  by_cases setup : s.sitting = .setup
  · rwa [State.evaluate_of_setup setup]
  · refine ⟨h.agrees.evaluate tick kinds, State.setupLaw_of_sitting ?_⟩
    rwa [State.onlyMonitorAndList_sitting (s.onlyMonitorAndList_evaluate ..)]

theorem State.warningLaws.changeSeats (h : s.warningLaws) (f : Seat → SeatRecord → SeatRecord) :
    (s.changeSeats f).warningLaws := (h.mapSeats f).evaluate _ _

theorem State.warningLaws.changeSeat (h : s.warningLaws) (n : Seat) (r : SeatRecord) :
    (s.changeSeat n r).warningLaws :=
  State.warningLaws.evaluate (h.of_eq (t := s.putSeat n r) rfl rfl rfl) _ _

/-- In SETUP nothing is QUALIFIED, so that a quieting hands nothing on (R70, R93). -/
theorem State.clearings_of_setup (h : s.setupLaw) (setup : s.sitting = .setup) (ks : Seat → List Kind) :
    s.clearings ks = [] := by
  rw [List.eq_nil_iff_forall_not_mem]
  intro o ho
  obtain ⟨-, hq, -⟩ := State.mem_clearings.1 ho
  have := (h setup).2 o.seat o.kind (mem_allKinds _)
  rw [this.2] at hq
  cases hq

theorem State.evaluateAll_of_setup (setup : s.sitting = .setup) (tick : Bool) (kinds : Seat → PerKind Bool) :
    s.evaluateAll tick kinds = s ∧ s.outcomes tick kinds = [] := by
  have still : ∀ n, s.evaluated tick kinds n = (s.monitor n, []) := fun n =>
    State.evaluated_of_not_evaluates (State.evaluates_eq_false_of_setup setup n) tick kinds
  constructor
  · have same : (Vector.ofFn fun n : Seat => s.monitors[n]) = s.monitors := by
      ext i hi
      simp
    simp only [State.evaluateAll, State.mapMonitors, still, State.monitor, same]
  · simp [State.outcomes, still]

/-- A restart in SETUP brings the seats' qualifiers to their reset values and does nothing else (R70, R74). -/
theorem State.restartMonitors_of_setup (h : s.setupLaw) (setup : s.sitting = .setup) (who : Seat → Bool) :
    s.restartMonitors who = s.quieted who := by
  have sitting : (s.quieted who).sitting = .setup := by rw [State.quieted, State.mapMonitors_sitting, setup]
  obtain ⟨all, none⟩ := State.evaluateAll_of_setup sitting false (restartedKinds who)
  rw [State.restartMonitors_eq, all, none, State.clearings_of_setup h setup]
  rfl

theorem State.warningLaws.restartMonitors (h : s.warningLaws) {who : Seat → Bool}
    (mute : ∀ n, who n = true → (s.seat n).mute ≠ .opened) : (s.restartMonitors who).warningLaws := by
  refine ⟨h.agrees.restartMonitors mute, fun setup => ?_⟩
  rw [State.onlyMonitorAndList_sitting (s.onlyMonitorAndList_restartMonitors who)] at setup
  obtain ⟨empty, quiet⟩ := h.setup setup
  rw [State.restartMonitors_of_setup h.setup setup]
  refine ⟨by rw [State.quieted, State.mapMonitors_records, empty], fun n k hk => ?_⟩
  rw [State.isDue, State.monitor_quieted]
  split
  · exact ⟨SeatMonitor.due_quiet .., SeatMonitor.state_quiet ..⟩
  · exact quiet n k hk

theorem State.warningLaws.endDropoutWindow (h : s.warningLaws) : s.endDropoutWindow.warningLaws := by
  refine ⟨h.agrees.endDropoutWindow, fun setup => ?_⟩
  have sitting : s.sitting = .setup := by
    rw [State.onlyMonitorAndList_sitting s.endDropoutWindow_frame] at setup
    simpa only [State.windowTables, State.mapSeats_sitting] using setup
  obtain ⟨empty, quiet⟩ := h.setup sitting
  rw [State.endDropoutWindow_eq, State.clearings_of_setup h.setup sitting, State.applyOutcomes_nil]
  refine ⟨by simpa only [State.windowSettled, State.mapSeats_records, State.mapMonitors_records] using empty,
    fun n k hk => ?_⟩
  obtain ⟨undue, still⟩ := quiet n k hk
  rw [State.isDue] at undue
  rw [State.isDue, State.monitor_windowSettled, SeatMonitor.due_endWindow, SeatMonitor.state_endWindow, undue, still]
  simp

theorem State.warningLaws.acknowledgeAll (h : s.warningLaws) (x : LinkId) {picked : List Record}
    (held : picked.Sublist s.records) : (s.acknowledgeAll x picked).warningLaws := by
  by_cases setup : s.sitting = .setup
  · obtain rfl : picked = [] := List.sublist_nil.1 ((h.setup setup).1 ▸ held)
    exact h
  · refine ⟨h.agrees.acknowledgeAll x held, State.setupLaw_of_sitting ?_⟩
    rwa [State.onlyMonitorAndList_sitting (s.listWork_acknowledgeAll x picked).frame]

/-! ## Records that change where they stand -/

theorem keepsWarning_ite {f : Record → Record} (hf : Record.keepsWarning f) (p : Record → Bool) :
    Record.keepsWarning fun r => if p r then f r else r := by
  refine ⟨fun r => ?_, fun r => ?_⟩ <;> split
  · exact hf.key r
  · exact ⟨rfl, rfl⟩
  · exact hf.active r
  · rfl

theorem keepsWarning_seen (x : LinkId) : Record.keepsWarning (Record.seen x) :=
  ⟨fun _ => ⟨rfl, rfl⟩, fun _ => rfl⟩

theorem keepsWarning_unsee (x : LinkId) : Record.keepsWarning (Record.unsee x) :=
  ⟨fun _ => ⟨rfl, rfl⟩, fun _ => rfl⟩

theorem keepsWarning_escalate (p : Params) (clock : Nat) : Record.keepsWarning (Record.escalate p clock) := by
  refine ⟨fun r => ?_, fun r => ?_⟩ <;> simp only [Record.escalate] <;> split <;> (try split) <;>
    first | exact ⟨rfl, rfl⟩ | rfl

theorem keepsWarning_tick (p : Params) (clock : Nat) : Record.keepsWarning (Record.tick p clock) := by
  have escalate := keepsWarning_escalate p clock
  refine ⟨fun r => ?_, fun r => ?_⟩ <;> simp only [Record.tick] <;> split <;> (try split) <;> (try split) <;>
    first | exact escalate.key r | exact escalate.active r | exact ⟨rfl, rfl⟩ | rfl

theorem keepsWarning_retime (sev : Severity) (time : Nat) : Record.keepsWarning (Record.retime sev time) := by
  refine ⟨fun r => ?_, fun r => ?_⟩ <;> simp only [Record.retime] <;> split <;> first | exact ⟨rfl, rfl⟩ | rfl

theorem State.warningLaws.updateRecord (h : s.warningLaws) (n : Seat) (k : Kind) {f : Record → Record}
    (hf : Record.keepsWarning f) : (s.updateRecord n k f).warningLaws :=
  h.of_records (keepsWarning_ite hf (Record.isFor n k)) rfl rfl rfl

/-! ## Parameters and images -/

theorem State.warningLaws.takeEffect (h : s.warningLaws) (number : Nat) : (s.takeEffect number).warningLaws := by
  simp only [State.takeEffect]
  split
  · exact h.mapSeats _
  · exact h.of_eq rfl rfl rfl
  · exact h.of_records (keepsWarning_retime ..) rfl rfl rfl
  · exact h.of_records (keepsWarning_retime ..) rfl rfl rfl
  · exact h.of_records (keepsWarning_retime ..) rfl rfl rfl
  · split
    · exact State.warningLaws.evaluate
        (h.of_eq (t := { s with floor := s.floor.drop (s.floor.length - s.params.floorLimit) }) rfl rfl rfl) _ _
    · exact h
  · exact h

theorem State.warningLaws.writeParameter (h : s.warningLaws) (number v : Nat) :
    (s.writeParameter number v).warningLaws :=
  State.warningLaws.takeEffect (h.of_eq (t := { s with
    params := s.params.write number v, setChanged := s.setChanged.after s.params (s.params.write number v) })
    rfl rfl rfl) number

theorem SeatRecord.mute_rebind (pack : Option PackId) (group : Nat) (r : SeatRecord) :
    (r.rebind pack group).mute = .unknown := by
  cases pack <;> rfl

theorem State.warningLaws.applyImage (h : s.warningLaws) (img : List Byte) : (s.applyImage img).warningLaws := by
  have params := State.applyParameters_law img (fun _ number v _ hu => hu.writeParameter number v) h
  generalize hu : s.applyParameters img = u at params
  have curved : State.warningLaws { u with curve := imageCurve img } := params.of_eq rfl rfl rfl
  have tables := State.imageTables_law img (fun _ _ _ hw => hw.of_eq rfl rfl rfl) curved
  have bound : (s.imageBound img).warningLaws := by
    rw [State.imageBound, hu]
    refine tables.restartMonitors fun n _ => ?_
    rw [State.seat_imageTables, SeatRecord.mute_rebind]
    simp
  rw [State.applyImage_eq]
  generalize s.imageBound img = w at bound
  exact bound.of_eq rfl rfl rfl

/-! ## The moves -/

theorem State.warningLaws_ofStraps (straps : Straps) (protect : Bool) (m : Memory) (count : Nat) (q : List Instr) :
    (State.ofStraps straps protect m count q).warningLaws := by
  have quiet : ∀ n k, ((State.ofStraps straps protect m count q).monitor n).state.get k = .quiet := fun n k => by
    rw [State.monitor_ofStraps, SeatMonitor.state_quiet]
  exact ⟨State.agrees_of_idle rfl (fun n k => by rw [quiet]; simp) (State.isDue_ofStraps _ _ _ _ _),
    fun _ => ⟨rfl, fun n k _ => ⟨State.isDue_ofStraps .., quiet n k⟩⟩⟩

theorem State.mute_bindTables (s : State) {n : Seat} (pack : PackId) {from? : Option Seat} (new : from? ≠ some n)
    {m : Seat} (h : (m == n || from? == some m) = true) : ((s.bindTables n pack from?).seat m).mute = .unknown := by
  rw [State.seat_bindTables _ _ new]
  split
  · rfl
  · next hm =>
    have source : from? = some m := by simpa [hm] using h
    rw [if_pos source]
    rfl

theorem State.sameWarnings_mapMonitors {f : Seat → SeatMonitor → SeatMonitor}
    (h : ∀ n m, (f n m).state = m.state ∧ (f n m).due = m.due) : s.sameWarnings (s.mapMonitors f) := by
  refine ⟨State.mapMonitors_records .., fun n k => ?_, fun n k => ?_⟩
  · rw [State.monitor_mapMonitors, (h n _).1]
  · rw [State.isDue, State.monitor_mapMonitors, (h n _).2, State.isDue]

theorem State.sameWarnings_putMonitor {n : Seat} {m : SeatMonitor} (state : m.state = (s.monitor n).state)
    (due : m.due = (s.monitor n).due) : s.sameWarnings (s.putMonitor n m) := by
  refine ⟨rfl, fun j k => ?_, fun j k => ?_⟩
  · rw [State.monitor_putMonitor]
    split
    · next h => rw [state, h]
    · rfl
  · rw [State.isDue, State.monitor_putMonitor, State.isDue]
    split
    · next h => rw [due, h]
    · rfl

theorem State.warningLaws.startMonitors (h : s.warningLaws) : s.startMonitors.warningLaws := by
  have same : s.sameWarnings (s.mapMonitors fun n m => if s.bound n then s.startMonitor n m else m) :=
    State.sameWarnings_mapMonitors fun n m => by split <;> exact ⟨rfl, rfl⟩
  exact (h.of_sameWarnings same (State.mapMonitors_sitting ..)).evaluate _ _

theorem State.warningLaws.granted (h : s.warningLaws) (n : Seat) : (s.granted n).warningLaws :=
  State.warningLaws.evaluate (h.of_sameWarnings (t := s.putMonitor n { s.monitor n with openPv := 0 })
    (State.sameWarnings_putMonitor rfl rfl) rfl) _ _

theorem State.warningLaws.withdrawn (h : s.warningLaws) (who : Seat → Bool) : (s.withdrawn who).warningLaws :=
  h.evaluate _ _

theorem State.warningLaws_requested (g : s.Requested t) (h : s.warningLaws) : t.warningLaws := by
  cases g with
  | apart core intake links profile lines =>
    rw [core]
    exact h.of_eq rfl rfl rfl
  | bound n pack valid new =>
    refine State.warningLaws.restartMonitors (s := s.bindTables n pack (s.seatOfPack pack)) ?_ fun m hm => ?_
    · rw [s.bindTables_eq]
      exact h.of_eq rfl rfl rfl
    · rw [s.mute_bindTables pack new hm]
      simp
  | released n =>
    refine State.warningLaws.restartMonitors (s := s.releaseTables n) (h.of_eq rfl rfl rfl) fun m hm => ?_
    obtain rfl : m = n := by simpa using hm
    rw [State.seat_releaseTables, if_pos rfl]
    simp [SeatRecord.release, SeatRecord.restart]
  | grouped f group => exact h.mapSeats f
  | restarted setup =>
    refine State.warningLaws.restartMonitors (s := s.restartTables)
      (State.restartTables_law (fun _ _ _ _ hu => hu.of_eq rfl rfl rfl) h) fun m hm => ?_
    rw [State.seat_restartTables, if_pos (show (s.seat m).pack.isSome = true from hm)]
    simp [SeatRecord.restart]
  | curved c valid setup => exact State.warningLaws.mapSeats (s := { s with curve := c }) (h.of_eq rfl rfl rfl) _
  | written number v range => exact h.writeParameter number v
  | seen x picked enabled =>
    exact h.of_records (keepsWarning_ite (keepsWarning_seen x) fun r => picked.any fun q => q.isFor r.seat r.kind)
      rfl rfl rfl
  | acked x picked held enabled => exact h.acknowledgeAll x held
  | started length range setup idle =>
    obtain ⟨empty, quiet⟩ := h.setup setup
    refine State.warningLaws.startMonitors ⟨State.agrees_of_idle empty (fun n k => ?_) (fun n k => ?_),
      State.setupLaw_of_sitting (by simp)⟩
    · have still : (s.monitor n).state.get k ≠ .qualified := by simp [(quiet n k (mem_allKinds k)).2]
      exact still
    · exact (quiet n k (mem_allKinds k)).1
  | scheduled length range => exact State.warningLaws.evaluate (s := { s with scheduled := length }) (h.of_eq rfl rfl rfl) _ _
  | recessed sitting =>
    have agrees : State.agrees { s with sitting := .recess, floor := [] } :=
      h.agrees.of_sameWarnings (State.sameWarnings_of_eq rfl rfl)
    refine ⟨agrees.recessMonitors, State.setupLaw_of_sitting ?_⟩
    rw [State.onlyMonitorAndList_sitting (State.onlyMonitorAndList_recessMonitors _)]
    simp
  | resumed recess =>
    have agrees : State.agrees { s with sitting := .sitting } :=
      h.agrees.of_sameWarnings (State.sameWarnings_of_eq rfl rfl)
    refine ⟨agrees.evaluate _ _, State.setupLaw_of_sitting ?_⟩
    rw [State.onlyMonitorAndList_sitting (State.onlyMonitorAndList_evaluate ..)]
    simp
  | ended =>
    have monitor : ∀ n, (State.endMonitors { s with sitting := .setup, floor := [], records := [] }).monitor n
        = .quiet s.params := fun n => State.monitor_mapMonitors ..
    have records : (State.endMonitors { s with sitting := .setup, floor := [], records := [] }).records = [] :=
      State.mapMonitors_records ..
    have undue : ∀ n k, (State.endMonitors { s with sitting := .setup, floor := [], records := [] }).isDue n k = false :=
      fun n k => by rw [State.isDue, monitor, SeatMonitor.due_quiet]
    refine ⟨State.agrees_of_idle records (fun n k => ?_) undue, fun _ => ⟨records, fun n k _ => ⟨undue n k, ?_⟩⟩⟩
    · rw [monitor, SeatMonitor.state_quiet]
      simp
    · rw [monitor, SeatMonitor.state_quiet]
  | granted n sitting bound off room => exact State.warningLaws.granted (s := s.joinFloor n) (h.of_eq rfl rfl rfl) n
  | replaced n oldest rest sitting bound off floor =>
    exact (State.warningLaws.withdrawn (s := { s with floor := rest }.joinFloor n) (h.of_eq rfl rfl rfl) _).granted n
  | withdrawn n sitting => exact State.warningLaws.evaluate (s := s.leaveFloor n) (h.of_eq rfl rfl rfl) _ _
  | cleared sitting => exact State.warningLaws.evaluate (s := { s with floor := [] }) (h.of_eq rfl rfl rfl) _ _

/-- Every move keeps the four laws of the Warning List. -/
theorem State.warningLaws_moves {whole : Prop} (g : State.Moves whole s t) (h : s.warningLaws) : t.warningLaws := by
  cases g with
  | requested g => exact State.warningLaws_requested g h
  | outside core intake links profile store enabled =>
    rw [core]
    exact h.of_eq rfl rfl rfl
  | reset straps protect g => exact State.warningLaws_ofStraps ..
  | picked p rep rest fifo =>
    simp only [State.processReport]
    split
    · exact State.warningLaws.changeSeat (s := { s.putPort p { s.port p with fifo := rest } with lastServed := p })
        (h.of_eq rfl rfl rfl) ..
    · exact h.of_eq rfl rfl rfl
  | tookValues =>
    refine h.of_sameWarnings ⟨s.takeSetValues_records, fun n k => ?_, fun n k => ?_⟩ s.takeSetValues_sitting
    · rw [State.monitor_takeSetValues]
      rfl
    · rw [State.isDue, State.monitor_takeSetValues]
      rfl
  | advanced who => exact h.changeSeats _
  | counted kinds => exact h.evaluate _ _
  | quarterPhase q range => exact h.of_eq rfl rfl rfl
  | clock =>
    simp only [State.tickClock]
    split
    · exact h
    · exact h.of_eq rfl rfl rfl
  | window =>
    simp only [State.tickWindow]
    split
    · exact h.endDropoutWindow
    · exact h.of_eq rfl rfl rfl
  | timers =>
    simp only [State.tickTimers]
    split
    · exact h
    · exact h.of_records (keepsWarning_tick ..) rfl rfl rfl
  | seconds => exact h.of_eq rfl rfl rfl
  | escalated n k r record runs => exact h.updateRecord n k (keepsWarning_escalate ..)
  | aged who => exact (h.mapSeats _).evaluate _ _
  | unseen x => exact h.of_records (keepsWarning_unsee x) rfl rfl rfl
  | loaded img formed loading => exact h.applyImage img

end

end Sys2Proof.Machine
end

section
/-! The seat records and their estimator records keep their ranges through the moves (R1, R40). -/

namespace Sys2Proof.Machine

/-! ## The curve function (R43) -/

theorem curveSegment_le {bs : List Breakpoint} (ordered : curveOrdered bs = true) (range : ∀ b ∈ bs, b.percent ≤ 100)
    (x : Nat) : curveSegment bs x ≤ 100 := by
  induction bs with
  | nil => exact Nat.zero_le _
  | cons b rest ih =>
    cases rest with
    | nil => exact range b List.mem_cons_self
    | cons next rest =>
      simp only [curveOrdered, Bool.and_eq_true, decide_eq_true_eq] at ordered
      obtain ⟨⟨rising, falling⟩, ordered⟩ := ordered
      have top := range next (by simp)
      simp only [curveSegment]
      split
      · next below =>
        have part : (x - b.mv) * (next.percent - b.percent) / (next.mv - b.mv) ≤ next.percent - b.percent := by
          refine Nat.div_le_of_le_mul ?_
          exact Nat.mul_le_mul_right _ (by omega)
        omega
      · exact ih ordered fun c hc => range c (List.mem_cons_of_mem _ hc)

/-- A percent of a valid curve is at most 100 (R42, R43). -/
theorem curvePercent_le {curve : Vector Breakpoint 8} (valid : curveValid curve = true) (x : Nat) :
    curvePercent curve x ≤ 100 := by
  simp only [curveValid, Bool.and_eq_true, List.all_eq_true, decide_eq_true_eq] at valid
  obtain ⟨range, ordered⟩ := valid
  simp only [curvePercent]
  split
  · exact (range (curve[0]'(by decide)) (by simp)).2
  · exact curveSegment_le ordered (fun b hb => (range b hb).2) x

/-! ## Estimator records (R40) -/

/-- What an estimator record that holds a charge is (R40, R53). -/
structure EstRecord.charged (c : Vector Breakpoint 8) (w : Nat) (e : EstRecord) (value start : Nat) : Prop where
  store : e.store = some value
  percent : e.percent = some (curvePercent c (value / 8))
  windowStart : e.windowStart = some start
  range : value ≤ 32760 ∧ start ≤ 100 ∧ e.age < w ∧ e.rise ≤ 1
  drain : ∀ d ∈ e.drain, d ≤ 100
  minutes : e.minutes = minutesLeft (curvePercent c (value / 8)) e.drain w

theorem EstRecord.lawful_iff (c : Vector Breakpoint 8) (w : Nat) (e : EstRecord) :
    e.lawful c w = true ↔ e = .restarted ∨ ∃ store start, e.charged c w store start := by
  constructor
  · intro h
    simp only [EstRecord.lawful] at h
    split at h
    · next store p start hs hp hw =>
      simp only [Bool.and_eq_true, decide_eq_true_eq, beq_iff_eq] at h
      obtain ⟨⟨⟨⟨⟨⟨hstore, rfl⟩, hstart⟩, hage⟩, hrise⟩, hdrain⟩, hmin⟩ := h
      refine .inr ⟨store, start, hs, hp, hw, ⟨hstore, hstart, hage, hrise⟩, fun d hd => ?_, hmin⟩
      rw [Option.mem_def.1 hd] at hdrain
      simpa using hdrain
    · exact .inl (beq_iff_eq.1 h)
    · cases h
  · rintro (rfl | ⟨store, start, hs, hp, hw, ⟨hstore, hstart, hage, hrise⟩, hdrain, hmin⟩)
    · rfl
    · simp only [EstRecord.lawful, hs, hp, hw, Bool.and_eq_true, decide_eq_true_eq, beq_iff_eq]
      refine ⟨⟨⟨⟨⟨⟨hstore, trivial⟩, hstart⟩, hage⟩, hrise⟩, ?_⟩, hmin⟩
      cases hd : e.drain with
      | none => rfl
      | some d => simpa using hdrain d hd

section
variable {c : Vector Breakpoint 8} (valid : curveValid c = true) {w : Nat} (window : 0 < w) {e : EstRecord}
include valid window

theorem EstRecord.startFrom_charged {v : Nat} (hv : v ≤ 4095) :
    (EstRecord.startFrom c v).charged c w (8 * v) (curvePercent c v) := by
  have same : 8 * v / 8 = v := by omega
  refine ⟨rfl, by rw [same]; rfl, rfl, ⟨by omega, curvePercent_le valid v, window, Nat.zero_le _⟩, by simp [startFrom], rfl⟩

/-- A reading keeps the record in its ranges (R46 to R48, R53). -/
theorem EstRecord.reading_lawful (h : e.lawful c w = true) {v : Nat} (hv : v ≤ 4095) :
    (e.reading c w v).lawful c w = true := by
  rw [EstRecord.lawful_iff]
  right
  rcases (EstRecord.lawful_iff c w e).1 h with rfl | ⟨store, start, hs, hp, hw, ⟨hstore, hstart, hage, hrise⟩, hdrain, hmin⟩
  · exact ⟨_, _, EstRecord.startFrom_charged valid window hv⟩
  · simp only [EstRecord.reading, hs, hp]
    generalize (if curvePercent c (store / 8) + 10 ≤ curvePercent c v then e.rise + 1 else 0) = rise
    split
    · exact ⟨_, _, EstRecord.startFrom_charged valid window hv⟩
    · next once =>
      exact ⟨store - store / 8 + v, start, rfl, rfl, hw,
        ⟨by omega, hstart, hage, Nat.le_of_lt_succ (Nat.not_le.1 once)⟩, hdrain, rfl⟩

/-- A minute tick keeps the record in its ranges (R50, R53). -/
theorem EstRecord.ageOnce_lawful (h : e.lawful c w = true) : (e.ageOnce w).lawful c w = true := by
  rcases (EstRecord.lawful_iff c w e).1 h with rfl | ⟨store, start, hs, hp, hw, ⟨hstore, hstart, hage, hrise⟩, hdrain, hmin⟩
  · rfl
  · rw [EstRecord.lawful_iff]
    right
    simp only [EstRecord.ageOnce, hp]
    split
    · refine ⟨store, curvePercent c (store / 8), hs, hp, rfl, ⟨hstore, curvePercent_le valid _, window, hrise⟩, fun d hd => ?_, rfl⟩
      simp only [EstRecord.completeWindow, hw, Option.getD_some, Option.mem_some_iff] at hd
      omega
    · next more => exact ⟨store, start, hs, rfl, hw, ⟨hstore, hstart, Nat.not_le.1 more, hrise⟩, hdrain, hmin⟩

/-- A new window length keeps the record in its ranges, whatever the old one (R52, R53). -/
theorem EstRecord.restartWindow_lawful {w' : Nat} (h : e.lawful c w' = true) : e.restartWindow.lawful c w = true := by
  rcases (EstRecord.lawful_iff c w' e).1 h with rfl | ⟨store, start, hs, hp, hw, ⟨hstore, hstart, hage, hrise⟩, hdrain, hmin⟩
  · rfl
  · rw [EstRecord.lawful_iff]
    exact .inr ⟨store, curvePercent c (store / 8), hs, hp, hp, ⟨hstore, curvePercent_le valid _, window, hrise⟩,
      by simp [EstRecord.restartWindow], rfl⟩

end

/-! ## Seat records (R1) -/

/-- Group, counts, level store, sequence and estimator record in their ranges (R1). -/
structure SeatRecord.ranged (c : Vector Breakpoint 8) (w : Nat) (r : SeatRecord) : Prop where
  group : r.group ≤ 15
  silence : r.silence ≤ 255
  dropouts : r.dropouts ≤ 255
  level : ∀ a ∈ r.levelStore, a ≤ 400
  sequence : r.sequenceLawful = true
  est : r.est.lawful c w = true

/-- A seat with a pack is lawful if its fields are in range and a SEEKING or LOST one holds what its state leaves it. -/
theorem SeatRecord.lawful_of_bound {c : Vector Breakpoint 8} {w : Nat} {r : SeatRecord} (ranged : r.ranged c w)
    (pack : r.pack ≠ none) (signal : r.signal ≠ .noPack)
    (seeking : r.signal = .seeking → r.seq = .absent ∧ r.levelStore = none ∧ r.est = .restarted)
    (silent : r.signal = .seeking ∨ r.signal = .lost → r.mute = .unknown ∧ r.rawMute = none ∧ r.voice = false) :
    r.lawful c w :=
  ⟨ranged.group, ranged.silence, ranged.dropouts, ranged.level, ranged.sequence, ranged.est,
    iff_of_false pack signal, fun h => absurd h pack, seeking, silent⟩

theorem SeatRecord.reset_lawful (c : Vector Breakpoint 8) (w : Nat) {g : Nat} (hg : g ≤ 15) :
    SeatRecord.lawful c w { SeatRecord.reset with group := g } :=
  ⟨hg, Nat.zero_le _, Nat.zero_le _, by simp [SeatRecord.reset], rfl, rfl, by simp [SeatRecord.reset], fun _ => rfl,
    by simp [SeatRecord.reset], by simp [SeatRecord.reset]⟩

theorem SeatRecord.release_lawful (c : Vector Breakpoint 8) (w : Nat) {r : SeatRecord} (hg : r.group ≤ 15) :
    r.release.lawful c w := SeatRecord.reset_lawful c w hg

theorem SeatRecord.restart_lawful (c : Vector Breakpoint 8) (w : Nat) {r : SeatRecord} (hg : r.group ≤ 15)
    (pack : r.pack ≠ none) : r.restart.lawful c w :=
  SeatRecord.lawful_of_bound ⟨hg, Nat.zero_le _, Nat.zero_le _, by simp [SeatRecord.restart], rfl, rfl⟩ pack (by simp [SeatRecord.restart])
    (fun _ => ⟨rfl, rfl, rfl⟩) fun _ => ⟨rfl, rfl, rfl⟩

/-- The closing of a sequence writes the sequence and the level store alone (R35). -/
theorem SeatRecord.closeSequence_eq (r : SeatRecord) :
    r.closeSequence = { r with seq := r.closeSequence.seq, levelStore := r.closeSequence.levelStore } := by
  simp only [SeatRecord.closeSequence]
  split <;> rfl

/-- After a closing no sequence is OPEN (R35). -/
theorem SeatRecord.sequenceLawful_closeSequence (r : SeatRecord) (signal : Signal) :
    SeatRecord.sequenceLawful { r.closeSequence with signal := signal } = true := by
  simp only [SeatRecord.closeSequence, SeatRecord.sequenceLawful]
  cases hs : r.seq <;> simp [hs]

/-- A folded level stays in range (R35). -/
theorem foldLevel_le {a : Option Nat} {level : Nat} (ha : ∀ x ∈ a, x ≤ 400) (hl : level ≤ 100) :
    foldLevel a level ≤ 400 := by
  cases a with
  | none => simp only [foldLevel]; omega
  | some x =>
    have := ha x rfl
    simp only [foldLevel]
    omega

section
variable {c : Vector Breakpoint 8} {w : Nat} {r : SeatRecord} (h : r.lawful c w)
include h

theorem SeatRecord.lawful.ranged : r.ranged c w := by
  obtain ⟨group, silence, dropouts, level, sequence, est, -⟩ := h
  exact ⟨group, silence, dropouts, level, sequence, est⟩

/-- A seat without a pack holds its group alone (R3). -/
theorem SeatRecord.lawful.of_unbound (pack : r.pack = none) : r = { SeatRecord.reset with group := r.group } := by
  obtain ⟨-, -, -, -, -, -, -, unbound, -⟩ := h
  exact unbound pack

theorem SeatRecord.lawful.pack_iff : r.pack = none ↔ r.signal = .noPack := by
  obtain ⟨-, -, -, -, -, -, pack, -⟩ := h
  exact pack

theorem SeatRecord.lawful.of_seeking (signal : r.signal = .seeking) :
    r.seq = .absent ∧ r.levelStore = none ∧ r.est = .restarted := by
  obtain ⟨-, -, -, -, -, -, -, -, seeking, -⟩ := h
  exact seeking signal

theorem SeatRecord.lawful.of_silent (signal : r.signal = .seeking ∨ r.signal = .lost) :
    r.mute = .unknown ∧ r.rawMute = none ∧ r.voice = false := by
  obtain ⟨-, -, -, -, -, -, -, -, -, silent⟩ := h
  exact silent signal

theorem SeatRecord.lawful.mute_of_unbound (pack : r.pack = none) : r.mute = .unknown := by
  rw [h.of_unbound pack]
  rfl

/-- A new group keeps the record lawful (R16). -/
theorem SeatRecord.lawful.regroup {g : Nat} (hg : g ≤ 15) : SeatRecord.lawful c w { r with group := g } := by
  by_cases pack : r.pack = none
  · rw [h.of_unbound pack]
    exact SeatRecord.reset_lawful c w hg
  · obtain ⟨-, silence, dropouts, level, sequence, est⟩ := h.ranged
    exact SeatRecord.lawful_of_bound ⟨hg, silence, dropouts, level, sequence, est⟩ pack (mt h.pack_iff.2 pack)
      h.of_seeking h.of_silent

/-- A new estimator record in range keeps the record lawful if it is fresh where the old one was. -/
theorem SeatRecord.lawful.newEst {c' : Vector Breakpoint 8} {w' : Nat} {e : EstRecord} (he : e.lawful c' w' = true)
    (fresh : r.est = .restarted → e = .restarted) : SeatRecord.lawful c' w' { r with est := e } := by
  by_cases pack : r.pack = none
  · have shape := h.of_unbound pack
    have empty : e = .restarted := fresh (by rw [shape]; rfl)
    rw [shape, empty]
    exact SeatRecord.reset_lawful c' w' h.ranged.group
  · obtain ⟨group, silence, dropouts, level, sequence, -⟩ := h.ranged
    refine SeatRecord.lawful_of_bound ⟨group, silence, dropouts, level, sequence, he⟩ pack (mt h.pack_iff.2 pack)
      (fun seeking => ?_) h.of_silent
    obtain ⟨seq, store, est⟩ := h.of_seeking seeking
    exact ⟨seq, store, fresh est⟩

/-- The dropout count returned to 0 keeps the record lawful (R64). -/
theorem SeatRecord.lawful.noDropouts : SeatRecord.lawful c w { r with dropouts := 0 } := by
  by_cases pack : r.pack = none
  · rw [h.of_unbound pack]
    exact SeatRecord.reset_lawful c w h.ranged.group
  · obtain ⟨group, silence, -, level, sequence, est⟩ := h.ranged
    exact SeatRecord.lawful_of_bound ⟨group, silence, Nat.zero_le _, level, sequence, est⟩ pack (mt h.pack_iff.2 pack)
      h.of_seeking h.of_silent

/-- A closed sequence leaves the level store in range (R35). -/
theorem SeatRecord.lawful.level_closeSequence : ∀ a ∈ r.closeSequence.levelStore, a ≤ 400 := by
  simp only [SeatRecord.closeSequence]
  split
  · next number level receiver hseq =>
    have range := h.ranged.sequence
    simp only [SeatRecord.sequenceLawful, hseq, Bool.and_eq_true, decide_eq_true_eq] at range
    intro a ha
    cases ha
    exact foldLevel_le h.ranged.level range.1
  · exact h.ranged.level
  · exact h.ranged.level

/-- A report keeps its seat's record lawful (R33 to R38). -/
theorem SeatRecord.lawful.report (valid : curveValid c = true) (window : 0 < w) (pack : r.pack ≠ none) {rep : Report}
    (hr : rep.lawful) : (r.report c w rep).lawful c w := by
  obtain ⟨-, level, voltage⟩ := hr
  have taken : ∀ missed, (r.take c w rep missed).lawful c w := fun missed => by
    obtain ⟨group, -, -, -, -, est⟩ := h.ranged
    have eq := r.closeSequence_eq
    refine SeatRecord.lawful_of_bound ⟨?_, Nat.zero_le _, Nat.min_le_left .., h.level_closeSequence, ?_, ?_⟩ ?_
      (by simp [SeatRecord.take]) (by simp [SeatRecord.take]) (by simp [SeatRecord.take])
    · simp only [SeatRecord.take]
      rw [eq]
      exact group
    · simp [SeatRecord.sequenceLawful, SeatRecord.take, level]
    · simp only [SeatRecord.take]
      split
      · exact est
      · exact EstRecord.reading_lawful valid window est voltage
    · simp only [SeatRecord.take]
      rw [eq]
      exact pack
  simp only [SeatRecord.report]
  split
  · exact taken 0
  · exact taken _
  · exact taken 0
  · obtain ⟨group, silence, dropouts, store, sequence, est⟩ := h.ranged
    refine SeatRecord.lawful_of_bound ⟨group, silence, dropouts, store, ?_, est⟩ pack (mt h.pack_iff.2 pack)
      (fun seeking => ?_) h.of_silent
    · simp only [SeatRecord.sequenceLawful, SeqState.echo] at sequence ⊢
      cases hs : r.seq with
      | absent => rfl
      | closed n => rfl
      | opened n held receiver =>
        simp only [hs, Bool.and_eq_true, decide_eq_true_eq] at sequence
        by_cases raises : held < rep.level <;> simp [raises, sequence, level]
    · obtain ⟨seq, levels, fresh⟩ := h.of_seeking seeking
      exact ⟨by rw [seq]; rfl, levels, fresh⟩
  · exact h

/-- A new silence count keeps a bound seat's record lawful (R5). -/
theorem SeatRecord.lawful.newSilence (pack : r.pack ≠ none) {silence : Nat} (range : silence ≤ 255) :
    SeatRecord.lawful c w { r with silence := silence } := by
  obtain ⟨group, -, dropouts, level, sequence, est⟩ := h.ranged
  exact SeatRecord.lawful_of_bound ⟨group, range, dropouts, level, sequence, est⟩ pack (mt h.pack_iff.2 pack)
    h.of_seeking h.of_silent

/-- Entry to FADING keeps the record lawful (R6). -/
theorem SeatRecord.lawful.enterFading (pack : r.pack ≠ none) : r.enterFading.lawful c w := by
  obtain ⟨group, silence, dropouts, -, -, est⟩ := h.ranged
  have eq := r.closeSequence_eq
  refine SeatRecord.lawful_of_bound ⟨?_, ?_, ?_, h.level_closeSequence, r.sequenceLawful_closeSequence _, ?_⟩ ?_
    (by simp [SeatRecord.enterFading]) (by simp [SeatRecord.enterFading]) (by simp [SeatRecord.enterFading])
  all_goals
    rw [SeatRecord.enterFading, eq]
    assumption

/-- Entry to LOST keeps the record of a FADING seat lawful (R7). -/
theorem SeatRecord.lawful.enterLost (signal : r.signal = .fading) : r.enterLost.lawful c w := by
  obtain ⟨group, silence, dropouts, level, sequence, est⟩ := h.ranged
  have pack : r.pack ≠ none := fun none => by
    rw [h.pack_iff.1 none] at signal
    cases signal
  refine SeatRecord.lawful_of_bound ⟨group, silence, dropouts, level, ?_, est⟩ pack
    (by simp [SeatRecord.enterLost]) (by simp [SeatRecord.enterLost]) fun _ => ⟨rfl, rfl, rfl⟩
  simp only [SeatRecord.sequenceLawful, SeatRecord.enterLost, signal] at sequence ⊢
  cases hs : r.seq <;> simp [hs] at sequence ⊢

/-- A quarter tick's advance keeps the record lawful (R5, R6, R7). -/
theorem SeatRecord.lawful.advance (fade lost : Nat) : (r.advance fade lost).lawful c w := by
  simp only [SeatRecord.advance]
  split
  · exact h
  · next bound =>
    have pack : r.pack ≠ none := fun none => bound (h.pack_iff.1 none)
    have counted := h.newSilence pack (silence := bump 255 r.silence) (Nat.min_le_left ..)
    have faded : SeatRecord.lawful c w (if r.signal = .heard ∧ fade ≤ bump 255 r.silence
        then SeatRecord.enterFading { r with silence := bump 255 r.silence }
        else { r with silence := bump 255 r.silence }) := by
      split
      · exact counted.enterFading pack
      · exact counted
    generalize (if r.signal = .heard ∧ fade ≤ bump 255 r.silence
        then SeatRecord.enterFading { r with silence := bump 255 r.silence }
        else { r with silence := bump 255 r.silence }) = next at faded ⊢
    split
    · next loses => exact faded.enterLost loses.1
    · exact faded

/-- A minute tick keeps the record lawful (R50). -/
theorem SeatRecord.lawful.ageMinute (valid : curveValid c = true) (window : 0 < w) : (r.ageMinute w).lawful c w := by
  simp only [SeatRecord.ageMinute]
  split
  · exact h
  · exact h.newEst (EstRecord.ageOnce_lawful valid window h.ranged.est) fun fresh => by rw [fresh]; rfl

end

end Sys2Proof.Machine
end

section
/-! The seat records and the strays' figures through the moves (R1, R11, R40). -/

namespace Sys2Proof.Machine

theorem Params.lawful.window_pos {p : Params} (h : p.lawful) : 0 < p.estimatorWindow := by
  have range : (paramRange 5).1 ≤ p.estimatorWindow := (h.1 5 (by decide)).1
  exact Nat.lt_of_lt_of_le (by decide) range

section
variable {s t : State}

theorem State.seatLaw_of_seats (h : ∀ n, (t.seat n).lawful s.curve s.params.estimatorWindow)
    (curve : t.curve = s.curve) (params : t.params.estimatorWindow = s.params.estimatorWindow) : t.seatLaw := by
  intro n
  rw [curve, params]
  exact h n

theorem State.seatLaw_mapSeats (hs : s.seatLaw) {f : Seat → SeatRecord → SeatRecord}
    (h : ∀ n r, SeatRecord.lawful s.curve s.params.estimatorWindow r →
      (f n r).lawful s.curve s.params.estimatorWindow) : (s.mapSeats f).seatLaw := by
  refine State.seatLaw_of_seats (fun n => ?_) (s.mapSeats_curve f) (by rw [s.mapSeats_params f])
  rw [State.seat_mapSeats]
  exact h n _ (hs n)

theorem State.seatLaw_bindTables (hs : s.seatLaw) {n : Seat} {pack : PackId} {from? : Option Seat}
    (new : from? ≠ some n) : (s.bindTables n pack from?).seatLaw := by
  have eq := s.bindTables_eq n pack from?
  refine State.seatLaw_of_seats (s := s) (fun m => ?_) (by rw [eq]) (by rw [eq])
  rw [State.seat_bindTables _ _ new]
  split
  · exact SeatRecord.restart_lawful _ _ (hs n).ranged.group (by simp)
  · split
    · exact SeatRecord.release_lawful _ _ (hs m).ranged.group
    · exact hs m

theorem State.seatLaw_writeParameter (hs : s.seatLaw) (valid : curveValid s.curve = true) {number : Nat}
    (range : 1 ≤ number ∧ number ≤ 21) (params : s.params.lawful) (v : Nat) : (s.writeParameter number v).seatLaw := by
  refine State.onlyMonitorAndList_law (s.writeParameter_frame number v) (fun _ _ _ _ h => h) fun n => ?_
  rw [State.seat_writeTables]
  split
  · have window := (Params.write_lawful params range v).window_pos
    refine (hs n).newEst (EstRecord.restartWindow_lawful valid window (hs n).ranged.est) fun fresh => ?_
    rw [fresh]
    rfl
  · next h5 =>
    have same : (s.params.write number v).estimatorWindow = s.params.estimatorWindow :=
      s.params.get_write range v (m := 5) (fun h => h5 h.symm) (by
        simp only [pairOf]
        split <;> decide)
    have window : (s.writeTables number v).params.estimatorWindow = s.params.estimatorWindow := same
    rw [window]
    exact hs n

theorem SeatRecord.rebind_lawful (c : Vector Breakpoint 8) (w : Nat) (pack : Option PackId) {group : Nat}
    (range : group ≤ 15) (r : SeatRecord) : (r.rebind pack group).lawful c w := by
  cases pack with
  | none => exact SeatRecord.reset_lawful c w range
  | some p => exact SeatRecord.restart_lawful c w (r := { r with group := group, pack := some p }) range (by simp)

theorem State.seatLaw_applyImage (s : State) (img : List Byte) : (s.applyImage img).seatLaw := by
  intro n
  rw [State.seat_applyImage]
  exact SeatRecord.rebind_lawful _ _ _ (Nat.min_le_left ..) _

theorem State.seatLaw_requested (h : s.Requested t) (clock : s.clockLaws) (valid : curveValid s.curve = true)
    (hs : s.seatLaw) : t.seatLaw := by
  have work : ∀ {u v : State}, u.onlyMonitorAndList v → u.seatLaw → v.seatLaw := fun hf hu =>
    State.onlyMonitorAndList_law hf (fun _ _ _ _ h => h) hu
  cases h with
  | apart core intake links profile lines =>
    rw [core]
    exact hs
  | bound n pack valid new => exact work (s.bindSeat_frame ..) (State.seatLaw_bindTables hs new)
  | released n =>
    refine work (s.releaseSeat_frame n) (State.seatLaw_of_seats (s := s) (fun m => ?_) rfl rfl)
    rw [State.seat_releaseTables]
    split
    · exact SeatRecord.release_lawful _ _ (hs n).ranged.group
    · exact hs m
  | grouped f group =>
    refine State.seatLaw_mapSeats hs fun n r hr => ?_
    rcases group n r with h | ⟨g, range, h⟩ <;> rw [h]
    · exact hr
    · exact hr.regroup range
  | restarted setup =>
    refine work s.restartBound_frame (State.seatLaw_of_seats (s := s) (fun n => ?_) ?_ ?_)
    · rw [State.seat_restartTables]
      split
      · next held => exact SeatRecord.restart_lawful _ _ (hs n).ranged.group (Option.isSome_iff_ne_none.1 held)
      · exact hs n
    · exact State.restartTables_law (P := fun u => u.curve = s.curve) (fun _ _ _ _ h => h) rfl
    · exact State.restartTables_law (P := fun u => u.params.estimatorWindow = s.params.estimatorWindow)
        (fun _ _ _ _ h => h) rfl
  | curved c valid setup =>
    have fresh : ∀ n, SeatRecord.lawful c s.params.estimatorWindow { s.seat n with est := .restarted } := fun n =>
      (hs n).newEst rfl fun _ => rfl
    refine State.seatLaw_of_seats (s := { s with curve := c }) (fun n => ?_) (State.mapSeats_curve ..)
      (congrArg Params.estimatorWindow (State.mapSeats_params ..))
    rw [State.restartEstimators, State.seat_mapSeats]
    exact fresh n
  | written number v range => exact State.seatLaw_writeParameter hs valid range clock.1 v
  | seen x picked enabled => exact hs
  | acked x picked held enabled => exact work (s.listWork_acknowledgeAll ..).frame hs
  | started length range setup idle => exact work (State.onlyMonitorAndList_startMonitors _) hs
  | scheduled length range => exact work (State.onlyMonitorAndList_evaluate ..) hs
  | recessed sitting => exact work (State.onlyMonitorAndList_recessMonitors _) hs
  | resumed recess => exact work (State.onlyMonitorAndList_evaluate ..) hs
  | ended => exact work (State.onlyMonitorAndList_mapMonitors ..) hs
  | granted n sitting bound off room => exact work (State.onlyMonitorAndList_granted ..) hs
  | replaced n oldest rest sitting bound off floor => exact work (State.onlyMonitorAndList_replaced ..) hs
  | withdrawn n sitting => exact work (State.onlyMonitorAndList_withdrawn ..) hs
  | cleared sitting => exact work (State.onlyMonitorAndList_withdrawn ..) hs

/-- Every move keeps the seat records lawful (R1, R40). -/
theorem State.seatLaw_moves {whole : Prop} (h : State.Moves whole s t) (clock : s.clockLaws)
    (valid : curveValid s.curve = true) (intake : s.intakeLaw) (hs : s.seatLaw) : t.seatLaw := by
  have work : ∀ {u v : State}, u.onlyMonitorAndList v → u.seatLaw → v.seatLaw := fun hf hu =>
    State.onlyMonitorAndList_law hf (fun _ _ _ _ h => h) hu
  have window := clock.1.window_pos
  cases h with
  | requested h => exact State.seatLaw_requested h clock valid hs
  | outside core intake links profile store enabled =>
    rw [core]
    exact hs
  | reset straps protect g =>
    intro n
    rw [State.seat_ofStraps]
    exact SeatRecord.reset_lawful _ _ (g := 0) (Nat.zero_le _)
  | picked p rep rest fifo =>
    have lawful : rep.lawful := by
      obtain ⟨-, reports, -⟩ := intake p
      exact reports rep (by rw [fifo]; exact List.mem_cons_self)
    simp only [State.processReport]
    split
    · next n held =>
      have pack : (s.seat n).pack ≠ none := by
        rw [State.pack_of_seatOfPack (s := s) held]
        simp
      refine work (State.changeSeat_spec ..) (State.seatLaw_of_seats (s := s) (fun m => ?_) rfl rfl)
      rw [State.seat_putSeat]
      split
      · exact (hs n).report valid window pack lawful
      · exact hs m
    · exact hs
  | tookValues => exact State.takeSetValues_law (fun _ _ _ h => h) hs
  | advanced who =>
    refine work (s.changeSeats_spec _) (State.seatLaw_mapSeats hs fun n r hr => ?_)
    split
    · exact hr.advance ..
    · exact hr
  | counted kinds => exact work (s.onlyMonitorAndList_evaluate ..) hs
  | quarterPhase q range => exact hs
  | clock =>
    simp only [State.tickClock]
    split <;> exact hs
  | window =>
    simp only [State.tickWindow]
    split
    · refine work s.endDropoutWindow_frame (State.seatLaw_of_seats (s := s) (fun n => ?_) ?_ ?_)
      · rw [State.seat_windowTables]
        exact (hs n).noDropouts
      · exact State.windowTables_law (P := fun u => u.curve = s.curve) (fun _ _ h => h) rfl
      · exact State.windowTables_law (P := fun u => u.params.estimatorWindow = s.params.estimatorWindow)
          (fun _ _ h => h) rfl
    · exact hs
  | timers =>
    simp only [State.tickTimers]
    split <;> exact hs
  | seconds => exact hs
  | escalated n k r record runs => exact hs
  | aged who =>
    refine work (s.minuteSeats_frame who) (State.seatLaw_mapSeats hs fun n r hr => ?_)
    split
    · exact hr.ageMinute valid window
    · exact hr
  | unseen x => exact hs
  | loaded img formed loading => exact s.seatLaw_applyImage img

/-! ## The strays' figures (R11) -/

theorem State.strayRanges_of_sublist (hs : s.strayRanges) (sub : t.strays.Sublist s.strays)
    (later : s.deviceSeconds ≤ t.deviceSeconds) : t.strayRanges := by
  intro e he
  obtain ⟨level, low, high, heard⟩ := hs e (sub.subset he)
  exact ⟨level, low, high, heard.trans later⟩

theorem State.strayRanges_requested (h : s.Requested t) (hs : s.strayRanges) : t.strayRanges := by
  have work : ∀ {u v : State}, u.onlyMonitorAndList v → u.strayRanges → v.strayRanges := fun hf hu =>
    State.onlyMonitorAndList_law hf (fun _ _ _ _ h => h) hu
  cases h with
  | apart core intake links profile lines =>
    rw [core]
    exact hs
  | bound n pack valid new =>
    refine work (s.bindSeat_frame ..) (State.strayRanges_of_sublist hs ?_ ?_)
    · rw [State.strays_bindTables]
      exact List.filter_sublist
    · rw [s.bindTables_eq]
  | released n => exact work (s.releaseSeat_frame n) hs
  | grouped f group => exact State.mapSeats_law f (fun _ _ h => h) hs
  | restarted setup => exact work s.restartBound_frame fun e he => absurd he List.not_mem_nil
  | curved c valid setup => exact State.mapSeats_law (P := State.strayRanges) _ (fun _ _ h => h) hs
  | written number v range => exact work (s.writeParameter_frame number v) hs
  | seen x picked enabled => exact hs
  | acked x picked held enabled => exact work (s.listWork_acknowledgeAll ..).frame hs
  | started length range setup idle => exact work (State.onlyMonitorAndList_startMonitors _) hs
  | scheduled length range => exact work (State.onlyMonitorAndList_evaluate ..) hs
  | recessed sitting => exact work (State.onlyMonitorAndList_recessMonitors _) hs
  | resumed recess => exact work (State.onlyMonitorAndList_evaluate ..) hs
  | ended => exact work (State.onlyMonitorAndList_mapMonitors ..) hs
  | granted n sitting bound off room => exact work (State.onlyMonitorAndList_granted ..) hs
  | replaced n oldest rest sitting bound off floor => exact work (State.onlyMonitorAndList_replaced ..) hs
  | withdrawn n sitting => exact work (State.onlyMonitorAndList_withdrawn ..) hs
  | cleared sitting => exact work (State.onlyMonitorAndList_withdrawn ..) hs

/-- Every move keeps the strays' figures in their ranges (R11). -/
theorem State.strayRanges_moves {whole : Prop} (h : State.Moves whole s t) (time : s.timeLaw) (intake : s.intakeLaw)
    (hs : s.strayRanges) : t.strayRanges := by
  have work : ∀ {u v : State}, u.onlyMonitorAndList v → u.strayRanges → v.strayRanges := fun hf hu =>
    State.onlyMonitorAndList_law hf (fun _ _ _ _ h => h) hu
  cases h with
  | requested h => exact State.strayRanges_requested h hs
  | outside core intake links profile store enabled =>
    rw [core]
    exact hs
  | reset straps protect g => exact fun e he => absurd he List.not_mem_nil
  | picked p rep rest fifo =>
    have lawful : rep.lawful := by
      obtain ⟨-, reports, -⟩ := intake p
      exact reports rep (by rw [fifo]; exact List.mem_cons_self)
    simp only [State.processReport]
    split
    · exact work (State.changeSeat_spec ..) hs
    · intro e he
      rcases mem_noteStray he with old | ⟨-, hl, hh, hc⟩
      · exact hs e old
      · have counts : 1 ≤ e.count ∧ e.count ≤ 255 := by
          rcases hc with hc | ⟨q, hq, hc⟩
          · omega
          · obtain ⟨-, low, -⟩ := hs q hq
            simp only [bump] at hc
            omega
        exact ⟨hl.le.trans lawful.2.1, counts.1, counts.2, hh.le⟩
  | tookValues => exact State.takeSetValues_law (fun _ _ _ h => h) hs
  | advanced who => exact work (s.changeSeats_spec _) (State.mapSeats_law _ (fun _ _ h => h) hs)
  | counted kinds => exact work (s.onlyMonitorAndList_evaluate ..) hs
  | quarterPhase q range => exact hs
  | clock =>
    simp only [State.tickClock]
    split <;> exact hs
  | window =>
    simp only [State.tickWindow]
    split
    · exact work s.endDropoutWindow_frame (State.windowTables_law (fun _ _ h => h) hs)
    · exact hs
  | timers =>
    simp only [State.tickTimers]
    split <;> exact hs
  | seconds =>
    obtain ⟨-, -, top, -⟩ := time
    exact State.strayRanges_of_sublist hs (List.Sublist.refl _) (Nat.le_min.2 ⟨top, Nat.le_succ _⟩)
  | escalated n k r record runs => exact hs
  | aged who => exact work (s.minuteSeats_frame who) (State.mapSeats_law _ (fun _ _ h => h) hs)
  | unseen x => exact hs
  | loaded img formed loading =>
    refine State.strayRanges_of_sublist hs ?_ ?_
    · rw [State.strays_applyImage]
      exact List.filter_sublist
    · exact State.applyImage_law (P := fun u => s.deviceSeconds ≤ u.deviceSeconds) img
        (fun u number v _ hu => by rw [(u.writeParameter_frame number v).1]; exact hu)
        (fun _ _ _ _ _ _ _ _ h => h) le_rfl

end

end Sys2Proof.Machine
end

section
/-! What a judgement makes of its part: the present values stay in range, and the kinds that follow a condition follow
it (R58, R60, R62, R65 to R71). -/

namespace Sys2Proof.Machine

/-! ## Ranges -/

/-- A kind's part in its ranges (R58, R66). -/
def KindPart.inRange (k : Kind) (p : KindPart) : Prop :=
  match k with
  | .battery => p.pv ≤ 255 ∧ (p.grade.isSome = true ↔ p.state = .qualified)
  | .mutedSpeech | .signalWeak => p.pv ≤ 255
  | .openNoFloor => p.pv ≤ Config.openPvMax
  | .batteryShortfall | .dropouts | .signalLost => p.state ≠ .qualifying

/-- A seat's qualifiers are lawful part by part. -/
theorem SeatMonitor.lawful_iff (m : SeatMonitor) : m.lawful ↔ ∀ k, (m.part k).inRange k := by
  constructor
  · rintro ⟨battery, muted, weak, opened, grade, shortfall, dropouts, lost⟩ k
    cases k with
    | battery => exact ⟨battery, grade⟩
    | batteryShortfall => exact shortfall
    | mutedSpeech => exact muted
    | openNoFloor => exact opened
    | signalWeak => exact weak
    | dropouts => exact dropouts
    | signalLost => exact lost
  · intro h
    exact ⟨(h .battery).1, h .mutedSpeech, h .signalWeak, h .openNoFloor, (h .battery).2, h .batteryShortfall,
      h .dropouts, h .signalLost⟩

/-- The set values in the range of a byte (R77). -/
structure Params.setValues (p : Params) : Prop where
  battery : p.batteryQualify ≤ 255
  muted : p.mutedSpeechQualify ≤ 255
  weak : p.weakQualify ≤ 255

theorem Params.lawful.setValues {p : Params} (h : p.lawful) : p.setValues := by
  have battery := (h.1 4 (by decide)).2
  have muted := (h.1 8 (by decide)).2
  have weak := (h.1 12 (by decide)).2
  exact ⟨battery, muted, weak⟩

theorem resetting_pv_le (tick : Bool) {holds clears : Bool} {setValue : Nat} (q : QState) {pv : Nat}
    (hv : setValue ≤ 255) (hp : pv ≤ 255) : (resetting tick setValue holds clears q pv).2.1 ≤ 255 := by
  have event : ∀ q, (resettingEvent setValue holds clears q pv).2.1 ≤ 255 := fun q => by
    cases q <;> simp only [resettingEvent] <;> split <;> (try split) <;> first | assumption | exact Nat.zero_le _
  cases tick with
  | false => exact event q
  | true =>
    cases q with
    | quiet => exact event .quiet
    | qualified => exact event .qualified
    | qualifying =>
      simp only [resetting, resettingTick, if_true]
      split
      · split
        · exact Nat.zero_le _
        · exact (Nat.sub_le _ _).trans ((Nat.min_le_left _ _).trans hp)
      · exact hv

/-- BATTERY keeps a grade exactly while it is QUALIFIED (R66). -/
theorem batteryGrade_isSome {p : Params} {r : SeatRecord} {held : Option Bool} {before now : QState}
    {v : Option Verdict} {grade : Option Grade} (fits : Verdict.fits .battery v before now) (hv : v ≠ some .gradeRise)
    (h : grade.isSome = true ↔ before = .qualified) :
    (batteryGrade p r held now v grade).1.isSome = true ↔ now = .qualified := by
  rcases v with _ | _ | _ | _
  · simp only [batteryGrade]
    split
    · next rises => exact iff_of_true rfl rises.1
    · have entered := fits.qualified
      have left := fits.cleared
      simp only [reduceCtorEq, false_iff, not_and_or, not_not] at entered left
      rw [h]
      tauto
  · exact iff_of_true rfl (fits.qualified.1 rfl).2
  · exact absurd rfl hv
  · exact iff_of_false (by simp [batteryGrade]) (fits.cleared.1 rfl).2

section
variable (s : State) (tick : Bool) (n : Seat)

/-- A judgement keeps its part in range (R58, R60, R62, R66). -/
theorem State.inRange_judgeKind (params : s.params.setValues) {k : Kind} {m : SeatMonitor}
    (h : (m.part k).inRange k) : ((s.judgeKind tick n k m).1.part k).inRange k := by
  cases k with
  | battery =>
    refine ⟨resetting_pv_le tick _ params.battery h.1, ?_⟩
    exact batteryGrade_isSome (Verdict.fits_of_resetting .battery) (resetting_verdict rfl).2.2 h.2
  | batteryShortfall =>
    simp only [State.judgeKind, State.judgeShortfall]
    split <;> simp_all [KindPart.inRange, SeatMonitor.part, PerKind.get]
  | mutedSpeech =>
    simp only [State.judgeKind]
    split
    · exact resetting_pv_le tick _ params.muted h
    · exact h
  | openNoFloor =>
    simp only [State.judgeKind, State.judgeOpenNoFloor]
    split
    · split
      · change (accumulatingTick _ _ _ _).2.1 ≤ _
        rw [(accumulatingTick_state ..).2]
        split
        · exact Nat.min_le_left ..
        · exact h
      · exact h
    · exact h
  | signalWeak => exact resetting_pv_le tick _ params.weak h
  | dropouts =>
    simp only [State.judgeKind, State.judgeDropouts]
    split
    · split
      · simp [KindPart.inRange, SeatMonitor.part, PerKind.get]
      · exact h
    · exact h
  | signalLost =>
    simp only [State.judgeKind, State.judgeSignalLost]
    split
    · split
      · exact h
      · simp [KindPart.inRange, SeatMonitor.part, PerKind.get]
    · simp [KindPart.inRange, SeatMonitor.part, PerKind.get]

theorem KindPart.inRange_congr {k : Kind} {p q : KindPart} (state : p.state = q.state) (pv : p.pv = q.pv)
    (grade : p.grade = q.grade) : p.inRange k ↔ q.inRange k := by
  cases k <;> simp only [KindPart.inRange, state, pv, grade]

theorem State.inRange_evaluateKind (params : s.params.setValues) {k : Kind} {m : SeatMonitor}
    (h : (m.part k).inRange k) : ((s.evaluateKind tick n k m).1.part k).inRange k := by
  rw [State.evaluateKind, SeatMonitor.part_dropDue]
  exact (KindPart.inRange_congr rfl rfl rfl).1 (s.inRange_judgeKind tick n params h)

end

theorem State.monitorLaw_evaluateAll {s : State} (params : s.params.setValues) (h : s.monitorLaw) (tick : Bool)
    (kinds : Seat → PerKind Bool) : (s.evaluateAll tick kinds).monitorLaw := by
  refine fun n => (SeatMonitor.lawful_iff _).2 fun k => ?_
  rw [State.part_evaluateAll]
  split
  · exact s.inRange_evaluateKind tick n params ((SeatMonitor.lawful_iff _).1 (h n) k)
  · exact (SeatMonitor.lawful_iff _).1 (h n) k

theorem State.listWork.monitorLaw {s t : State} (g : s.listWork t) (h : s.monitorLaw) : t.monitorLaw := by
  intro n
  have hn := h n
  rcases g.monitors n with same | reset
  · rw [same]
    exact hn
  · obtain ⟨battery, muted, weak, -, grade, shortfall, dropouts, lost⟩ := hn
    rw [reset]
    exact ⟨battery, muted, weak, Nat.zero_le _, grade, shortfall, dropouts, lost⟩

theorem State.monitorLaw_evaluate {s : State} (params : s.params.setValues) (h : s.monitorLaw) (tick : Bool)
    (kinds : Seat → PerKind Bool) : (s.evaluate tick kinds).monitorLaw :=
  (State.listWork_applyOutcomes ..).monitorLaw (State.monitorLaw_evaluateAll params h tick kinds)

theorem SeatMonitor.lawful_quiet {p : Params} (params : p.setValues) : (SeatMonitor.quiet p).lawful :=
  ⟨params.battery, params.muted, params.weak, Nat.zero_le _, by simp [SeatMonitor.quiet], by simp [SeatMonitor.quiet],
    by simp [SeatMonitor.quiet], by simp [SeatMonitor.quiet]⟩

theorem State.monitorLaw_quieted {s : State} (params : s.params.setValues) (h : s.monitorLaw) (who : Seat → Bool) :
    (s.quieted who).monitorLaw := by
  intro n
  rw [State.monitor_quieted]
  split
  · exact SeatMonitor.lawful_quiet params
  · exact h n

theorem State.monitorLaw_restartMonitors {s : State} (params : s.params.setValues) (h : s.monitorLaw)
    (who : Seat → Bool) : (s.restartMonitors who).monitorLaw := by
  have quieted : (s.quieted who).params.setValues := by rwa [State.quieted, State.mapMonitors_params]
  rw [State.restartMonitors_eq]
  exact (State.listWork_applyOutcomes ..).monitorLaw
    (State.monitorLaw_evaluateAll quieted (State.monitorLaw_quieted params h who) false (restartedKinds who))

/-! ## Conditions (R65 to R71) -/

/-- The condition that a kind follows while it is judged; none for the kinds that follow none (R65 to R68, R70, R71). -/
def State.conditionOf (s : State) (n : Seat) : Kind → Prop
  | .battery | .signalLost => s.sitting ≠ .setup ∧ (s.seat n).signal = .lost
  | .mutedSpeech => s.sitting = .sitting ∧ s.mutedSpeechHolds n = true
  | .openNoFloor => s.sitting = .sitting ∧ s.openNoFloorHolds n = true
  | .batteryShortfall | .signalWeak | .dropouts => False

/-- What a seat's qualifiers show of the condition of a kind that follows one: BATTERY its held condition. -/
def SeatMonitor.shows (m : SeatMonitor) : Kind → Prop
  | .battery => m.held.isSome = true
  | .mutedSpeech => m.state.mutedSpeech ≠ .quiet
  | .openNoFloor => m.state.openNoFloor ≠ .quiet
  | .signalLost => m.state.signalLost = .qualified
  | .batteryShortfall | .signalWeak | .dropouts => False

/-- A seat's qualifiers `m` follow the condition of a kind. -/
def State.follows (s : State) (n : Seat) (m : SeatMonitor) (k : Kind) : Prop := m.shows k ↔ s.conditionOf n k

theorem State.conditionLaw_iff (s : State) : s.conditionLaw ↔ ∀ n k, s.follows n (s.monitor n) k := by
  constructor
  · intro h n k
    obtain ⟨muted, opened, lost, held⟩ := h n
    cases k with
    | battery => exact held
    | mutedSpeech => exact muted
    | openNoFloor => exact opened
    | signalLost => exact lost
    | batteryShortfall | signalWeak | dropouts => exact Iff.rfl
  · exact fun h n => ⟨h n .mutedSpeech, h n .openNoFloor, h n .signalLost, h n .battery⟩

/-- What qualifiers show of a kind is read from its state, and for BATTERY from the held condition. -/
theorem SeatMonitor.shows_of_state {m m' : SeatMonitor} {k : Kind} (state : m.state.get k = m'.state.get k)
    (held : m.heldOf k = m'.heldOf k) : m.shows k ↔ m'.shows k := by
  cases k <;> simp only [PerKind.get] at state <;> simp only [SeatMonitor.shows, state]
  case battery =>
    have held : m.held = m'.held := held
    rw [held]

theorem State.follows_of_state {s : State} {n : Seat} {m m' : SeatMonitor} {k : Kind}
    (state : m.state.get k = m'.state.get k) (held : m.heldOf k = m'.heldOf k) :
    s.follows n m k ↔ s.follows n m' k := iff_congr (SeatMonitor.shows_of_state state held) Iff.rfl

theorem State.follows_of_part {s : State} {n : Seat} {m m' : SeatMonitor} {k : Kind} (h : m.part k = m'.part k) :
    s.follows n m k ↔ s.follows n m' k :=
  State.follows_of_state (congrArg KindPart.state h) (congrArg KindPart.held h)

/-- A judgement settles the condition: all kinds outside SETUP, those of the floor in SITTING alone (R70, R71). -/
def State.settles (s : State) (kinds : Seat → PerKind Bool) (n : Seat) (k : Kind) : Bool :=
  s.judges kinds n k && (s.sitting == .sitting || !(k == .mutedSpeech || k == .openNoFloor))

theorem resetting_follows {tick holds : Bool} {setValue : Nat} {q : QState} {pv : Nat} :
    (resetting tick setValue holds (!holds) q pv).1 ≠ .quiet ↔ holds = true := by
  cases holds with
  | true => simpa using resetting_of_holds (tick := tick) (setValue := setValue) (q := q) (pv := pv) rfl
  | false => cases tick <;> cases q <;> simp [resetting, resettingTick, resettingEvent]

/-- After a judgement the kind follows its condition. -/
theorem State.follows_judgeKind {s : State} {n : Seat} (tick : Bool) {k : Kind} (setup : s.sitting ≠ .setup)
    (floor : k = .mutedSpeech ∨ k = .openNoFloor → s.sitting = .sitting) (m : SeatMonitor) :
    s.follows n (s.judgeKind tick n k m).1 k := by
  cases k with
  | battery =>
    simp only [State.follows, State.conditionOf, SeatMonitor.shows, State.judgeKind, State.judgeBattery, heldCondition]
    by_cases lost : (s.seat n).signal = .lost <;> simp [lost, setup]
  | mutedSpeech =>
    have sitting := floor (.inl rfl)
    simp only [State.judgeKind, State.follows, State.conditionOf, sitting, true_and]
    exact resetting_follows
  | openNoFloor =>
    have sitting := floor (.inr rfl)
    simp only [State.judgeKind, State.follows, State.conditionOf, sitting, true_and]
    cases tick with
    | true => exact (accumulatingTick_state s.params.openLimit (s.openNoFloorHolds n) m.state.openNoFloor m.openPv).1
    | false => exact accumulatingEvent_state s.params.openLimit (s.openNoFloorHolds n) m.state.openNoFloor m.openPv
  | signalLost =>
    simp only [State.follows, State.conditionOf, SeatMonitor.shows, State.judgeKind, State.judgeSignalLost]
    by_cases lost : (s.seat n).signal = .lost
    · simp only [lost, if_true, setup, ne_eq, not_false_eq_true, and_self, iff_true]
      split
      · assumption
      · rfl
    · simp [lost]
  | batteryShortfall | signalWeak | dropouts => exact Iff.rfl

/-- The condition of a kind is read from the sitting state, the floor and the seat (R65 to R68). -/
theorem State.conditionOf_congr {s t : State} {n : Seat} (sitting : t.sitting = s.sitting)
    (seat : t.seat n = s.seat n) (floor : t.onFloor n = s.onFloor n) (k : Kind) :
    t.conditionOf n k ↔ s.conditionOf n k := by
  cases k <;> simp only [State.conditionOf, sitting, seat, State.mutedSpeechHolds, State.openNoFloorHolds, floor]

theorem State.judges_setup {s : State} {kinds : Seat → PerKind Bool} {n : Seat} {k : Kind}
    (h : s.judges kinds n k = true) : s.sitting ≠ .setup ∧ s.bound n = true := by
  simp only [State.judges, State.evaluates, Bool.and_eq_true, bne_iff_ne] at h
  exact h.1

theorem State.follows_evaluateKind {s : State} {n : Seat} (tick : Bool) {k : Kind} (setup : s.sitting ≠ .setup)
    (floor : k = .mutedSpeech ∨ k = .openNoFloor → s.sitting = .sitting) (m : SeatMonitor) :
    s.follows n (s.evaluateKind tick n k m).1 k := by
  have part := SeatMonitor.part_dropDue k k (s.judgeKind tick n k m).2 (s.judgeKind tick n k m).1
  refine (State.follows_of_state ?_ ?_).2 (State.follows_judgeKind tick setup floor m)
  · exact congrArg KindPart.state part
  · exact congrArg KindPart.held part

/-- Outside SITTING a judgement of a kind of the floor does nothing (R71). -/
theorem State.evaluateKind_of_not_sitting {s : State} (tick : Bool) (n : Seat) {k : Kind}
    (floor : k = .mutedSpeech ∨ k = .openNoFloor) (h : s.sitting ≠ .sitting) (m : SeatMonitor) :
    s.evaluateKind tick n k m = (m, []) := by
  rcases floor with rfl | rfl <;>
    simp [State.evaluateKind, State.judgeKind, h, SeatMonitor.dropDue, State.outcomeFor]

/-- After an evaluation every kind follows its condition that was judged or followed it before. -/
theorem State.follows_evaluateAll {s : State} (tick : Bool) {kinds : Seat → PerKind Bool} {n : Seat} {k : Kind}
    (h : s.settles kinds n k = false → s.follows n (s.monitor n) k) :
    s.follows n ((s.evaluateAll tick kinds).monitor n) k := by
  have part := s.part_evaluateAll tick kinds n k
  by_cases judged : s.judges kinds n k = true
  · rw [if_pos judged] at part
    refine (State.follows_of_part part).2 ?_
    by_cases floor : k = .mutedSpeech ∨ k = .openNoFloor
    · by_cases sitting : s.sitting = .sitting
      · exact State.follows_evaluateKind tick (State.judges_setup judged).1 (fun _ => sitting) _
      · rw [State.evaluateKind_of_not_sitting tick n floor sitting]
        exact h (by rcases floor with rfl | rfl <;> simp [State.settles, sitting])
    · exact State.follows_evaluateKind tick (State.judges_setup judged).1 (fun f => absurd f floor) _
  · rw [if_neg judged] at part
    exact (State.follows_of_part part).2 (h (by simp [State.settles, judged]))

end Sys2Proof.Machine
end

section
/-! What the qualifiers hold besides the warnings, through an evaluation and a restart: their ranges, the conditions
they follow, OPEN_NO_FLOOR at 0 and QUIET qualifiers without a pack (R58, R62, R65 to R68, R74). -/

namespace Sys2Proof.Machine

/-- A seat without a pack can meet no condition. -/
def SeatRecord.bare (r : SeatRecord) : Prop := r.pack = none → r.mute = .unknown ∧ r.signal ≠ .lost

abbrev State.bareLaw (s : State) : Prop := ∀ n, (s.seat n).bare

/-- Every kind follows its condition. -/
abbrev State.followLaw (s : State) : Prop := ∀ n k, s.follows n (s.monitor n) k

/-- A seat without a pack has QUIET qualifiers (R58). -/
abbrev State.quietLaw (s : State) : Prop := ∀ n, s.bound n = false → ∀ k, (s.monitor n).state.get k = .quiet

/-- Ranges, OPEN_NO_FLOOR at 0 and QUIET qualifiers without a pack. -/
structure State.heldLaws (s : State) : Prop where
  monitors : s.monitorLaw
  opened : s.openLaw
  quiet : s.quietLaw

/-- What the qualifiers hold besides the warnings. -/
structure State.qualifierLaws (s : State) : Prop where
  held : s.heldLaws
  follow : s.followLaw

theorem State.bareLaw_of_seatLaw {s : State} (h : s.seatLaw) : s.bareLaw := fun n pack => by
  refine ⟨(h n).mute_of_unbound pack, ?_⟩
  rw [(h n).pack_iff.1 pack]
  simp

section
variable {s t : State}

theorem State.bareLaw.at_unbound (h : s.bareLaw) {n : Seat} (off : s.bound n = false) :
    (s.seat n).mute = .unknown ∧ (s.seat n).signal ≠ .lost :=
  h n (by simpa [State.bound] using off)

theorem State.bareLaw.openRestart (h : s.bareLaw) {n : Seat} (off : s.bound n = false) : s.openRestart n = .quiet := by
  have mute : s.openNoFloorHolds n = false := State.openNoFloorHolds_of_mute (by simp [(h.at_unbound off).1])
  simp [State.openRestart, mute]

theorem State.onlyMonitorAndList_conditionOf (h : s.onlyMonitorAndList t) (n : Seat) (k : Kind) :
    t.conditionOf n k ↔ s.conditionOf n k :=
  State.conditionOf_congr (State.onlyMonitorAndList_sitting h) (State.onlyMonitorAndList_seat h n)
    (State.onlyMonitorAndList_onFloor h n) k

theorem SeatMonitor.shows_openReset {q : QState} {m : SeatMonitor} {k : Kind} (h : k ≠ .openNoFloor) :
    (m.openReset q).shows k ↔ m.shows k :=
  SeatMonitor.shows_of_state (by cases k <;> first | rfl | exact absurd rfl h)
    (by cases k <;> rfl)

theorem State.openRestart_ne_quiet (n : Seat) :
    s.openRestart n ≠ .quiet ↔ s.sitting = .sitting ∧ s.openNoFloorHolds n = true := by
  simp only [State.openRestart]
  split <;> simp_all

/-- The work of the list leaves the conditions followed that were (R62, R74). -/
theorem State.listWork.follows (g : s.listWork t) {n : Seat} {k : Kind} (h : s.follows n (s.monitor n) k) :
    t.follows n (t.monitor n) k := by
  rw [State.follows, State.onlyMonitorAndList_conditionOf g.frame]
  rcases g.monitors n with same | reset
  · rw [same]
    exact (SeatMonitor.shows_of_state rfl (by cases k <;> rfl)).trans h
  · rw [reset]
    refine (SeatMonitor.shows_of_state (m' := (s.monitor n).openReset (s.openRestart n)) rfl
      (by cases k <;> rfl)).trans ?_
    by_cases opened : k = .openNoFloor
    · subst opened
      exact s.openRestart_ne_quiet n
    · exact (SeatMonitor.shows_openReset opened).trans h

theorem State.listWork.heldLaws (g : s.listWork t) (bare : s.bareLaw) (h : s.heldLaws) : t.heldLaws := by
  refine ⟨g.monitorLaw h.monitors, fun n off => ?_, fun n off k => ?_⟩
  · rw [State.onlyMonitorAndList_sitting g.frame, State.onlyMonitorAndList_bound g.frame] at off
    rcases State.listWork_openPv g n with same | zero
    · rw [same, h.opened n off]
    · exact zero
  · rw [State.onlyMonitorAndList_bound g.frame] at off
    have quiet := h.quiet n off k
    by_cases opened : k = .openNoFloor
    · subst opened
      rcases State.listWork_openNoFloor g n with same | ⟨restart, -⟩
      · exact same.trans quiet
      · exact restart.trans (bare.openRestart off)
    · rw [State.listWork_state g opened, quiet]

theorem State.listWork.qualifierLaws (g : s.listWork t) (bare : s.bareLaw) (h : s.qualifierLaws) : t.qualifierLaws :=
  ⟨g.heldLaws bare h.held, fun n k => g.follows (h.follow n k)⟩

/-! ## An evaluation -/

theorem State.bareLaw_of_frame (h : s.onlyMonitorAndList t) : t.bareLaw ↔ s.bareLaw :=
  forall_congr' fun n => by rw [State.onlyMonitorAndList_seat h]

section
variable (tick : Bool) {kinds : Seat → PerKind Bool}

theorem State.evaluateAll_frame : s.onlyMonitorAndList (s.evaluateAll tick kinds) :=
  State.onlyMonitorAndList_mapMonitors ..

theorem SeatMonitor.openPv_of_part {m m' : SeatMonitor} (h : m.part .openNoFloor = m'.part .openNoFloor) :
    m.openPv = m'.openPv := congrArg KindPart.pv h

theorem State.openPv_evaluateAll_of_idle {n : Seat} (off : s.sitting ≠ .sitting ∨ s.bound n = false) :
    ((s.evaluateAll tick kinds).monitor n).openPv = (s.monitor n).openPv := by
  have part := s.part_evaluateAll tick kinds n .openNoFloor
  split at part
  · next judged =>
    have sitting : s.sitting ≠ .sitting := by
      rcases off with h | h
      · exact h
      · simp [(State.judges_setup judged).2] at h
    rw [State.evaluateKind_of_not_sitting tick n (.inr rfl) sitting] at part
    exact SeatMonitor.openPv_of_part part
  · exact SeatMonitor.openPv_of_part part

theorem State.part_evaluateAll_of_unbound {n : Seat} (off : s.bound n = false) (k : Kind) :
    ((s.evaluateAll tick kinds).monitor n).part k = (s.monitor n).part k := by
  rw [s.part_evaluateAll, if_neg]
  exact fun judged => by simp [(State.judges_setup judged).2] at off

theorem State.heldLaws.evaluateAll (h : s.heldLaws) (params : s.params.setValues) :
    (s.evaluateAll tick kinds).heldLaws := by
  have frame : s.onlyMonitorAndList (s.evaluateAll tick kinds) := State.evaluateAll_frame tick
  refine ⟨State.monitorLaw_evaluateAll params h.monitors tick kinds, fun n off => ?_, fun n off k => ?_⟩
  · rw [State.onlyMonitorAndList_sitting frame, State.onlyMonitorAndList_bound frame] at off
    rw [State.openPv_evaluateAll_of_idle tick off, h.opened n off]
  · rw [State.onlyMonitorAndList_bound frame] at off
    have part := congrArg KindPart.state (State.part_evaluateAll_of_unbound tick (kinds := kinds) off k)
    exact part.trans (h.quiet n off k)

theorem State.heldLaws.evaluate (h : s.heldLaws) (params : s.params.setValues) (bare : s.bareLaw) :
    (s.evaluate tick kinds).heldLaws :=
  (State.listWork_applyOutcomes ..).heldLaws ((State.bareLaw_of_frame (State.evaluateAll_frame tick)).2 bare)
    (h.evaluateAll tick params)

/-- After an evaluation a kind follows its condition that was settled or followed it before. -/
theorem State.follows_evaluate {n : Seat} {k : Kind} (h : s.settles kinds n k = false → s.follows n (s.monitor n) k) :
    (s.evaluate tick kinds).follows n ((s.evaluate tick kinds).monitor n) k := by
  refine (State.listWork_applyOutcomes ..).follows ?_
  have follows := State.follows_evaluateAll tick h
  rwa [State.follows, State.onlyMonitorAndList_conditionOf (State.evaluateAll_frame tick)]

end

/-- Before an evaluation: every kind that it does not settle follows its condition. -/
structure State.mayEvaluate (s : State) (kinds : Seat → PerKind Bool) : Prop where
  params : s.params.setValues
  bare : s.bareLaw
  held : s.heldLaws
  follow : ∀ n k, s.settles kinds n k = false → s.follows n (s.monitor n) k

theorem State.mayEvaluate.all {kinds : Seat → PerKind Bool} (h : s.mayEvaluate kinds) (tick : Bool) :
    (s.evaluateAll tick kinds).qualifierLaws :=
  ⟨h.held.evaluateAll tick h.params, fun n k => by
    have follows := State.follows_evaluateAll tick (h.follow n k)
    rwa [State.follows, State.onlyMonitorAndList_conditionOf (State.evaluateAll_frame tick)]⟩

theorem State.mayEvaluate.evaluate {kinds : Seat → PerKind Bool} (h : s.mayEvaluate kinds) (tick : Bool) :
    (s.evaluate tick kinds).qualifierLaws :=
  ⟨h.held.evaluate tick h.params h.bare, fun n k => State.follows_evaluate tick (h.follow n k)⟩

/-- A kind that is asked for and still not settled has no condition (R58, R70, R71). -/
theorem State.not_conditionOf {kinds : Seat → PerKind Bool} {n : Seat} {k : Kind} (bare : s.bareLaw)
    (asked : (kinds n).get k = true) (h : s.settles kinds n k = false) : ¬s.conditionOf n k := by
  intro holds
  have setup : s.sitting ≠ .setup := by
    cases k <;> first | exact holds.1 | exact False.elim holds | (have h1 := holds.1; simp [h1])
  have bound : s.bound n = true := by
    by_contra off
    obtain ⟨mute, signal⟩ := bare.at_unbound (by simpa using off)
    cases k <;> first
      | exact signal holds.2
      | exact False.elim holds
      | (have h2 := holds.2; simp [State.mutedSpeechHolds, State.openNoFloorHolds, mute] at h2)
  have judged : s.judges kinds n k = true := by simp [State.judges, State.evaluates, setup, bound, asked]
  simp only [State.settles, judged, Bool.true_and, Bool.or_eq_false_iff, Bool.not_eq_eq_eq_not, Bool.not_false] at h
  obtain ⟨sitting, floor⟩ := h
  simp only [beq_eq_false_iff_ne, ne_eq] at sitting
  cases k <;> first | exact absurd holds.1 sitting | simp at floor

/-- From one state to the next the qualifiers and the bindings stay. -/
structure State.readies (s t : State) : Prop where
  monitors : t.monitors = s.monitors
  bound : ∀ n, t.bound n = s.bound n
  setup : t.sitting = .setup → s.sitting = .setup
  sitting : t.sitting ≠ .sitting → s.sitting ≠ .sitting

theorem State.readies.monitor (g : s.readies t) (n : Seat) : t.monitor n = s.monitor n := by
  rw [State.monitor, g.monitors, State.monitor]

theorem State.readies.unsettled {kinds : Seat → PerKind Bool} (g : s.readies t) {n : Seat} {k : Kind}
    (h : t.settles kinds n k = false) : s.settles kinds n k = false := by
  simp only [State.settles, State.judges, State.evaluates, g.bound n] at h ⊢
  by_contra settled
  simp only [Bool.not_eq_false, Bool.and_eq_true, bne_iff_ne, Bool.or_eq_true, beq_iff_eq] at settled
  obtain ⟨⟨⟨setup, bound⟩, asked⟩, floor⟩ := settled
  have setup' : t.sitting ≠ .setup := fun h => setup (g.setup h)
  rcases floor with sitting | floor
  · have sitting' : t.sitting = .sitting := by
      by_contra off
      exact g.sitting off sitting
    simp [sitting', bound, asked] at h
  · simp_all

/-- A kind that is not settled follows its condition as before, which may change only of a kind asked for. -/
theorem State.readies.follows {kinds : Seat → PerKind Bool} (g : s.readies t) (bare : s.bareLaw) (bare' : t.bareLaw)
    {n : Seat} {k : Kind} (condition : (kinds n).get k = false → (t.conditionOf n k ↔ s.conditionOf n k))
    (unsettled : t.settles kinds n k = false) (h : s.follows n (s.monitor n) k) : t.follows n (t.monitor n) k := by
  rw [g.monitor, State.follows]
  refine h.trans ?_
  by_cases asked : (kinds n).get k = true
  · exact iff_of_false (State.not_conditionOf bare asked (g.unsettled unsettled))
      (State.not_conditionOf bare' asked unsettled)
  · exact (condition (by simpa using asked)).symm

theorem State.heldLaws.of_same (h : s.heldLaws) (monitors : t.monitors = s.monitors)
    (bound : ∀ n, t.bound n = s.bound n) (sitting : t.sitting ≠ .sitting → s.sitting ≠ .sitting) : t.heldLaws := by
  have monitor : ∀ n, t.monitor n = s.monitor n := fun n => by rw [State.monitor, monitors, State.monitor]
  refine ⟨fun n => monitor n ▸ h.monitors n, fun n off => ?_, fun n off k => ?_⟩
  · rw [monitor]
    refine h.opened n (off.imp (sitting ·) fun hb => ?_)
    rwa [bound] at hb
  · rw [bound] at off
    rw [monitor, h.quiet n off k]

theorem State.readies.heldLaws (g : s.readies t) (h : s.heldLaws) : t.heldLaws :=
  h.of_same g.monitors g.bound g.sitting

theorem State.readies.evaluate {kinds : Seat → PerKind Bool} (g : s.readies t) (params : t.params.setValues)
    (bare : s.bareLaw) (bare' : t.bareLaw) (h : s.qualifierLaws)
    (condition : ∀ n k, (kinds n).get k = false → (t.conditionOf n k ↔ s.conditionOf n k)) (tick : Bool) :
    (t.evaluate tick kinds).qualifierLaws :=
  State.mayEvaluate.evaluate ⟨params, bare', g.heldLaws h.held, fun n k unsettled =>
    g.follows bare bare' (condition n k) unsettled (h.follow n k)⟩ tick

/-- The qualifiers stay, and so do their conditions. -/
theorem State.qualifierLaws.of_same (h : s.qualifierLaws) (monitors : t.monitors = s.monitors)
    (bound : ∀ n, t.bound n = s.bound n) (sitting : t.sitting ≠ .sitting → s.sitting ≠ .sitting)
    (condition : ∀ n k, t.conditionOf n k ↔ s.conditionOf n k) : t.qualifierLaws := by
  have monitor : ∀ n, t.monitor n = s.monitor n := fun n => by rw [State.monitor, monitors, State.monitor]
  refine ⟨h.held.of_same monitors bound sitting, fun n k => ?_⟩
  rw [monitor, State.follows, condition]
  exact h.follow n k

/-! ## Restarts -/

theorem SeatMonitor.not_shows_quiet (p : Params) (k : Kind) : ¬(SeatMonitor.quiet p).shows k := by
  cases k <;> simp [SeatMonitor.shows, SeatMonitor.quiet]

/-- A restart, of seats some of whose conditions have changed, brings the qualifiers to follow them (R74). -/
theorem State.qualifierLaws_restartMonitors {who : Seat → Bool} (params : t.params.setValues) (bare : t.bareLaw)
    (h : s.qualifierLaws) (monitors : t.monitors = s.monitors) (sitting : t.sitting = s.sitting)
    (others : ∀ n, who n = false → t.bound n = s.bound n ∧ ∀ k, t.conditionOf n k ↔ s.conditionOf n k) :
    (t.restartMonitors who).qualifierLaws := by
  have monitor : ∀ n, t.monitor n = s.monitor n := fun n => by rw [State.monitor, monitors, State.monitor]
  have frame : t.onlyMonitorAndList (t.quieted who) := State.onlyMonitorAndList_mapMonitors ..
  have bare' : (t.quieted who).bareLaw := (State.bareLaw_of_frame frame).2 bare
  have params' : (t.quieted who).params.setValues := by rwa [State.onlyMonitorAndList_params frame]
  have held : (t.quieted who).heldLaws := by
    refine ⟨State.monitorLaw_quieted params (fun n => monitor n ▸ h.held.monitors n) who, fun n off => ?_,
      fun n off k => ?_⟩
    all_goals rw [State.monitor_quieted]; split
    · rfl
    · next other =>
      rw [State.onlyMonitorAndList_sitting frame, State.onlyMonitorAndList_bound frame,
        (others n (by simpa using other)).1, sitting] at off
      rw [monitor, h.held.opened n off]
    · exact SeatMonitor.state_quiet ..
    · next other =>
      rw [State.onlyMonitorAndList_bound frame, (others n (by simpa using other)).1] at off
      rw [monitor, h.held.quiet n off k]
  have ready : (t.quieted who).mayEvaluate (restartedKinds who) := by
    refine ⟨params', bare', held, fun n k unsettled => ?_⟩
    rw [State.monitor_quieted]
    by_cases picked : who n = true
    · rw [if_pos picked]
      refine iff_of_false (SeatMonitor.not_shows_quiet _ _) (State.not_conditionOf bare' ?_ unsettled)
      rw [restartedKinds, if_pos picked]
      cases k <;> rfl
    · rw [if_neg picked, State.follows, State.onlyMonitorAndList_conditionOf frame,
        (others n (by simpa using picked)).2, monitor]
      exact h.follow n k
  rw [State.restartMonitors_eq]
  exact (State.listWork_applyOutcomes ..).qualifierLaws
    ((State.bareLaw_of_frame (State.evaluateAll_frame false)).2 bare') (ready.all false)

end

end Sys2Proof.Machine
end

section
/-! The qualifiers' laws through the moves (R58, R60, R62, R65 to R74). -/

namespace Sys2Proof.Machine

section
variable {s t : State}

/-! ## Conditions that stay -/

/-- A seat record whose changed fields feed a kind no more leaves its condition (R4). -/
theorem State.conditionOf_of_unchanged {n : Seat} {k : Kind} (sitting : t.sitting = s.sitting)
    (floor : t.onFloor n = s.onFloor n) (h : (changedKinds (s.seat n) (t.seat n)).get k = false) :
    t.conditionOf n k ↔ s.conditionOf n k := by
  cases k <;> simp only [changedKinds, PerKind.get, Bool.or_eq_false_iff, bne_eq_false_iff_eq] at h
  case battery =>
    obtain ⟨⟨-, signal⟩, -⟩ := h
    simp only [State.conditionOf, sitting, signal]
  case mutedSpeech =>
    obtain ⟨⟨-, mute⟩, voice⟩ := h
    simp only [State.conditionOf, State.mutedSpeechHolds, sitting, floor, mute, voice]
  case openNoFloor =>
    obtain ⟨-, mute⟩ := h
    simp only [State.conditionOf, State.openNoFloorHolds, sitting, floor, mute]
  case signalLost =>
    obtain ⟨-, signal⟩ := h
    simp only [State.conditionOf, sitting, signal]
  all_goals exact Iff.rfl

theorem State.not_conditionOf_setup (setup : s.sitting = .setup) (n : Seat) (k : Kind) : ¬s.conditionOf n k := by
  cases k <;> simp [State.conditionOf, setup]

theorem State.bareLaw.not_conditionOf (bare : s.bareLaw) {n : Seat} (off : s.bound n = false) (k : Kind) :
    ¬s.conditionOf n k :=
  State.not_conditionOf (kinds := everySeat .every) bare (by cases k <;> rfl) (by
    simp [State.settles, State.judges, State.evaluates, off])

/-- Off the floor kinds a condition does not read the floor. -/
theorem State.conditionOf_of_not_floor {n : Seat} {k : Kind} (sitting : t.sitting = s.sitting)
    (seat : t.seat n = s.seat n) (h : floorKinds.get k = false) : t.conditionOf n k ↔ s.conditionOf n k := by
  cases k
  case mutedSpeech => cases h
  case openNoFloor => cases h
  all_goals simp only [State.conditionOf, sitting, seat]

/-! ## Changes of seat records -/

/-- Seat records that change are handed over with the kinds they feed (R4). -/
theorem State.qualifierLaws.change (h : s.qualifierLaws) {kinds : Seat → PerKind Bool} (params : t.params.setValues)
    (bare : s.bareLaw) (bare' : t.bareLaw) (monitors : t.monitors = s.monitors) (sitting : t.sitting = s.sitting)
    (floor : t.floor = s.floor) (pack : ∀ n, (t.seat n).pack = (s.seat n).pack)
    (handed : ∀ n k, (kinds n).get k = false → t.seat n = s.seat n
      ∨ (changedKinds (s.seat n) (t.seat n)).get k = false) (tick : Bool) : (t.evaluate tick kinds).qualifierLaws := by
  have onFloor : ∀ n, t.onFloor n = s.onFloor n := fun n => by rw [State.onFloor, floor, State.onFloor]
  have g : s.readies t := ⟨monitors, fun n => by rw [State.bound, pack, State.bound], (sitting ▸ ·), (sitting ▸ ·)⟩
  refine g.evaluate params bare bare' h (fun n k off => ?_) tick
  rcases handed n k off with same | unchanged
  · exact State.conditionOf_congr sitting same (onFloor n) k
  · exact State.conditionOf_of_unchanged sitting (onFloor n) unchanged

theorem State.bareLaw_evaluate {tick : Bool} {kinds : Seat → PerKind Bool} :
    (s.evaluate tick kinds).bareLaw ↔ s.bareLaw := State.bareLaw_of_frame (s.onlyMonitorAndList_evaluate ..)

theorem State.qualifierLaws.changeSeats (h : s.qualifierLaws) (params : s.params.setValues) (bare : s.bareLaw)
    {f : Seat → SeatRecord → SeatRecord} (bare' : (s.changeSeats f).bareLaw)
    (pack : ∀ n r, (f n r).pack = r.pack) : (s.changeSeats f).qualifierLaws := by
  rw [State.changeSeats, State.bareLaw_evaluate] at bare'
  refine h.change (by rwa [State.mapSeats_params]) bare bare' (State.mapSeats_monitors ..) (State.mapSeats_sitting ..)
    (State.mapSeats_floor ..) (fun n => by rw [State.seat_mapSeats, pack]) (fun n k off => .inr ?_) false
  rw [State.seat_mapSeats]
  exact off

theorem State.qualifierLaws.changeSeat (h : s.qualifierLaws) (params : s.params.setValues) (bare : s.bareLaw)
    {n : Seat} {r : SeatRecord} (bare' : (s.changeSeat n r).bareLaw) (pack : r.pack = (s.seat n).pack) :
    (s.changeSeat n r).qualifierLaws := by
  rw [State.changeSeat, State.bareLaw_evaluate] at bare'
  refine h.change (t := s.putSeat n r) params bare bare' rfl rfl rfl (fun m => ?_) (fun m k off => ?_) false
  · rw [State.seat_putSeat]
    split
    · next here => rw [pack, here]
    · rfl
  · rw [State.seat_putSeat]
    rw [oneSeat] at off
    split
    · next here =>
      rw [if_pos here] at off
      exact .inr (here ▸ off)
    · exact .inl rfl

theorem State.qualifierLaws.minuteSeats (h : s.qualifierLaws) (params : s.params.setValues) (bare : s.bareLaw)
    {who : Seat → Bool} (bare' : (s.minuteSeats who).bareLaw) : (s.minuteSeats who).qualifierLaws := by
  simp only [State.minuteSeats, State.bareLaw_evaluate] at bare' ⊢
  refine h.change (by rwa [State.mapSeats_params]) bare bare' (State.mapSeats_monitors ..) (State.mapSeats_sitting ..)
    (State.mapSeats_floor ..) (fun n => ?_) (fun n k off => ?_) false
  · rw [State.seat_mapSeats]
    split
    · exact SeatRecord.pack_ageMinute ..
    · rfl
  · rw [State.seat_mapSeats]
    split at off
    · next picked =>
      rw [PerKind.get_union, Bool.or_eq_false_iff] at off
      rw [if_pos picked]
      exact .inr off.1
    · next other => exact .inl (if_neg other)

/-- Seat records change in fields that no condition reads. -/
theorem State.qualifierLaws.ofSeats (h : s.qualifierLaws) (monitors : t.monitors = s.monitors)
    (sitting : t.sitting = s.sitting) (floor : t.floor = s.floor)
    (seat : ∀ n, (t.seat n).pack = (s.seat n).pack ∧ (t.seat n).signal = (s.seat n).signal
      ∧ (t.seat n).mute = (s.seat n).mute ∧ (t.seat n).voice = (s.seat n).voice) : t.qualifierLaws := by
  have onFloor : ∀ n, t.onFloor n = s.onFloor n := fun n => by rw [State.onFloor, floor, State.onFloor]
  refine h.of_same monitors (fun n => by rw [State.bound, (seat n).1, State.bound]) (fun off => sitting ▸ off)
    fun n k => ?_
  obtain ⟨-, signal, mute, voice⟩ := seat n
  cases k <;> simp only [State.conditionOf, State.mutedSpeechHolds, State.openNoFloorHolds, sitting, onFloor, signal,
    mute, voice]

theorem State.qualifierLaws.mapSeats (h : s.qualifierLaws) {f : Seat → SeatRecord → SeatRecord}
    (hf : ∀ n r, (f n r).pack = r.pack ∧ (f n r).signal = r.signal ∧ (f n r).mute = r.mute
      ∧ (f n r).voice = r.voice) : (s.mapSeats f).qualifierLaws :=
  h.ofSeats (State.mapSeats_monitors ..) (State.mapSeats_sitting ..) (State.mapSeats_floor ..) fun n => by
    rw [State.seat_mapSeats]
    exact hf n _

theorem State.qualifierLaws.of_eq (h : s.qualifierLaws) (monitors : t.monitors = s.monitors)
    (sitting : t.sitting = s.sitting) (floor : t.floor = s.floor) (seats : t.seats = s.seats) : t.qualifierLaws :=
  h.ofSeats monitors sitting floor fun n => by simp only [State.seat, seats, and_self]

/-! ## The floor -/

/-- Seats leave the floor or join it, and the two floor kinds of each are judged (R73). -/
theorem State.qualifierLaws.moveFloor (h : s.qualifierLaws) {kinds : Seat → PerKind Bool} (params : t.params.setValues)
    (bare : s.bareLaw) (bare' : t.bareLaw) (monitors : t.monitors = s.monitors) (sitting : t.sitting = s.sitting)
    (seats : t.seats = s.seats)
    (judged : ∀ n, kinds n = floorKinds ∨ t.onFloor n = s.onFloor n) (tick : Bool) :
    (t.evaluate tick kinds).qualifierLaws := by
  have seat : ∀ n, t.seat n = s.seat n := fun n => by rw [State.seat, seats, State.seat]
  have g : s.readies t := ⟨monitors, fun n => by rw [State.bound, seat, State.bound], (sitting ▸ ·), (sitting ▸ ·)⟩
  refine g.evaluate params bare bare' h (fun n k off => ?_) tick
  rcases judged n with floor | same
  · exact State.conditionOf_of_not_floor sitting (seat n) (floor ▸ off)
  · exact State.conditionOf_congr sitting (seat n) same k

theorem State.qualifierLaws.withdrawn (h : s.qualifierLaws) {who : Seat → Bool} (params : t.params.setValues)
    (bare : s.bareLaw) (bare' : t.bareLaw) (monitors : t.monitors = s.monitors) (sitting : t.sitting = s.sitting)
    (seats : t.seats = s.seats) (floor : ∀ n, who n = false → t.onFloor n = s.onFloor n) :
    (t.withdrawn who).qualifierLaws := by
  refine h.moveFloor params bare bare' monitors sitting seats (fun n => ?_) false
  split
  · exact .inl rfl
  · next other => exact .inr (floor n (by simpa using other))

theorem State.onFloor_joinFloor {n m : Seat} (h : m ≠ n) : (s.joinFloor n).onFloor m = s.onFloor m := by
  simp [State.onFloor, State.joinFloor, Ne.symm h]

theorem State.onFloor_filter {m : Seat} {p : FloorEntry → Bool} (keeps : ∀ e, e.seat = m → p e = true)
    (floor : t.floor = s.floor.filter p) : t.onFloor m = s.onFloor m := by
  simp only [State.onFloor, floor, List.any_filter]
  congr 1
  funext e
  by_cases here : e.seat = m
  · simp [here, keeps e here]
  · simp [here]

theorem State.onFloor_leaveFloor {n m : Seat} (h : m ≠ n) : (s.leaveFloor n).onFloor m = s.onFloor m :=
  State.onFloor_filter (fun e here => by simp [here, h]) rfl

/-- A grant settles the floor kinds of the seat that has joined (R68, R73). -/
theorem State.qualifierLaws_granted {n : Seat} (sitting : s.sitting = .sitting) (bound : s.bound n = true)
    (params : s.params.setValues) (bare : s.bareLaw) (held : s.heldLaws)
    (follow : ∀ m k, m ≠ n ∨ floorKinds.get k = false → s.follows m (s.monitor m) k) : (s.granted n).qualifierLaws := by
  let zero : State := s.putMonitor n { s.monitor n with openPv := 0 }
  have monitor : ∀ m, zero.monitor m = s.monitor m ∨ zero.monitor m = { s.monitor m with openPv := 0 } := fun m => by
    rw [State.monitor_putMonitor]
    split
    · next here => exact .inr (by rw [here])
    · exact .inl rfl
  have held' : zero.heldLaws := by
    refine ⟨fun m => ?_, fun m off => ?_, fun m off k => ?_⟩ <;> rcases monitor m with same | reset
    · exact same ▸ held.monitors m
    · obtain ⟨battery, muted, weak, -, rest⟩ := held.monitors m
      rw [reset]
      exact ⟨battery, muted, weak, Nat.zero_le _, rest⟩
    · rw [same]
      exact held.opened m off
    · rw [reset]
    · rw [same]
      exact held.quiet m off k
    · rw [reset]
      exact held.quiet m off k
  refine State.mayEvaluate.evaluate (s := zero) ⟨params, bare, held', fun m k unsettled => ?_⟩ false
  have before : s.follows m (s.monitor m) k := by
    refine follow m k (or_iff_not_imp_left.2 fun here => ?_)
    obtain rfl := not_not.1 here
    have sitting' : zero.sitting = .sitting := sitting
    have bound' : zero.bound m = true := bound
    simpa [State.settles, State.judges, State.evaluates, sitting', bound', oneSeat] using unsettled
  rcases monitor m with same | reset
  · rw [same]
    exact before
  · rw [reset]
    exact (State.follows_of_state (s := s) rfl (by cases k <;> rfl)).1 before

theorem State.qualifierLaws.granted (h : s.qualifierLaws) {n : Seat} (params : s.params.setValues) (bare : s.bareLaw)
    (sitting : s.sitting = .sitting) (bound : s.bound n = true) : ((s.joinFloor n).granted n).qualifierLaws := by
  have held : (s.joinFloor n).heldLaws := h.held.of_same rfl (fun _ => rfl) id
  refine State.qualifierLaws_granted (s := s.joinFloor n) sitting bound params bare held fun m k off => ?_
  have same : (s.joinFloor n).conditionOf m k ↔ s.conditionOf m k := by
    rcases off with other | notFloor
    · exact State.conditionOf_congr (s := s) (t := s.joinFloor n) rfl rfl (State.onFloor_joinFloor other) k
    · exact State.conditionOf_of_not_floor (s := s) rfl rfl notFloor
  exact (h.follow m k).trans same.symm

theorem State.qualifierLaws.replaced (h : s.qualifierLaws) {oldest : FloorEntry} {rest : List FloorEntry} {n : Seat}
    (params : s.params.setValues) (bare : s.bareLaw) (sitting : s.sitting = .sitting) (bound : s.bound n = true)
    (floor : s.floor = oldest :: rest) : ((({ s with floor := rest }).joinFloor n).replaced oldest.seat n).qualifierLaws := by
  let moved : State := ({ s with floor := rest }).joinFloor n
  have g : s.readies moved := ⟨rfl, fun _ => rfl, id, id⟩
  have frame : moved.onlyMonitorAndList (moved.withdrawn (· == oldest.seat)) := State.onlyMonitorAndList_withdrawn ..
  have onFloor : ∀ m, m ≠ n → m ≠ oldest.seat → moved.onFloor m = s.onFloor m := fun m other left =>
    (State.onFloor_joinFloor other).trans (by simp [State.onFloor, floor, Ne.symm left])
  refine State.qualifierLaws_granted ?_ ?_ ?_ ((State.bareLaw_of_frame frame).2 bare)
    ((g.heldLaws h.held).evaluate false params bare) fun m k off => State.follows_evaluate false fun unsettled => ?_
  · rw [State.onlyMonitorAndList_sitting frame]
    exact sitting
  · rw [State.onlyMonitorAndList_bound frame]
    exact bound
  · rw [State.onlyMonitorAndList_params frame]
    exact params
  · refine g.follows bare bare (fun unasked => ?_) unsettled (h.follow m k)
    by_cases notFloor : floorKinds.get k = false
    · exact State.conditionOf_of_not_floor (s := s) rfl rfl notFloor
    · have other : m ≠ n := off.resolve_right notFloor
      have left : m ≠ oldest.seat := fun here => notFloor (by simpa [here] using unasked)
      exact State.conditionOf_congr (s := s) (t := moved) rfl rfl (onFloor m other left) k

end

end Sys2Proof.Machine
end

section
/-! The qualifiers' laws through every move. -/

namespace Sys2Proof.Machine

section
variable {s t : State}

/-! ## Operations that are no evaluation -/

theorem State.qualifierLaws_of_quiet (params : t.params.setValues) (monitor : ∀ n, t.monitor n = .quiet t.params)
    (condition : ∀ n k, ¬t.conditionOf n k) : t.qualifierLaws := by
  refine ⟨⟨fun n => ?_, fun n _ => ?_, fun n _ k => ?_⟩, fun n k => ?_⟩ <;> rw [monitor]
  · exact SeatMonitor.lawful_quiet params
  · rfl
  · exact SeatMonitor.state_quiet ..
  · exact iff_of_false (SeatMonitor.not_shows_quiet _ _) (condition n k)

theorem SeatMonitor.lawful_endWindow {m : SeatMonitor} (h : m.lawful) : m.endWindow.lawful := by
  obtain ⟨battery, muted, weak, opened, grade, shortfall, dropouts, lost⟩ := h
  simp only [SeatMonitor.endWindow]
  split
  · exact ⟨battery, muted, weak, opened, grade, shortfall, by simp, lost⟩
  · exact ⟨battery, muted, weak, opened, grade, shortfall, dropouts, lost⟩

theorem SeatMonitor.shows_endWindow (m : SeatMonitor) (k : Kind) : m.endWindow.shows k ↔ m.shows k := by
  simp only [SeatMonitor.endWindow]
  split <;> cases k <;> exact Iff.rfl

theorem State.qualifierLaws.endDropoutWindow (h : s.qualifierLaws) (bare : s.bareLaw) :
    s.endDropoutWindow.qualifierLaws := by
  have seat : ∀ n, s.windowSettled.seat n = { s.seat n with dropouts := 0 } := fun n => by
    have read : s.windowSettled.seat n = ((s.mapMonitors fun _ m => m.endWindow).mapSeats fun _ r =>
        { r with dropouts := 0 }).seat n := by simp only [State.windowSettled, State.seat]
    rw [read, State.seat_mapSeats, State.seat_mapMonitors]
  have sitting : s.windowSettled.sitting = s.sitting := by
    simp only [State.windowSettled, State.mapSeats_sitting, State.mapMonitors_sitting]
  have floor : s.windowSettled.floor = s.floor := by
    simp only [State.windowSettled, State.mapSeats_floor, State.mapMonitors_floor]
  have condition : ∀ n k, s.windowSettled.conditionOf n k ↔ s.conditionOf n k := fun n k => by
    cases k <;> simp only [State.conditionOf, State.mutedSpeechHolds, State.openNoFloorHolds, State.onFloor, sitting,
      floor, seat]
  have bound : ∀ n, s.windowSettled.bound n = s.bound n := fun n => by rw [State.bound, seat, State.bound]
  have settled : s.windowSettled.qualifierLaws := by
    refine ⟨⟨fun n => ?_, fun n off => ?_, fun n off k => ?_⟩, fun n k => ?_⟩ <;> rw [State.monitor_windowSettled]
    · exact SeatMonitor.lawful_endWindow (h.held.monitors n)
    · rw [sitting, bound] at off
      have same : (s.monitor n).endWindow.openPv = (s.monitor n).openPv := by
        simp only [SeatMonitor.endWindow]
        split <;> rfl
      rw [same, h.held.opened n off]
    · rw [bound] at off
      rw [SeatMonitor.state_endWindow, h.held.quiet n off k, ite_self]
    · rw [State.follows, SeatMonitor.shows_endWindow, condition]
      exact h.follow n k
  have bare' : s.windowSettled.bareLaw := fun n => by
    rw [seat]
    exact bare n
  rw [State.endDropoutWindow_eq]
  exact (State.listWork_applyOutcomes ..).qualifierLaws bare' settled

/-- A changed set value reaches the held present values and nothing else (R60). -/
theorem State.qualifierLaws.takeSetValues (h : s.qualifierLaws) (params : s.params.setValues) :
    s.takeSetValues.qualifierLaws := by
  have value : ∀ {c : Bool} {v pv : Nat} {q : QState}, v ≤ 255 → pv ≤ 255 → heldValue c v q pv ≤ 255 := fun hv hp => by
    simp only [heldValue]
    split
    · exact hv
    · exact hp
  have seat : ∀ n, s.takeSetValues.seat n = s.seat n := fun n => by
    simp only [State.seat, State.takeSetValues_seats]
  have onFloor : ∀ n, s.takeSetValues.onFloor n = s.onFloor n := fun n => by
    simp only [State.onFloor, State.takeSetValues_floor]
  refine ⟨⟨fun n => ?_, fun n off => ?_, fun n off k => ?_⟩, fun n k => ?_⟩ <;> rw [State.monitor_takeSetValues]
  · obtain ⟨battery, muted, weak, rest⟩ := h.held.monitors n
    exact ⟨value params.battery battery, value params.muted muted, value params.weak weak, rest⟩
  · rw [State.bound, seat, State.takeSetValues_sitting] at off
    exact h.held.opened n off
  · rw [State.bound, seat] at off
    exact h.held.quiet n off k
  · have same : ((s.monitor n).takeSetValues s.params s.setChanged).shows k ↔ (s.monitor n).shows k :=
      SeatMonitor.shows_of_state rfl (by cases k <;> rfl)
    rw [State.follows, same, State.conditionOf_congr s.takeSetValues_sitting (seat n) (onFloor n)]
    exact h.follow n k

/-- RECESS quiets the floor kinds of every bound seat (R71). -/
theorem State.qualifierLaws.recessed (h : s.qualifierLaws) (params : s.params.setValues) (bare : s.bareLaw)
    (sitting : s.sitting = .sitting) : (State.recessMonitors { s with sitting := .recess, floor := [] }).qualifierLaws := by
  let u : State := { s with sitting := .recess, floor := [] }
  let v : State := u.mapMonitors fun n m => if u.bound n then m.enterRecess u.params else m
  have frame : u.onlyMonitorAndList v := State.onlyMonitorAndList_mapMonitors ..
  have monitor : ∀ n, v.monitor n = if s.bound n then (s.monitor n).enterRecess s.params else s.monitor n := fun n =>
    State.monitor_mapMonitors ..
  have quiet : ∀ n k, floorKinds.get k = true → (v.monitor n).state.get k = .quiet := fun n k floor => by
    rw [monitor]
    split
    · cases k <;> first | rfl | cases floor
    · next off => exact h.held.quiet n (by simpa using off) k
  have entered : v.qualifierLaws := by
    refine ⟨⟨fun n => ?_, fun n off => ?_, fun n off k => ?_⟩, fun n k => ?_⟩
    · rw [monitor]
      split
      · obtain ⟨battery, -, weak, -, rest⟩ := h.held.monitors n
        exact ⟨battery, params.muted, weak, Nat.zero_le _, rest⟩
      · exact h.held.monitors n
    · rw [monitor]
      split
      · rfl
      · next off => exact h.held.opened n (.inr (by simpa using off))
    · have off : s.bound n = false := off
      rw [monitor, off]
      exact h.held.quiet n off k
    · rw [State.follows, State.onlyMonitorAndList_conditionOf frame]
      by_cases floor : floorKinds.get k = true
      · have off := quiet n k floor
        cases k <;> first
          | exact iff_of_false (fun shows => shows off) (fun holds => by cases holds.1)
          | cases floor
      · have same : (v.monitor n).shows k ↔ (s.monitor n).shows k := by
          rw [monitor]
          split
          · cases k <;> first | exact Iff.rfl | exact absurd rfl floor
          · exact Iff.rfl
        rw [same]
        refine (h.follow n k).trans ?_
        cases k <;> first
          | exact absurd rfl floor
          | exact Iff.rfl
          | exact and_congr_left fun _ => iff_of_true (by simp [sitting]) (by simp [u])
  exact (State.listWork_applyOutcomes ..).qualifierLaws ((State.bareLaw_of_frame frame).2 bare) entered

/-- START SITTING judges every kind of every bound seat (R70). -/
theorem State.qualifierLaws.started (h : s.qualifierLaws) (params : s.params.setValues) (bare : s.bareLaw)
    (setup : s.sitting = .setup) (length : Nat) : (s.startSitting length).qualifierLaws := by
  let u : State := { s with sitting := .sitting, clock := 0, scheduled := length }
  let v : State := u.mapMonitors fun n m => if u.bound n then u.startMonitor n m else m
  have frame : u.onlyMonitorAndList v := State.onlyMonitorAndList_mapMonitors ..
  have monitor : ∀ n, v.monitor n = if s.bound n then u.startMonitor n (s.monitor n) else s.monitor n := fun n =>
    State.monitor_mapMonitors ..
  have idle : ∀ n, (s.monitor n).openPv = 0 := fun n => h.held.opened n (.inl (by simp [setup]))
  have bare' : v.bareLaw := (State.bareLaw_of_frame frame).2 bare
  refine State.mayEvaluate.evaluate (s := v) ⟨params, bare', ⟨fun n => ?_, fun n off => ?_, fun n off k => ?_⟩,
    fun n k unsettled => ?_⟩ false
  · rw [monitor]
    split
    · obtain ⟨-, -, -, opened, rest⟩ := h.held.monitors n
      exact ⟨params.battery, params.muted, params.weak, opened, rest⟩
    · exact h.held.monitors n
  · rw [monitor]
    split <;> exact idle n
  · have off : s.bound n = false := off
    rw [monitor, off]
    exact h.held.quiet n off k
  · have off : s.bound n = false := by
      have bound : v.bound n = s.bound n := rfl
      have sitting : v.sitting = .sitting := rfl
      simpa [State.settles, State.judges, State.evaluates, bound, sitting, everySeat] using unsettled
    rw [monitor, off]
    exact iff_of_false (fun shows => State.not_conditionOf_setup setup n k ((h.follow n k).1 shows))
      (bare'.not_conditionOf off k)

/-! ## Parameters and images -/

theorem State.qualifierLaws.takeEffect (h : s.qualifierLaws) (params : s.params.setValues) (bare : s.bareLaw)
    (number : Nat) : (s.takeEffect number).qualifierLaws := by
  simp only [State.takeEffect]
  split
  · exact h.mapSeats fun _ _ => ⟨rfl, rfl, rfl, rfl⟩
  · exact h.of_eq rfl rfl rfl rfl
  · exact h.of_eq rfl rfl rfl rfl
  · exact h.of_eq rfl rfl rfl rfl
  · exact h.of_eq rfl rfl rfl rfl
  · split
    · refine h.withdrawn (t := { s with floor := s.floor.drop (s.floor.length - s.params.floorLimit) }) params bare bare
        rfl rfl rfl fun n stays => ?_
      have split := List.take_append_drop (s.floor.length - s.params.floorLimit) s.floor
      simp only [State.onFloor]
      conv_rhs => rw [← split, List.any_append, stays, Bool.false_or]
    · exact h
  · exact h

theorem State.qualifierLaws.writeParameter (h : s.qualifierLaws) (bare : s.bareLaw) {number v : Nat}
    (params : (s.params.write number v).setValues) : (s.writeParameter number v).qualifierLaws :=
  State.qualifierLaws.takeEffect (s := { s with
    params := s.params.write number v, setChanged := s.setChanged.after s.params (s.params.write number v) })
    (h.of_eq rfl rfl rfl rfl) params bare number

theorem State.bareLaw_writeParameter (h : s.bareLaw) (number v : Nat) : (s.writeParameter number v).bareLaw := by
  intro n
  rw [State.seat_writeParameter]
  split <;> exact h n

theorem SeatRecord.bare_rebind (pack : Option PackId) (group : Nat) (r : SeatRecord) : (r.rebind pack group).bare := by
  intro _
  cases pack <;> exact ⟨rfl, by simp [SeatRecord.rebind, SeatRecord.release, SeatRecord.restart]⟩

/-- What is kept while an image's parameters are written. -/
structure State.writesOn (s : State) : Prop where
  params : s.clockLaws
  bare : s.bareLaw
  laws : s.qualifierLaws

theorem State.writesOn.writeParameter (h : s.writesOn) {number : Nat} (range : 1 ≤ number ∧ number ≤ 21) (v : Nat) :
    (s.writeParameter number v).writesOn :=
  ⟨State.clockLaws_writeParameter h.params range v, State.bareLaw_writeParameter h.bare number v,
    h.laws.writeParameter h.bare (Params.write_lawful h.params.1 range v).setValues⟩

theorem State.qualifierLaws.applyImage (h : s.qualifierLaws) (clock : s.clockLaws) (bare : s.bareLaw) (img : List Byte) :
    (s.applyImage img).qualifierLaws := by
  have written : (s.applyParameters img).writesOn :=
    State.applyParameters_law img (fun _ _ v range hu => hu.writeParameter range v) ⟨clock, bare, h⟩
  have bound : (s.imageBound img).qualifierLaws := by
    rw [State.imageBound]
    generalize s.applyParameters img = u at written
    let w : State := { u with curve := imageCurve img }
    have tables : ∀ n, (w.imageTables img).seat n = (u.seat n).rebind (imagePack img n) (imageGroup img n) := fun n =>
      State.seat_imageTables ..
    have bare' : (w.imageTables img).bareLaw := fun n => by
      rw [tables]
      exact SeatRecord.bare_rebind _ _ _
    have params : (w.imageTables img).params.setValues :=
      State.imageTables_law (P := fun x => x.params.setValues) img (fun _ _ _ hx => hx) written.params.1.setValues
    refine State.qualifierLaws_restartMonitors (t := w.imageTables img) params bare' written.laws ?_ ?_ fun n other => ?_
    · exact State.imageTables_law (P := fun x => x.monitors = u.monitors) img (fun _ _ _ hx => hx) rfl
    · exact State.imageTables_law (P := fun x => x.sitting = u.sitting) img (fun _ _ _ hx => hx) rfl
    · obtain ⟨before, after⟩ := Bool.or_eq_false_iff.1 other
      have off : (w.imageTables img).bound n = false := by
        rw [State.bound, tables, SeatRecord.rebind_pack]
        exact after
      have off' : u.bound n = false := before
      exact ⟨off.trans off'.symm, fun k => iff_of_false (bare'.not_conditionOf off k) (written.bare.not_conditionOf off' k)⟩
  rw [State.applyImage_eq]
  generalize s.imageBound img = w at bound
  exact bound.of_eq rfl rfl rfl rfl

end

end Sys2Proof.Machine
end

section
/-! The qualifiers' laws through the moves, and seats without a pack (R58, R86). -/

namespace Sys2Proof.Machine

section
variable {s t : State}

theorem State.onFloor_bindTables {n m : Seat} {pack : PackId} {from? : Option Seat} (h : from? ≠ some m) :
    (s.bindTables n pack from?).onFloor m = s.onFloor m :=
  State.onFloor_filter (fun e here => by simpa [here] using h) (s.floor_bindTables n pack from?)

theorem State.qualifierLaws_requested (g : s.Requested t) (params : s.params.setValues) (params' : t.params.setValues)
    (bare : s.bareLaw) (bare' : t.bareLaw) (h : s.qualifierLaws) : t.qualifierLaws := by
  cases g with
  | apart core intake links profile lines =>
    rw [core]
    exact h.of_eq rfl rfl rfl rfl
  | bound n pack valid new =>
    have frame := s.bindSeat_frame n pack (s.seatOfPack pack)
    have eq := s.bindTables_eq n pack (s.seatOfPack pack)
    rw [State.onlyMonitorAndList_params frame] at params'
    refine State.qualifierLaws_restartMonitors (t := s.bindTables n pack (s.seatOfPack pack)) params'
      ((State.bareLaw_of_frame frame).1 bare') h (by rw [eq]) (by rw [eq]) fun m other => ?_
    obtain ⟨here, source⟩ := Bool.or_eq_false_iff.1 other
    have away : s.seatOfPack pack ≠ some m := by simpa using source
    have seat : (s.bindTables n pack (s.seatOfPack pack)).seat m = s.seat m := by
      rw [State.seat_bindTables _ _ new, if_neg (by simpa using here), if_neg away]
    exact ⟨by rw [State.bound, seat, State.bound],
      fun k => State.conditionOf_congr (by rw [eq]) seat (State.onFloor_bindTables away) k⟩
  | released n =>
    have frame := s.releaseSeat_frame n
    refine State.qualifierLaws_restartMonitors (t := s.releaseTables n) params ((State.bareLaw_of_frame frame).1 bare')
      h rfl rfl fun m other => ?_
    have away : m ≠ n := by simpa using other
    have seat : (s.releaseTables n).seat m = s.seat m := by rw [State.seat_releaseTables, if_neg away]
    exact ⟨by rw [State.bound, seat, State.bound],
      fun k => State.conditionOf_congr (s := s) (t := s.releaseTables n) rfl seat (State.onFloor_leaveFloor away) k⟩
  | grouped f group =>
    refine h.mapSeats fun n r => ?_
    rcases group n r with same | ⟨g, -, same⟩ <;> rw [same] <;> exact ⟨rfl, rfl, rfl, rfl⟩
  | restarted setup =>
    have frame := s.restartBound_frame
    rw [State.onlyMonitorAndList_params frame] at params'
    have same : s.restartTables.monitors = s.monitors ∧ s.restartTables.sitting = s.sitting
        ∧ s.restartTables.floor = s.floor :=
      State.restartTables_law (P := fun u => u.monitors = s.monitors ∧ u.sitting = s.sitting ∧ u.floor = s.floor)
        (fun _ _ _ _ hu => hu) ⟨rfl, rfl, rfl⟩
    obtain ⟨monitors, sitting, floor⟩ := same
    refine State.qualifierLaws_restartMonitors (t := s.restartTables) params' ((State.bareLaw_of_frame frame).1 bare') h
      monitors sitting fun m other => ?_
    have unbound : ¬(s.seat m).pack.isSome = true := by simpa [State.bound] using other
    have seat : s.restartTables.seat m = s.seat m := by rw [State.seat_restartTables, if_neg unbound]
    exact ⟨by rw [State.bound, seat, State.bound], fun k => State.conditionOf_congr sitting seat
      (by rw [State.onFloor, floor, State.onFloor]) k⟩
  | curved c valid setup =>
    exact State.qualifierLaws.mapSeats (s := { s with curve := c }) (h.of_eq rfl rfl rfl rfl) fun _ _ => ⟨rfl, rfl, rfl, rfl⟩
  | written number v range =>
    rw [State.onlyMonitorAndList_params (s.writeParameter_frame number v)] at params'
    exact h.writeParameter bare params'
  | seen x picked enabled => exact h.of_eq rfl rfl rfl rfl
  | acked x picked held enabled => exact (s.listWork_acknowledgeAll x picked).qualifierLaws bare h
  | started length range setup idle => exact h.started params bare setup length
  | scheduled length range =>
    exact State.readies.evaluate (s := s) (t := { s with scheduled := length }) ⟨rfl, fun _ => rfl, id, id⟩ params bare bare h
      (fun n k _ => State.conditionOf_congr (s := s) rfl rfl rfl k) false
  | recessed sitting => exact h.recessed params bare sitting
  | resumed recess =>
    refine State.readies.evaluate (s := s) (t := { s with sitting := .sitting })
      ⟨rfl, fun _ => rfl, (by cases ·), (absurd rfl ·)⟩ params bare bare h (fun n k off => ?_) false
    cases k
    case mutedSpeech => cases off
    case openNoFloor => cases off
    all_goals simp [State.conditionOf, recess, State.seat]
  | ended =>
    refine State.qualifierLaws_of_quiet params' (fun n => State.monitor_mapMonitors ..) fun n k => ?_
    exact State.not_conditionOf_setup (State.mapMonitors_sitting ..) n k
  | granted n sitting bound off room => exact h.granted params bare sitting bound
  | replaced n oldest rest sitting bound off floor => exact h.replaced params bare sitting bound floor
  | withdrawn n sitting =>
    refine h.withdrawn (t := s.leaveFloor n) params bare bare rfl rfl rfl fun m other => ?_
    exact State.onFloor_leaveFloor (by simpa using other)
  | cleared sitting =>
    exact h.withdrawn (t := { s with floor := [] }) params bare bare rfl rfl rfl fun m off => off.symm

/-- Every move keeps what the qualifiers hold. -/
theorem State.qualifierLaws_moves {whole : Prop} (g : State.Moves whole s t) (clock : s.clockLaws)
    (params' : t.params.setValues) (bare : s.bareLaw) (bare' : t.bareLaw) (h : s.qualifierLaws) : t.qualifierLaws := by
  have params := clock.1.setValues
  cases g with
  | requested g => exact State.qualifierLaws_requested g params params' bare bare' h
  | outside core intake links profile store enabled =>
    rw [core]
    exact h.of_eq rfl rfl rfl rfl
  | reset straps protect g =>
    refine State.qualifierLaws_of_quiet params' (fun n => ?_) fun n k => State.not_conditionOf_setup rfl n k
    rw [State.monitor_ofStraps]
    rfl
  | picked p rep rest fifo =>
    simp only [State.processReport] at bare' ⊢
    cases found : ({ s.putPort p { s.port p with fifo := rest } with lastServed := p } : State).seatOfPack rep.pack
    case none => exact h.of_eq rfl rfl rfl rfl
    case some m =>
      rw [found] at bare'
      exact State.qualifierLaws.changeSeat (s := { s.putPort p { s.port p with fifo := rest } with lastServed := p })
        (h.of_eq rfl rfl rfl rfl) params bare bare' (SeatRecord.pack_report ..)
  | tookValues => exact h.takeSetValues params
  | advanced who =>
    refine h.changeSeats params bare bare' fun n r => ?_
    split
    · exact SeatRecord.pack_advance ..
    · rfl
  | counted kinds =>
    exact State.readies.evaluate ⟨rfl, fun _ => rfl, id, id⟩ params bare bare h (fun _ _ _ => Iff.rfl) true
  | quarterPhase q range => exact h.of_eq rfl rfl rfl rfl
  | clock =>
    simp only [State.tickClock]
    split
    · exact h
    · exact h.of_eq rfl rfl rfl rfl
  | window =>
    simp only [State.tickWindow]
    split
    · exact h.endDropoutWindow bare
    · exact h.of_eq rfl rfl rfl rfl
  | timers =>
    simp only [State.tickTimers]
    split
    · exact h
    · exact h.of_eq rfl rfl rfl rfl
  | seconds => exact h.of_eq rfl rfl rfl rfl
  | escalated n k r record runs => exact h.of_eq rfl rfl rfl rfl
  | aged who => exact h.minuteSeats params bare bare'
  | unseen x => exact h.of_eq rfl rfl rfl rfl
  | loaded img formed loading => exact h.applyImage clock bare img

/-- A seat without a pack has no warning: its qualifiers are QUIET (R58, R86). -/
theorem State.unboundLaw_of_quiet (quiet : s.quietLaw) (qualified : s.qualifiedLaw) : s.unboundLaw := by
  intro n pack
  have off : s.bound n = false := by simp [State.bound, pack]
  have unwarned : ∀ k, ¬(s.isDue n k = true ∨ ∃ r ∈ s.records, r.isFor n k = true ∧ r.active = true) := fun k warned => by
    have held := (qualified n k (mem_allKinds k)).2 warned
    rw [quiet n off k] at held
    cases held
  refine ⟨fun r hr here => ?_, fun k _ => ⟨?_, quiet n off k⟩⟩
  · by_contra active
    exact unwarned r.kind (.inr ⟨r, hr, by simp [Record.isFor, here], by simpa using active⟩)
  · by_contra due
    exact unwarned k (.inl (by simpa using due))

theorem State.quietLaw_of_unbound (h : s.unboundLaw) : s.quietLaw := fun n off k =>
  ((h n (by simpa [State.bound] using off)).2 k (mem_allKinds k)).2

end

end Sys2Proof.Machine
end

section
/-! The records' fields through every operation of the Warning List (R81, R82, R84 to R87, R94 to R97, R105). -/

namespace Sys2Proof.Machine

/-! ## One record -/

/-- A record's fields in their ranges, at a clock and with the links that are enabled (R81, R82, R94, R105). -/
structure Record.lawful (clock : Nat) (enabled : LinkId → Bool) (r : Record) : Prop where
  raised : r.raisedAt ≤ r.changedAt
  changed : r.changedAt ≤ clock
  repeats : r.repeats ≤ 255
  escalations : r.escalations ≤ r.severity.code
  grade : r.grade.isSome = true ↔ r.kind = .battery
  critical : r.grade = some .critical → r.severity = .urgent
  roles : r.roles = .wide ∨ r.roles = initialRoles r.kind
  wide : r.escalations ≠ 0 → r.roles = .wide
  timer : ∀ t ∈ r.escalation, 1 ≤ t ∧ t ≤ 3600
  running : r.escalation ≠ none → r.state = .activeUnacked
  unseen : ∀ x, enabled x = false → r.seenBy.get x = false ∧ r.ackedBy.get x = false

/-- Which links are enabled. -/
def State.enabledLinks (s : State) (x : LinkId) : Bool := (s.link x).enabled

/-- All records lawful in a state. -/
abbrev State.recordsIn (s : State) (rs : List Record) : Prop := ∀ r ∈ rs, r.lawful s.clock s.enabledLinks

theorem State.recordLaw_iff (s : State) : s.recordLaw ↔ s.recordsIn s.records := by
  refine forall₂_congr fun r _ => ⟨fun h => ?_, fun h => ?_⟩
  · obtain ⟨raised, changed, repeats, escalations, grade, critical, roles, wide, timer, running, unseen⟩ := h
    exact ⟨raised, changed, repeats, escalations, grade, critical, roles, wide, timer, running,
      fun x => unseen x (mem_allLinks x)⟩
  · exact ⟨h.raised, h.changed, h.repeats, h.escalations, h.grade, h.critical, h.roles, h.wide, h.timer, h.running,
      fun x _ => h.unseen x⟩

/-- Every escalation time is at most an hour (R77). -/
def Params.escTimes (p : Params) : Prop := ∀ sev, p.escTime sev ≤ 3600

theorem Params.lawful.escTimes {p : Params} (h : p.lawful) : p.escTimes := by
  have advisory : p.escAdvisory ≤ 3600 := (h.1 17 (by decide)).2
  have caution : p.escCaution ≤ 3600 := (h.1 18 (by decide)).2
  have urgent : p.escUrgent ≤ 3600 := (h.1 19 (by decide)).2
  rintro (_ | _ | _)
  · exact advisory
  · exact caution
  · exact urgent

theorem Params.escTimes.escStart {p : Params} (h : p.escTimes) (sev : Severity) :
    ∀ t ∈ p.escStart sev, 1 ≤ t ∧ t ≤ 3600 := by
  intro t ht
  simp only [Params.escStart] at ht
  split at ht
  · cases ht
  · next on =>
    cases ht
    exact ⟨Nat.one_le_iff_ne_zero.2 on, h sev⟩

theorem Severity.code_le (sev : Severity) : sev.code ≤ Severity.urgent.code := by cases sev <;> decide

section
variable {p : Params} {clock : Nat} {enabled : LinkId → Bool} {r : Record}

theorem newRecord_lawful (times : p.escTimes) (n : Seat) {k : Kind} {grade : Option Grade}
    (graded : grade.isSome = true ↔ k = .battery) (detail : Option Nat) :
    (newRecord p clock n k grade detail).lawful clock enabled where
  raised := le_rfl
  changed := le_rfl
  repeats := Nat.zero_le _
  escalations := Nat.zero_le _
  grade := graded
  critical := fun h => by
    have critical : grade = some .critical := h
    obtain rfl := graded.1 (by simp [critical])
    simp [newRecord, initialSeverity, critical]
  roles := .inr rfl
  wide := fun h => absurd rfl h
  timer := times.escStart _
  running := fun _ => rfl
  unseen := fun x _ => by cases x <;> exact ⟨rfl, rfl⟩

/-- A link that is enabled joins a set of links. -/
theorem PerLink.get_set_of_enabled {x : LinkId} (on : enabled x = true) {seen : PerLink Bool} {y : LinkId}
    (off : enabled y = false) (hy : seen.get y = false) : (seen.set x true).get y = false := by
  rw [PerLink.get_set, if_neg]
  · exact hy
  · rintro rfl
    rw [on] at off
    cases off

section
variable (h : r.lawful clock enabled)
include h

theorem Record.lawful.later {later : Nat} (hl : clock ≤ later) : r.lawful later enabled :=
  { h with changed := h.changed.trans hl }

theorem Record.lawful.reRaise (times : p.escTimes) (grade : Option Grade) (detail : Option Nat) :
    (r.reRaise p clock grade detail).lawful clock enabled where
  raised := h.raised.trans h.changed
  changed := le_rfl
  repeats := Nat.min_le_left ..
  escalations := by
    simp only [Record.reRaise]
    split
    · exact h.escalations.trans (Severity.code_le _)
    · exact h.escalations
  grade := by
    simp only [Record.reRaise]
    split
    · next rises => simpa using (by simpa using rises : (r.kind = .battery ∧ r.grade = some .low) ∧ _).1.1
    · exact h.grade
  critical := by
    simp only [Record.reRaise]
    split
    · exact fun _ => rfl
    · exact h.critical
  roles := h.roles
  wide := h.wide
  timer := times.escStart _
  running := fun _ => rfl
  unseen := fun x off => ⟨by cases x <;> rfl, (h.unseen x off).2⟩

theorem Record.lawful.gradeRise (times : p.escTimes) (battery : r.kind = .battery) (detail : Option Nat) :
    (r.gradeRise p clock detail).lawful clock enabled where
  raised := h.raised.trans h.changed
  changed := le_rfl
  repeats := h.repeats
  escalations := h.escalations.trans (Severity.code_le _)
  grade := iff_of_true rfl battery
  critical := fun _ => rfl
  roles := h.roles
  wide := h.wide
  timer := times.escStart _
  running := fun _ => rfl
  unseen := fun x off => ⟨by cases x <;> rfl, (h.unseen x off).2⟩

theorem Record.lawful.clearing : (r.clearing clock).lawful clock enabled :=
  { h with
    raised := h.raised.trans h.changed
    changed := le_rfl
    timer := by simp [Record.clearing]
    running := fun on => absurd rfl on
    unseen := fun x off => ⟨by cases x <;> rfl, (h.unseen x off).2⟩ }

theorem Record.lawful.acked {x : LinkId} (on : enabled x = true) : (r.acked clock x).lawful clock enabled :=
  { h with
    raised := h.raised.trans h.changed
    changed := le_rfl
    timer := by simp [Record.acked]
    running := fun on => absurd rfl on
    unseen := fun y off => ⟨(h.unseen y off).1, PerLink.get_set_of_enabled on off (h.unseen y off).2⟩ }

theorem Record.lawful.ackedAgain {x : LinkId} (on : enabled x = true) : (r.ackedAgain x).lawful clock enabled :=
  { h with unseen := fun y off => ⟨(h.unseen y off).1, PerLink.get_set_of_enabled on off (h.unseen y off).2⟩ }

theorem Record.lawful.seen {x : LinkId} (on : enabled x = true) : (r.seen x).lawful clock enabled :=
  { h with unseen := fun y off => ⟨PerLink.get_set_of_enabled on off (h.unseen y off).1, (h.unseen y off).2⟩ }

theorem Record.lawful.unsee (x : LinkId) : (r.unsee x).lawful clock enabled := by
  refine { h with unseen := fun y off => ?_ }
  refine ⟨?_, (h.unseen y off).2⟩
  rw [Record.unsee, PerLink.get_set, (h.unseen y off).1, ite_self]

theorem Record.lawful.escalate (times : p.escTimes) (unacked : r.state = .activeUnacked) :
    (r.escalate p clock).lawful clock enabled := by
  have stopped : ∀ (e : Option Nat), e = none → ∀ t ∈ e, 1 ≤ t ∧ t ≤ 3600 := by simp
  have step : ∀ {a b : Severity}, b.code = a.code + 1 → r.severity = a → r.escalations + 1 ≤ b.code :=
    fun hb ha => by
      have := h.escalations
      rw [ha] at this
      omega
  have rises : ∀ {sev : Severity}, r.escalations + 1 ≤ sev.code → (r.grade = some .critical → sev = .urgent) →
      Record.lawful clock enabled { r with
        severity := sev, roles := .wide, escalations := r.escalations + 1, seenBy := .noLink
        escalation := p.escStart sev, changedAt := clock } := fun code critical =>
    { h with
      raised := h.raised.trans h.changed
      changed := le_rfl
      escalations := code
      critical := critical
      roles := .inl rfl
      wide := fun _ => rfl
      timer := times.escStart _
      running := fun _ => unacked
      unseen := fun x off => ⟨by cases x <;> rfl, (h.unseen x off).2⟩ }
  simp only [Record.escalate]
  split
  · next urgent =>
    split
    · exact { h with timer := stopped _ rfl, running := fun on => absurd rfl on }
    · next narrow =>
      have none : r.escalations = 0 := by
        by_contra some
        exact narrow (h.wide some)
      have one : r.escalations + 1 ≤ r.severity.code := by simp [none, urgent, Severity.code]
      exact { h with
        raised := h.raised.trans h.changed
        changed := le_rfl
        escalations := one
        roles := .inl rfl
        wide := fun _ => rfl
        timer := stopped _ rfl
        running := fun on => absurd rfl on }
  · next advisory =>
    refine rises (sev := r.severity.next) ?_ fun c => ?_
    · rw [advisory]
      exact step rfl advisory
    · rw [h.critical c] at advisory
      cases advisory
  · next caution =>
    refine rises (sev := r.severity.next) ?_ fun c => ?_
    · rw [caution]
      exact step rfl caution
    · rw [h.critical c] at caution
      cases caution

theorem Record.lawful.tick (times : p.escTimes) : (r.tick p clock).lawful clock enabled := by
  simp only [Record.tick]
  split
  · next unacked =>
    split
    · exact h
    · next t timer =>
      obtain ⟨low, high⟩ := h.timer t timer
      split
      · exact h.escalate times unacked
      · next more =>
        refine { h with timer := fun u hu => ?_, running := fun _ => unacked }
        cases hu
        omega
  · exact h

theorem Record.lawful.retime (sev : Severity) (time : Nat) : (r.retime sev time).lawful clock enabled := by
  simp only [Record.retime]
  split
  · split
    · exact { h with timer := by simp, running := fun on => absurd rfl on }
    · next on =>
      refine { h with timer := fun u hu => ?_, running := fun running => h.running fun none => ?_ }
      · obtain ⟨t, ht, rfl⟩ := Option.map_eq_some_iff.1 hu
        obtain ⟨low, high⟩ := h.timer t ht
        omega
      · exact running (by simp [none])
  · exact h

end

end

/-! ## The list's operations -/

/-- An outcome that a lawful record can take: a grade with BATTERY alone, and a grade rise of BATTERY alone. -/
structure HandedOutcome.sound (o : HandedOutcome) : Prop where
  grade : o.verdict = .qualified → (o.grade.isSome = true ↔ o.kind = .battery)
  rise : o.verdict = .gradeRise → o.kind = .battery

section
variable {s t : State}

/-- The records stay lawful where the clock and the enabled links stay. -/
theorem State.recordLaw_of_frame (h : s.onlyMonitorAndList t) (records : s.recordsIn t.records) : t.recordLaw := by
  have links : t.enabledLinks = s.enabledLinks := funext fun x => State.onlyMonitorAndList_enabled h x
  rw [State.recordLaw_iff, State.recordsIn, State.onlyMonitorAndList_clock h, links]
  exact records

theorem State.recordLaw_of_eq (h : s.recordLaw) (records : t.records = s.records) (clock : s.clock ≤ t.clock)
    (links : ∀ x, (t.link x).enabled = (s.link x).enabled) : t.recordLaw := by
  have same : t.enabledLinks = s.enabledLinks := funext links
  rw [State.recordLaw_iff] at h ⊢
  intro r hr
  rw [same]
  exact (h r (records ▸ hr)).later clock

theorem State.recordLaw_map (h : s.recordLaw) {f : Record → Record}
    (hf : ∀ r, r.lawful s.clock s.enabledLinks → (f r).lawful s.clock s.enabledLinks)
    (records : t.records = s.records.map f) (clock : t.clock = s.clock)
    (links : ∀ x, (t.link x).enabled = (s.link x).enabled) : t.recordLaw := by
  have same : t.enabledLinks = s.enabledLinks := funext links
  rw [State.recordLaw_iff] at h ⊢
  rw [State.recordsIn, same, records, clock]
  intro r hr
  obtain ⟨q, hq, rfl⟩ := List.mem_map.1 hr
  exact hf q (h q hq)

theorem State.recordLaw_update (h : s.recordLaw) {n : Seat} {k : Kind} {f : Record → Record} {r : Record}
    (found : s.record n k = some r) (list : s.listLaw) (hf : (f r).lawful s.clock s.enabledLinks) :
    (s.updateRecord n k f).recordLaw := by
  obtain ⟨mem, rfl, rfl⟩ := State.mem_of_record found
  rw [State.recordLaw_iff] at h ⊢
  intro q hq
  rw [State.updateRecord_records] at hq
  obtain ⟨p, hp, rfl⟩ := List.mem_map.1 hq
  split
  · next same =>
    obtain ⟨seat, kind⟩ := (Record.isFor_iff ..).1 same
    have one : s.record r.seat r.kind = some p := by
      rw [← seat, ← kind]
      exact State.record_of_mem list hp
    obtain rfl := Option.some.inj (found.symm.trans one)
    exact hf
  · exact h p hp

theorem State.recordLaw_of_sublist (h : s.recordLaw) (g : s.onlyMonitorAndList t)
    (records : t.records.Sublist s.records) : t.recordLaw :=
  State.recordLaw_of_frame g fun r hr => (s.recordLaw_iff.1 h) r (records.subset hr)

theorem State.recordLaw_removeRecord (h : s.recordLaw) (n : Seat) (k : Kind) : (s.removeRecord n k).recordLaw :=
  State.recordLaw_of_sublist h (s.onlyMonitorAndList_removeRecord n k) (by simp)

theorem State.recordLaw_append (h : s.recordLaw) {r : Record} (new : r.lawful s.clock s.enabledLinks) :
    (s.appendRecord r).recordLaw := by
  refine State.recordLaw_of_frame (s.onlyMonitorAndList_appendRecord r) fun q hq => ?_
  rw [State.appendRecord_records] at hq
  rcases List.mem_append.1 hq with old | here
  · exact s.recordLaw_iff.1 h q old
  · rw [List.mem_singleton.1 here]
    exact new

theorem State.recordLaw_raise (h : s.recordLaw) (times : s.params.escTimes) {o : HandedOutcome}
    (graded : o.grade.isSome = true ↔ o.kind = .battery) : (s.raise o).recordLaw := by
  simp only [State.raise]
  split
  · exact State.recordLaw_append h (newRecord_lawful times _ graded _)
  · exact State.recordLaw_of_sublist h (s.onlyMonitorAndList_setDue ..) (by simp)

theorem State.recordLaw_applyOutcome (h : s.recordLaw) (list : s.listLaw) (times : s.params.escTimes)
    {o : HandedOutcome} (sound : o.sound) : (s.applyOutcome o).recordLaw := by
  have lawful : ∀ {r}, s.record o.seat o.kind = some r → r.lawful s.clock s.enabledLinks := fun found =>
    s.recordLaw_iff.1 h _ (State.mem_of_record found).1
  simp only [State.applyOutcome]
  split
  · next verdict _ => exact State.recordLaw_raise h times (sound.grade verdict)
  · next r verdict found =>
    split
    · exact State.recordLaw_update h found list ((lawful found).reRaise times ..)
    · exact h
  · exact h
  · next r verdict found =>
    split
    · exact h
    · refine State.recordLaw_update h found list ((lawful found).gradeRise times ?_ _)
      rw [(State.mem_of_record found).2.2]
      exact sound.rise verdict
  · exact h
  · next r verdict found =>
    split
    · exact State.recordLaw_update h found list (lawful found).clearing
    · exact State.recordLaw_removeRecord h _ _
    · exact h

/-- What is due is QUALIFIED (R75). -/
theorem State.owes.qualified_of_due {os : List HandedOutcome} (h : s.owes os) {n : Seat} {k : Kind}
    (due : s.isDue n k = true) : (s.monitor n).state.get k = .qualified := by
  refine (h.qualified n k).2 (.inr ⟨fun o ho seat kind => ?_, .inl due⟩)
  have off := h.owed o ho
  rw [seat, kind, due] at off
  cases off

theorem SeatMonitor.lawful.gradeOf {m : SeatMonitor} (h : m.lawful) {k : Kind} (qualified : m.state.get k = .qualified) :
    (Machine.gradeOf k m).isSome = true ↔ k = .battery := by
  obtain ⟨-, -, -, -, grade, -⟩ := h
  cases k with
  | battery => exact iff_of_true (grade.2 qualified) rfl
  | batteryShortfall | mutedSpeech | openNoFloor | signalWeak | dropouts | signalLost => simp [Machine.gradeOf]

/-- What the list works on: lawful records, and qualifiers that lend an admitted record its grade. -/
structure State.recording (s : State) : Prop where
  records : s.recordLaw
  monitors : s.monitorLaw
  times : s.params.escTimes

theorem State.recording.of_work (h : s.recording) (g : s.listWork t) (records : t.recordLaw) : t.recording :=
  ⟨records, g.monitorLaw h.monitors, by
    rw [State.onlyMonitorAndList_params g.frame]
    exact h.times⟩

theorem State.recording.admitMark (h : s.recording) {os : List HandedOutcome} (owes : s.owes os) {n : Seat} {k : Kind}
    (due : s.isDue n k = true) : (s.admitMark n k).recording := by
  refine h.of_work (s.listWork_admitMark n k) (State.recordLaw_append (s := s.putDue n k false) h.records ?_)
  exact newRecord_lawful h.times n ((h.monitors n).gradeOf (owes.qualified_of_due due)) _

theorem State.recording.fillPlaces {os : List HandedOutcome} (places : Nat) : ∀ {s : State}, s.recording → s.owes os →
    s.records.length + places = Config.listCapacity → (State.fillPlaces places s).recording := by
  induction places with
  | zero => exact fun h _ _ => h
  | succ places ih =>
    intro s h owes length
    simp only [State.fillPlaces]
    split
    · exact h
    · next n k first =>
      have due := State.isDue_of_firstDue first
      refine ih (h.admitMark owes due) (owes.admitMark (by omega) due) ?_
      simp only [State.admitMark, State.appendRecord_records, State.putDue_records, List.length_append,
        List.length_singleton]
      omega

theorem State.recording.fillFreed (h : s.recording) {os : List HandedOutcome} (owes : s.owes os) :
    s.fillFreed.recording := h.fillPlaces _ owes (Nat.add_sub_cancel' owes.list.1)

theorem State.recording.applyHanded (os : List HandedOutcome) : ∀ {freed : Bool} {s : State}, s.recording → s.owes os →
    (∀ o ∈ os, o.sound) → (s.applyHanded freed os).recording := by
  induction os with
  | nil => exact fun h _ _ => h
  | cons o os ih =>
    intro freed s h owes sound
    have one := State.recordLaw_applyOutcome h.records owes.list h.times (sound o List.mem_cons_self)
    have applied := h.of_work (s.listWork_applyOutcome o) one
    have rest : ∀ p ∈ os, p.sound := fun p hp => sound p (List.mem_cons_of_mem _ hp)
    simp only [State.applyHanded]
    split
    · split
      · exact ih applied owes.applyOutcome rest
      · exact ih (applied.fillFreed owes.applyOutcome) owes.applyOutcome.fillFreed.1 rest
    · exact ih applied owes.applyOutcome rest

/-- The outcomes of an event leave the records lawful (R83 to R90). -/
theorem State.handing.recordLaw {os : List HandedOutcome} (g : s.handing os) (h : s.recording)
    (sound : ∀ o ∈ os, o.sound) : (s.applyOutcomes os).recordLaw :=
  (State.recording.applyHanded os h g.owes sound).records

/-! ## Evaluations and quietings -/

theorem State.sound_outcomes (tick : Bool) (kinds : Seat → PerKind Bool) : ∀ o ∈ s.outcomes tick kinds, o.sound := by
  intro o ho
  obtain ⟨-, mem⟩ := (s.mem_outcomes tick kinds).1 ho
  obtain ⟨v, verdict, -, same⟩ := (s.mem_evaluateKind tick o.seat).1 mem
  have own : o.verdict = v := by rw [same]
  refine ⟨fun qualified => ?_, fun rise => ?_⟩
  · rw [same]
    exact s.gradeOf_judgeKind tick o.seat (by rw [verdict, ← own, qualified])
  · exact ((s.judgeKind_fits tick o.seat o.kind (s.monitor o.seat)).rise (by rw [verdict, ← own, rise])).1

theorem State.sound_clearings (ks : Seat → List Kind) : ∀ o ∈ s.clearings ks, o.sound := by
  intro o ho
  have cleared := State.clearings_cleared o ho
  constructor <;> simp [cleared]

theorem State.recordLaw_mapMonitors (h : s.recordLaw) (f : Seat → SeatMonitor → SeatMonitor) :
    (s.mapMonitors f).recordLaw :=
  State.recordLaw_of_sublist h (State.onlyMonitorAndList_mapMonitors ..) (by simp)

section
variable (agrees : s.agrees) (h : s.recording) (params : s.params.setValues)
include agrees h params

theorem State.recording.evaluate (tick : Bool) (kinds : Seat → PerKind Bool) : (s.evaluate tick kinds).recordLaw := by
  refine (agrees.evaluateAll tick kinds).recordLaw ⟨State.recordLaw_mapMonitors h.records _,
    State.monitorLaw_evaluateAll params h.monitors tick kinds, ?_⟩ (State.sound_outcomes tick kinds)
  rw [State.onlyMonitorAndList_params (State.evaluateAll_frame tick)]
  exact h.times

theorem State.recording.restartMonitors {who : Seat → Bool} (mute : ∀ n, who n = true → (s.seat n).mute ≠ .opened) :
    (s.restartMonitors who).recordLaw := by
  have frame : s.onlyMonitorAndList (s.quieted who) := State.onlyMonitorAndList_mapMonitors ..
  have quieted : (s.quieted who).params.setValues := by rwa [State.onlyMonitorAndList_params frame]
  rw [State.restartMonitors_eq]
  refine (agrees.restart mute).recordLaw
    ⟨State.recordLaw_mapMonitors (State.recordLaw_mapMonitors h.records _) _,
      State.monitorLaw_evaluateAll quieted (State.monitorLaw_quieted params h.monitors who) _ _, ?_⟩ ?_
  · rw [State.onlyMonitorAndList_params (State.evaluateAll_frame false), State.onlyMonitorAndList_params frame]
    exact h.times
  · exact List.forall_mem_append.2 ⟨State.sound_clearings _, State.sound_outcomes _ _⟩

end

theorem SeatMonitor.lawful_enterRecess {p : Params} {m : SeatMonitor} (h : m.lawful) (params : p.setValues) :
    (m.enterRecess p).lawful := by
  obtain ⟨battery, -, weak, -, rest⟩ := h
  exact ⟨battery, params.muted, weak, Nat.zero_le _, rest⟩

theorem State.recording.recessMonitors (h : s.recording) (agrees : s.agrees) (params : s.params.setValues) :
    s.recessMonitors.recordLaw := by
  rw [State.recessMonitors_eq]
  refine (s.quiets_recessSettled.handing agrees).recordLaw ⟨State.recordLaw_mapMonitors h.records _, fun n => ?_, ?_⟩
    (State.sound_clearings _)
  · rw [State.monitor_recessSettled]
    split
    · exact SeatMonitor.lawful_enterRecess (h.monitors n) params
    · exact h.monitors n
  · rw [State.recessSettled, State.mapMonitors_params]
    exact h.times

theorem State.recording.endDropoutWindow (h : s.recording) (agrees : s.agrees) : s.endDropoutWindow.recordLaw := by
  have settled : s.windowSettled.recordLaw := by
    refine State.recordLaw_of_eq h.records ?_ (Nat.le_of_eq ?_) fun x => ?_
    · simp only [State.windowSettled, State.mapSeats_records, State.mapMonitors_records]
    · simp only [State.windowSettled, State.mapSeats_clock, State.mapMonitors_clock]
    · simp only [State.windowSettled, State.link, State.mapSeats_links, State.mapMonitors_links]
  have times : s.windowSettled.params = s.params := by
    simp only [State.windowSettled, State.mapSeats_params, State.mapMonitors_params]
  rw [State.endDropoutWindow_eq]
  refine agrees.windowSettled.recordLaw ⟨settled, fun n => ?_, ?_⟩ (State.sound_clearings _)
  · rw [State.monitor_windowSettled]
    exact SeatMonitor.lawful_endWindow (h.monitors n)
  · rw [times]
    exact h.times

/-! ## Acknowledgements -/

theorem State.recordLaw_acknowledge (h : s.recordLaw) (list : s.listLaw) {x : LinkId} (on : (s.link x).enabled = true)
    {r : Record} (found : s.record r.seat r.kind = some r) : (s.acknowledge x r).recordLaw := by
  have lawful := s.recordLaw_iff.1 h r (State.mem_of_record found).1
  simp only [State.acknowledge]
  split
  · exact State.recordLaw_update h found list (lawful.acked on)
  · exact State.recordLaw_update h found list (lawful.ackedAgain on)
  · exact State.recordLaw_removeRecord h _ _

theorem State.recording.foldl_acknowledge {x : LinkId} {rs : List Record} : ∀ {s : State}, s.recording → s.toAck rs →
    (s.link x).enabled = true → (rs.foldl (fun t r => t.acknowledge x r) s).recording := by
  induction rs with
  | nil => exact fun h _ _ => h
  | cons r rs ih =>
    intro s h ack on
    have work := s.listWork_acknowledge x r
    refine ih (h.of_work work ?_) (ack.acknowledge x) ?_
    · exact State.recordLaw_acknowledge h.records ack.owes.list on (ack.held r List.mem_cons_self)
    · rw [State.onlyMonitorAndList_enabled work.frame, on]

theorem State.recording.acknowledgeAll (h : s.recording) (agrees : s.agrees) {x : LinkId} {picked : List Record}
    (held : picked.Sublist s.records) (on : (s.link x).enabled = true) : (s.acknowledgeAll x picked).recordLaw := by
  have ack := agrees.toAck held
  have fold := h.foldl_acknowledge ack on
  simp only [State.acknowledgeAll]
  split
  · exact (fold.fillFreed (ack.foldl x)).records
  · exact fold.records

end

end Sys2Proof.Machine
end

section
/-! The records through every move, and every law of the state through every step. -/

namespace Sys2Proof.Machine

/-- What the records' law needs beside it: the list and the qualifiers in agreement and in their ranges. -/
structure State.recorded (s : State) : Prop where
  agrees : s.agrees
  recording : s.recording
  values : s.params.setValues

section
variable {s t : State}

theorem State.recorded.records (h : s.recorded) : s.recordLaw := h.recording.records

theorem State.recorded.of_params (h : s.recorded) (records : t.records = s.records) (monitors : t.monitors = s.monitors)
    (params : t.params.lawful) (clock : s.clock ≤ t.clock) (links : ∀ x, (t.link x).enabled = (s.link x).enabled) :
    t.recorded := by
  have monitor : ∀ n, t.monitor n = s.monitor n := fun n => by rw [State.monitor, monitors, State.monitor]
  exact ⟨h.agrees.of_sameWarnings (State.sameWarnings_of_eq records monitors),
    ⟨State.recordLaw_of_eq h.records records clock links, fun n => monitor n ▸ h.recording.monitors n, params.escTimes⟩,
    params.setValues⟩

theorem State.recorded.of_eq (h : s.recorded) (records : t.records = s.records) (monitors : t.monitors = s.monitors)
    (params : t.params = s.params) (clock : s.clock ≤ t.clock) (links : t.links = s.links) : t.recorded := by
  have monitor : ∀ n, t.monitor n = s.monitor n := fun n => by rw [State.monitor, monitors, State.monitor]
  refine ⟨h.agrees.of_sameWarnings (State.sameWarnings_of_eq records monitors),
    ⟨State.recordLaw_of_eq h.records records clock fun x => by rw [State.link, links, State.link],
      fun n => monitor n ▸ h.recording.monitors n, ?_⟩, ?_⟩
  · rw [params]
    exact h.recording.times
  · rw [params]
    exact h.values

theorem State.recorded.mapSeats (h : s.recorded) (f : Seat → SeatRecord → SeatRecord) : (s.mapSeats f).recorded :=
  State.mapSeats_law f (fun _ _ hu => hu.of_eq rfl rfl rfl le_rfl rfl) h

theorem State.recorded.of_work {u : State} (h : s.recorded) (g : s.onlyMonitorAndList u) (agrees : u.agrees)
    (records : u.recordLaw) (monitors : u.monitorLaw) : u.recorded := by
  have params := State.onlyMonitorAndList_params g
  exact ⟨agrees, ⟨records, monitors, params ▸ h.recording.times⟩, params ▸ h.values⟩

theorem State.recorded.evaluate (h : s.recorded) (tick : Bool) (kinds : Seat → PerKind Bool) :
    (s.evaluate tick kinds).recorded :=
  h.of_work (s.onlyMonitorAndList_evaluate ..) (h.agrees.evaluate tick kinds)
    (h.recording.evaluate h.agrees h.values tick kinds) (State.monitorLaw_evaluate h.values h.recording.monitors tick kinds)

theorem State.recorded.processReport (h : s.recorded) (rep : Report) : (s.processReport rep).recorded := by
  simp only [State.processReport]
  split
  · next n _ =>
    exact State.recorded.evaluate (s := s.putSeat n ((s.seat n).report s.curve s.params.estimatorWindow rep))
      (h.of_eq rfl rfl rfl le_rfl rfl) _ _
  · exact h.of_eq rfl rfl rfl le_rfl rfl

theorem State.recorded.restartMonitors (h : s.recorded) {who : Seat → Bool}
    (mute : ∀ n, who n = true → (s.seat n).mute ≠ .opened) : (s.restartMonitors who).recorded :=
  h.of_work (s.onlyMonitorAndList_restartMonitors who) (h.agrees.restartMonitors mute)
    (h.recording.restartMonitors h.agrees h.values mute) (State.monitorLaw_restartMonitors h.values h.recording.monitors who)

theorem State.recorded.granted (h : s.recorded) (n : Seat) : (s.granted n).recorded := by
  have zero : State.recorded (s.putMonitor n { s.monitor n with openPv := 0 }) := by
    refine ⟨h.agrees.of_sameWarnings (State.sameWarnings_putMonitor rfl rfl), ⟨?_, fun m => ?_, h.recording.times⟩,
      h.values⟩
    · exact State.recordLaw_of_eq h.records rfl le_rfl fun _ => rfl
    · rw [State.monitor_putMonitor]
      split
      · obtain ⟨battery, muted, weak, -, rest⟩ := h.recording.monitors n
        exact ⟨battery, muted, weak, Nat.zero_le _, rest⟩
      · exact h.recording.monitors m
  exact zero.evaluate false _

/-- Records that change where they stand. -/
theorem State.recordLaw_of_map (h : s.recordLaw) {f : Record → Record}
    (hf : ∀ r, r.lawful s.clock s.enabledLinks → (f r).lawful s.clock s.enabledLinks) :
    State.recordLaw { s with records := s.records.map f } := State.recordLaw_map h hf rfl rfl fun _ => rfl

/-! ## Parameters and images -/

theorem State.recorded.retimeRecords (h : s.recorded) (sev : Severity) : (s.retimeRecords sev).recorded :=
  ⟨h.agrees.of_mapRecords (keepsWarning_retime ..) rfl (fun _ _ => rfl) fun _ _ => rfl,
    ⟨State.recordLaw_of_map h.records fun _ hr => hr.retime .., h.recording.monitors, h.recording.times⟩, h.values⟩

theorem State.recorded.takeEffect (h : s.recorded) (number : Nat) : (s.takeEffect number).recorded := by
  simp only [State.takeEffect]
  split
  · exact h.mapSeats _
  · exact h.of_eq rfl rfl rfl le_rfl rfl
  · exact h.retimeRecords _
  · exact h.retimeRecords _
  · exact h.retimeRecords _
  · split
    · exact State.recorded.evaluate (s := { s with floor := s.floor.drop (s.floor.length - s.params.floorLimit) })
        (h.of_eq rfl rfl rfl le_rfl rfl) _ _
    · exact h
  · exact h

theorem State.recorded.writeParameter (h : s.recorded) {number v : Nat} (params : (s.params.write number v).lawful) :
    (s.writeParameter number v).recorded :=
  State.recorded.takeEffect (s := { s with
    params := s.params.write number v, setChanged := s.setChanged.after s.params (s.params.write number v) })
    (h.of_params rfl rfl params le_rfl fun _ => rfl) number

theorem State.recorded.applyImage (h : s.recorded) (clock : s.clockLaws) (img : List Byte) :
    (s.applyImage img).recordLaw := by
  have written : (s.applyParameters img).clockLaws ∧ (s.applyParameters img).recorded :=
    State.applyParameters_law (P := fun u => u.clockLaws ∧ u.recorded) img (fun _ _ v range hu =>
      ⟨State.clockLaws_writeParameter hu.1 range v, hu.2.writeParameter (Params.write_lawful hu.1.1 range v)⟩) ⟨clock, h⟩
  have bound : (s.imageBound img).recordLaw := by
    rw [State.imageBound]
    generalize s.applyParameters img = u at written
    have tables : State.recorded (State.imageTables { u with curve := imageCurve img } img) :=
      State.imageTables_law img (fun _ _ _ hw => hw.of_eq rfl rfl rfl le_rfl rfl)
        (written.2.of_eq (t := { u with curve := imageCurve img }) rfl rfl rfl le_rfl rfl)
    refine (tables.restartMonitors fun n _ => ?_).records
    rw [State.seat_imageTables, SeatRecord.mute_rebind]
    simp
  rw [State.applyImage_eq]
  generalize s.imageBound img = w at bound
  refine State.recordLaw_of_eq bound rfl le_rfl fun x => ?_
  cases x <;> rfl

/-! ## The moves -/

theorem State.recordLaw_of_empty (h : t.records = []) : t.recordLaw := by
  intro r hr
  rw [h] at hr
  cases hr

theorem State.Requested.recordLaw (g : s.Requested t) (h : s.recorded) (setupLaw : s.setupLaw)
    (params : t.params.lawful) : t.recordLaw := by
  cases g with
  | apart core intake links profile lines =>
    refine State.recordLaw_of_eq h.records ?_ ?_ fun x => (lines x).2 <;> rw [core]
  | bound n pack valid new =>
    have tables : (s.bindTables n pack (s.seatOfPack pack)).recorded := by
      rw [s.bindTables_eq]
      exact h.of_eq rfl rfl rfl le_rfl rfl
    refine (tables.restartMonitors fun m hm => ?_).records
    rw [s.mute_bindTables pack new hm]
    simp
  | released n =>
    refine (State.recorded.restartMonitors (s := s.releaseTables n) (h.of_eq rfl rfl rfl le_rfl rfl) fun m hm => ?_).records
    obtain rfl : m = n := by simpa using hm
    rw [State.seat_releaseTables, if_pos rfl]
    simp [SeatRecord.release, SeatRecord.restart]
  | grouped f group => exact (h.mapSeats f).records
  | restarted setup =>
    refine (State.recorded.restartMonitors (s := s.restartTables)
      (State.restartTables_law (fun _ _ _ _ hu => hu.of_eq rfl rfl rfl le_rfl rfl) h) fun m hm => ?_).records
    rw [State.seat_restartTables, if_pos (show (s.seat m).pack.isSome = true from hm)]
    simp [SeatRecord.restart]
  | curved c valid setup =>
    exact (State.recorded.mapSeats (s := { s with curve := c }) (h.of_eq rfl rfl rfl le_rfl rfl) _).records
  | written number v range =>
    rw [State.onlyMonitorAndList_params (s.writeParameter_frame number v)] at params
    exact (h.writeParameter params).records
  | seen x picked enabled =>
    refine State.recordLaw_of_map h.records fun r hr => ?_
    split
    · exact hr.seen enabled
    · exact hr
  | acked x picked held enabled => exact h.recording.acknowledgeAll h.agrees held enabled
  | started length range setup idle =>
    let u : State := { s with sitting := .sitting, clock := 0, scheduled := length }
    have started : State.recorded (u.mapMonitors fun n m => if u.bound n then u.startMonitor n m else m) := by
      refine ⟨?_, ⟨?_, fun n => ?_, h.recording.times⟩, h.values⟩
      · refine h.agrees.of_sameWarnings ⟨rfl, fun n k => ?_, fun n k => ?_⟩
        · rw [State.monitor_mapMonitors]
          split <;> rfl
        · rw [State.isDue, State.monitor_mapMonitors]
          split <;> rfl
      · exact State.recordLaw_of_empty (setupLaw setup).1
      · rw [State.monitor_mapMonitors]
        have lawful := h.recording.monitors n
        split
        · obtain ⟨-, -, -, rest⟩ := lawful
          exact ⟨h.values.battery, h.values.muted, h.values.weak, rest⟩
        · exact lawful
    exact (started.evaluate false _).records
  | scheduled length range =>
    exact (State.recorded.evaluate (s := { s with scheduled := length }) (h.of_eq rfl rfl rfl le_rfl rfl) _ _).records
  | recessed sitting =>
    have entered : State.recorded { s with sitting := .recess, floor := [] } := h.of_eq rfl rfl rfl le_rfl rfl
    exact entered.recording.recessMonitors entered.agrees entered.values
  | resumed recess =>
    exact (State.recorded.evaluate (s := { s with sitting := .sitting }) (h.of_eq rfl rfl rfl le_rfl rfl) _ _).records
  | ended => exact State.recordLaw_of_empty (State.mapMonitors_records ..)
  | granted n sitting bound off room => exact (State.recorded.granted (s := s.joinFloor n) (h.of_eq rfl rfl rfl le_rfl rfl) n).records
  | replaced n oldest rest sitting bound off floor =>
    exact (State.recorded.granted (State.recorded.evaluate (s := { s with floor := rest }.joinFloor n)
      (h.of_eq rfl rfl rfl le_rfl rfl) _ _) n).records
  | withdrawn n sitting =>
    exact (State.recorded.evaluate (s := s.leaveFloor n) (h.of_eq rfl rfl rfl le_rfl rfl) _ _).records
  | cleared sitting =>
    exact (State.recorded.evaluate (s := { s with floor := [] }) (h.of_eq rfl rfl rfl le_rfl rfl) _ _).records

/-- Every move keeps the records lawful (R81, R82, R94, R105). -/
theorem State.Moves.recordLaw {whole : Prop} (g : State.Moves whole s t) (h : s.recorded) (setupLaw : s.setupLaw)
    (clock : s.clockLaws) (params : t.params.lawful) : t.recordLaw := by
  cases g with
  | requested g => exact g.recordLaw h setupLaw params
  | outside core intake links profile store enabled =>
    refine State.recordLaw_of_eq h.records ?_ ?_ enabled <;> rw [core]
  | reset straps protect g => exact State.recordLaw_of_empty rfl
  | picked p rep rest fifo =>
    have served : State.recorded { s.putPort p { s.port p with fifo := rest } with lastServed := p } :=
      h.of_eq rfl rfl rfl le_rfl rfl
    exact (served.processReport rep).records
  | tookValues =>
    exact State.recordLaw_of_eq h.records s.takeSetValues_records (Nat.le_of_eq s.takeSetValues_clock.symm)
      fun x => by rw [State.link, s.takeSetValues_links, State.link]
  | advanced who => exact ((h.mapSeats _).evaluate false _).records
  | counted kinds => exact (h.evaluate true kinds).records
  | quarterPhase q range => exact State.recordLaw_of_eq h.records rfl le_rfl fun _ => rfl
  | clock =>
    obtain ⟨-, -, -, -, top, -⟩ := clock
    simp only [State.tickClock]
    split
    · exact h.records
    · exact State.recordLaw_of_eq h.records rfl (Nat.le_min.2 ⟨top, Nat.le_succ _⟩) fun _ => rfl
  | window =>
    simp only [State.tickWindow]
    split
    · exact h.recording.endDropoutWindow h.agrees
    · exact State.recordLaw_of_eq h.records rfl le_rfl fun _ => rfl
  | timers =>
    simp only [State.tickTimers]
    split
    · exact h.records
    · exact State.recordLaw_of_map h.records fun r hr => hr.tick h.recording.times
  | seconds => exact State.recordLaw_of_eq h.records rfl le_rfl fun _ => rfl
  | escalated n k r record runs =>
    have unacked : r.state = .activeUnacked := by
      simp only [Record.expiresNext, Bool.and_eq_true, beq_iff_eq] at runs
      exact runs.1
    have lawful := s.recordLaw_iff.1 h.records r (State.mem_of_record record).1
    exact State.recordLaw_update h.records record h.agrees.owes.list (lawful.escalate h.recording.times unacked)
  | aged who => exact ((h.mapSeats _).evaluate false _).records
  | unseen x => exact State.recordLaw_of_map h.records fun r hr => hr.unsee x
  | loaded img formed loading => exact h.applyImage clock img

end

end Sys2Proof.Machine
end

section
/-! Every step keeps every law of the state (R58, R75, R76, R86). -/

namespace Sys2Proof.Machine

section
variable {s t : State}

theorem State.lawful.clockLaws (h : s.lawful) : s.clockLaws := ⟨h.params, h.time⟩

theorem State.lawful.bareLaw (h : s.lawful) : s.bareLaw := State.bareLaw_of_seatLaw h.seats

theorem State.lawful.warningLaws (h : s.lawful) : s.warningLaws :=
  s.warningLaws_iff.2 ⟨h.list, h.due, h.setup, h.qualified⟩

theorem State.lawful.qualifierLaws (h : s.lawful) : s.qualifierLaws :=
  ⟨⟨h.monitor, h.openValues, State.quietLaw_of_unbound h.unbound⟩, s.conditionLaw_iff.1 h.condition⟩

theorem State.lawful.recorded (h : s.lawful) : s.recorded :=
  ⟨h.warningLaws.agrees, ⟨h.records, h.monitor, h.params.escTimes⟩, h.params.setValues⟩

/-- Every move keeps a lawful state lawful, on the assumption of its command. -/
theorem State.lawful_moves {whole : Prop} (g : State.Moves whole s t) (assumed : whole) (h : s.lawful) : t.lawful := by
  obtain ⟨params, time⟩ := State.clockLaws_moves g h.clockLaws
  obtain ⟨binding, strays⟩ := State.bindLaws_moves g ⟨h.binding, h.strays⟩
  have seats := State.seatLaw_moves g h.clockLaws h.curve h.intake h.seats
  obtain ⟨list, due, setup, qualified⟩ := t.warningLaws_iff.1 (State.warningLaws_moves g h.warningLaws)
  obtain ⟨⟨monitor, opened, quiet⟩, follow⟩ := State.qualifierLaws_moves g h.clockLaws params.setValues h.bareLaw
    (State.bareLaw_of_seatLaw seats) h.qualifierLaws
  exact {
    params := params
    time := time
    intake := State.intakeLaw_moves g h.intake
    curve := State.curve_moves g h.curve
    seats := seats
    binding := binding
    strays := strays
    strayRanges := State.strayRanges_moves g h.time h.intake h.strayRanges
    floor := State.floorLaw_moves g h.clockLaws h.floor
    list := list
    due := due
    setup := setup
    qualified := qualified
    unbound := State.unboundLaw_of_quiet quiet qualified
    monitor := monitor
    condition := t.conditionLaw_iff.2 follow
    openValues := opened
    records := g.recordLaw h.recorded h.setup h.clockLaws params
    links := State.linkLaw_moves g assumed h.links
    profile := State.profileLaw_moves g h.profile
    store := State.store_moves g h.store }

end

/-- Settles O58: a step is a run of moves, and every move keeps the laws together, each from those it leans on. -/
theorem stepKeepsTheStateLawful : Obligations.StepKeepsTheStateLawful := fun _ _ h step =>
  law_of_step step (fun _ _ move hu => State.lawful_moves move h.links hu) h

/-- Settles O6: every table at its reset column, and an EEPROM without a cell. -/
theorem resetStateIsLawful : Obligations.ResetStateIsLawful := by
  unfold Obligations.ResetStateIsLawful
  have seat : ∀ n, State.reset.seat n = .reset := fun n => State.seat_ofStraps _ _ _ _ _ n
  have monitor : ∀ n, State.reset.monitor n = .quiet State.reset.params := fun n => State.monitor_ofStraps _ _ _ _ _ n
  obtain ⟨params, time⟩ := State.clockLaws_ofStraps resetStraps false [] 0 []
  obtain ⟨list, due, setup, qualified⟩ := State.reset.warningLaws_iff.1 (State.warningLaws_ofStraps ..)
  have seats : State.reset.seatLaw := fun n => by
    rw [seat]
    exact SeatRecord.reset_lawful _ _ (g := 0) (Nat.zero_le _)
  have follow : State.reset.qualifierLaws := State.qualifierLaws_of_quiet params.setValues monitor
    fun n k => State.not_conditionOf_setup rfl n k
  exact {
    params := params
    time := time
    intake := fun p => by
      have port : State.reset.port p = .reset := State.port_ofStraps _ _ _ _ _ p
      rw [port]
      exact ⟨Nat.zero_le _, fun r hr => absurd hr List.not_mem_nil, fun _ => rfl, rfl⟩
    curve := by decide
    seats := seats
    binding := ⟨fun n m _ held => absurd (by rw [seat]; rfl) held, fun n p hp => by rw [seat] at hp; cases hp⟩
    strays := ⟨Nat.zero_le _, List.nodup_nil, fun _ he => absurd he List.not_mem_nil⟩
    strayRanges := fun _ he => absurd he List.not_mem_nil
    floor := ⟨Nat.zero_le _, List.nodup_nil, fun _ => rfl, fun _ he => absurd he List.not_mem_nil⟩
    list := list
    due := due
    setup := setup
    qualified := qualified
    unbound := State.unboundLaw_of_quiet follow.held.quiet qualified
    monitor := follow.held.monitors
    condition := State.reset.conditionLaw_iff.2 follow.follow
    openValues := follow.held.opened
    records := State.recordLaw_of_empty rfl
    links := State.linkLaw_ofStraps _ _ _ _ _
    profile := State.profileLaw_ofStraps ..
    store := rfl }

end Sys2Proof.Machine
end

section
/-! RESTART SEATS and UNBIND SEAT (R2, R3, R15, R20, R74). -/

namespace Sys2Proof.Machine

section
variable (s : State)

theorem State.quieted_listening (x : LinkId) (who : Seat → Bool) :
    (s.listening x).quieted who = (s.quieted who).listening x := by
  simp only [State.quieted, State.mapMonitors, State.listening, State.putLink, State.link]

theorem State.mapPorts_listening (x : LinkId) (f : Port → PortState → PortState) :
    (s.listening x).mapPorts f = (s.mapPorts f).listening x := by
  simp only [State.mapPorts, State.listening, State.putLink, State.link]

theorem State.setupLaw_listening {s : State} (h : s.setupLaw) (x : LinkId) : (s.listening x).setupLaw := h

theorem State.restartTables_listening (x : LinkId) : (s.listening x).restartTables = s.restartTables.listening x := by
  simp only [State.restartTables, State.mapSeats_listening, State.mapPorts_listening]
  generalize (s.mapSeats _).mapPorts _ = u
  rfl

theorem State.restartTables_eq : s.restartTables =
    { s with seats := s.restartTables.seats, ports := s.restartTables.ports, strays := [] } := by
  simp only [State.restartTables, State.mapSeats, State.mapPorts]

theorem State.port_restartTables (p : Port) : s.restartTables.port p = { s.port p with fifo := [] } := by
  have read : s.restartTables.port p
      = ((s.mapSeats fun _ r => if r.pack.isSome then r.restart else r).mapPorts fun _ t => { t with fifo := [] }).port p := by
    simp only [State.restartTables, State.port]
  rw [read, State.port_mapPorts]
  simp only [State.port, State.mapSeats_ports]

theorem State.setupLaw_restartTables {s : State} (h : s.setupLaw) : s.restartTables.setupLaw :=
  State.restartTables_law (fun _ _ _ _ hu => hu) h

end

/-- Settles O22: in SETUP a restart of the qualifiers hands nothing to the list. -/
theorem restartSeatsRestartsTheBound : Obligations.RestartSeatsRestartsTheBound := by
  unfold Obligations.RestartSeatsRestartsTheBound
  intro s x rest setupLaw ready role idle setup
  have technical := State.technical_of_role role
  have sitting : s.restartTables.sitting = .setup := by
    rw [s.restartTables_eq]
    exact setup
  have restarted : (s.listening x).restartBound = (s.restartTables.quieted s.bound).listening x := by
    change (s.listening x).restartTables.restartMonitors s.bound = _
    rw [s.restartTables_listening, ← s.restartTables.quieted_listening]
    exact State.restartMonitors_of_setup (State.setupLaw_listening (State.setupLaw_restartTables setupLaw) x)
      (by rw [State.sitting_listening, sitting]) _
  have answer : serve .restartSeats x rest (s.listening x) = ((s.restartTables.quieted s.bound).listening x).answer .ok
      [byte ((List.finRange 128).countP fun n => (s.seat n).pack.isSome)] := by
    simp only [serve, serveRestartSeats, State.technical_listening, technical, State.loading_listening, idle,
      State.sitting_listening, setup, restarted, Bool.not_true, Bool.false_eq_true, if_false, ne_eq, not_true_eq_false]
    rfl
  refine ⟨s.restartTables.quieted s.bound,
    congrArg Host.Outcome.next (State.requestReaches_of_answer ready answer), fun n => ?_, fun p => ?_, ?_,
    fun n bound => ?_, ?_⟩
  · rw [State.quieted, State.seat_mapMonitors, State.seat_restartTables]
    by_cases off : (s.seat n).pack = none
    · rw [if_pos off, if_neg (by simp [off])]
    · rw [if_neg off, if_pos (Option.isSome_iff_ne_none.2 off), SeatRecord.restart_eq]
  · rw [← s.port_restartTables, State.port, State.quieted, State.mapMonitors_ports, State.port]
  · rw [State.quieted, State.mapMonitors_strays, s.restartTables_eq]
  · rw [State.monitor_quieted, if_pos bound]
    rfl
  · simp only [State.quieted, State.mapMonitors, State.restartTables, State.mapSeats, State.mapPorts]

end Sys2Proof.Machine
end

section
/-! A restarted or released seat keeps QUIET qualifiers and no active record (R2, R3, R74), and with it UNBIND SEAT and
BIND PACK (R13, R15). -/

namespace Sys2Proof.Machine

/-! ## Restarted seats -/

/-- A seat record that meets no kind's condition: one that a restart or a release has just left (R2, R3). -/
structure SeatRecord.fresh (r : SeatRecord) : Prop where
  signal : r.signal ≠ .lost
  mute : r.mute = .unknown
  level : r.levelStore = none
  dropouts : r.dropouts = 0
  est : r.est = .restarted

theorem SeatRecord.fresh_restart (r : SeatRecord) : r.restart.fresh := ⟨by simp [SeatRecord.restart], rfl, rfl, rfl, rfl⟩

theorem SeatRecord.fresh_release (r : SeatRecord) : r.release.fresh := ⟨by simp [SeatRecord.release], rfl, rfl, rfl, rfl⟩

section
variable {s : State} {n : Seat}

theorem resettingEvent_still {setValue : Nat} {clears : Bool} {pv : Nat} :
    resetting false setValue false clears .quiet pv = (.quiet, pv, none) := rfl

/-- QUIET qualifiers of a fresh seat stay as they are at an event (R60, R62, R63, R65). -/
theorem State.judgeKind_fresh (fresh : (s.seat n).fresh) (limit : 0 < s.params.dropoutLimit) (p : Params) (k : Kind) :
    s.judgeKind false n k (.quiet p) = (.quiet p, none) := by
  obtain ⟨signal, mute, level, dropouts, est⟩ := fresh
  cases k with
  | battery =>
    have low : batteryLow s.params (s.seat n) = false := by rw [batteryLow, est]; rfl
    have held : heldCondition (s.seat n).signal .quiet none = none := if_neg signal
    simp only [State.judgeKind, State.judgeBattery, SeatMonitor.quiet, held, Option.getD_none, low, resettingEvent_still,
      batteryGrade, reduceCtorEq, false_and, if_false]
  | batteryShortfall =>
    have off : shortfallJudgement s.required s.params.shortfallHystMin (s.seat n).est.minutes = some false := by
      rw [est]
      rfl
    simp only [State.judgeKind, State.judgeShortfall, off]
    rfl
  | mutedSpeech =>
    have off : s.mutedSpeechHolds n = false := by simp [State.mutedSpeechHolds, mute]
    simp only [State.judgeKind, State.judgeMutedSpeech, off]
    split <;> rfl
  | openNoFloor =>
    have off : s.openNoFloorHolds n = false := State.openNoFloorHolds_of_mute (by simp [mute])
    simp only [State.judgeKind, State.judgeOpenNoFloor, off]
    split <;> rfl
  | signalWeak =>
    have off : weakHolds s.params (s.seat n) = false := by rw [weakHolds, SeatRecord.levelAverage, level]; rfl
    simp only [State.judgeKind, State.judgeSignalWeak, off]
    rfl
  | dropouts =>
    simp only [State.judgeKind, State.judgeDropouts, dropouts]
    rw [if_neg (by omega)]
  | signalLost =>
    simp only [State.judgeKind, State.judgeSignalLost, signal, if_false]
    rfl

/-- A fresh seat's qualifiers come out of a restart at their reset values (R74). -/
theorem State.monitor_restartMonitors {who : Seat → Bool} (agrees : s.agrees)
    (mute : ∀ n, who n = true → (s.seat n).mute ≠ .opened) (picked : who n = true) (fresh : (s.seat n).fresh)
    (limit : 0 < s.params.dropoutLimit) : (s.restartMonitors who).monitor n = .quiet s.params := by
  have agrees' := agrees.restartMonitors mute
  rw [State.restartMonitors_eq] at agrees' ⊢
  have frame : s.onlyMonitorAndList (s.quieted who) := State.onlyMonitorAndList_mapMonitors ..
  generalize hu : s.quieted who = u at agrees' ⊢ frame
  have quiet : u.monitor n = .quiet s.params := by rw [← hu, State.monitor_quieted, if_pos picked]
  have fresh' : (u.seat n).fresh := by rwa [State.onlyMonitorAndList_seat frame]
  have limit' : 0 < u.params.dropoutLimit := by rwa [State.onlyMonitorAndList_params frame]
  have evaluated : (u.evaluateAll false (restartedKinds who)).monitor n = .quiet s.params := by
    refine SeatMonitor.ext_part fun k => ?_
    rw [State.part_evaluateAll, quiet, State.evaluateKind, State.judgeKind_fresh fresh' limit']
    split <;> rfl
  have still : u.openNoFloorHolds n = false := State.openNoFloorHolds_of_mute (by simp [fresh'.mute])
  have restart : (u.evaluateAll false (restartedKinds who)).openRestart n = .quiet := by
    rw [State.onlyMonitorAndList_openRestart (State.evaluateAll_frame false), State.openRestart, still, Bool.and_false]
    rfl
  have work := (u.evaluateAll false (restartedKinds who)).listWork_applyOutcomes
    (s.clearings (restartKinds who) ++ u.outcomes false (restartedKinds who))
  generalize State.applyOutcomes _ _ = t at agrees' work ⊢
  have whole : t.monitor n = { SeatMonitor.quiet s.params with due := (t.monitor n).due } := by
    rcases work.monitors n with same | reset
    · rwa [evaluated] at same
    · rw [evaluated, restart] at reset
      exact reset
  have undue : (t.monitor n).due = (SeatMonitor.quiet s.params).due := by
    refine PerKind.ext_get fun k => ?_
    rw [SeatMonitor.due_quiet]
    refine agrees'.owes.undue_of_not_qualified (k := k) ?_
    have state : (t.monitor n).state = (SeatMonitor.quiet s.params).state := by rw [whole]
    rw [state, SeatMonitor.state_quiet]
    simp
  rw [whole, undue]

/-- A seat whose qualifiers are QUIET has no active record (R86). -/
theorem State.agrees.cleared_of_quiet (h : s.agrees) {p : Params} (quiet : s.monitor n = .quiet p) :
    ∀ r ∈ s.records, r.seat = n → r.state = .clearedUnacked := by
  intro r hr seat
  by_contra active
  obtain ⟨list, -, qualified⟩ := s.agrees_iff.1 h
  have held := (qualified n r.kind (mem_allKinds _)).2
    (.inr ⟨r, hr, by simp [Record.isFor, seat], by simpa [Record.active] using active⟩)
  rw [quiet, SeatMonitor.state_quiet] at held
  cases held

/-- A reply on the link of a state whose links differ by notices alone. -/
theorem State.repliesIn_onLink {v : State} {x : LinkId} {code : Byte} {st : ReplyStatus} {payload : List Byte}
    (links : ∀ y, v.link y = { (s.listening x).link y with notice := (v.link y).notice }) :
    s.repliesIn ((v.answer st payload).onLink x code) x code st payload := by
  intro y
  have own := links x
  rw [State.link_listening, if_pos rfl] at own
  have one := links y
  rw [State.link_listening] at one
  simp only [Served.onLink, State.answer, State.replied, State.link_putLink]
  split
  · rw [own]
    rfl
  · next other =>
    rw [if_neg other] at one
    exact one

theorem Params.lawful.dropoutLimit_pos {p : Params} (h : p.lawful) : 0 < p.dropoutLimit := by
  have range : (paramRange 14).1 ≤ p.dropoutLimit := (h.1 14 (by decide)).1
  exact Nat.lt_of_lt_of_le (by decide) range

end

end Sys2Proof.Machine
end

section
/-! UNBIND SEAT and BIND PACK (R9, R13, R15). -/

namespace Sys2Proof.Machine

section
variable {s : State}

/-- UNBIND SEAT of a bound seat (R15). -/
theorem serve_unbindSeat {x : LinkId} {seat : Byte} {rest : List Byte} {n : Seat} (role : s.technical x = true)
    (idle : s.loading = false) (hn : seat.toNat = n.val) :
    serve .unbindSeat x (seat :: rest) s = if s.bound n = true
      then (s.releaseSeat n).answer .ok ([seat] ++ packBytes (s.seat n).pack) else s.refuse .notFound := by
  simp only [serve, serveUnbindSeat, role, idle, seatOf_eq_some hn, Bool.not_true, Bool.false_eq_true, if_false,
    Bool.not_eq_true']
  by_cases bound : s.bound n = true <;> simp [bound]

end

/-- Settles O21: the released seat is restarted among the qualifiers, and being unbound none is judged afresh. -/
theorem unbindSeatReleases : Obligations.UnbindSeatReleases := by
  unfold Obligations.UnbindSeatReleases
  intro s x seat rest n lawful ready role idle hn
  have technical := State.technical_of_role role
  have serves := serve_unbindSeat (s := s.listening x) (rest := rest) ((s.technical_listening x).trans technical) idle hn
  refine ⟨fun unbound => congrArg Host.Outcome.next (State.requestReaches_of_answer ready (q := .unbindSeat) ?_),
    fun pack held => ?_⟩
  · rw [serves, if_neg (by simp [State.bound, unbound])]
    rfl
  · let u : State := s.listening x
    have bound : u.bound n = true := by simp [u, State.bound, held]
    have frame := u.releaseSeat_frame n
    have agrees : (u.releaseTables n).agrees := lawful.warningLaws.agrees.of_sameWarnings (State.sameWarnings_of_eq rfl rfl)
    have fresh : ((u.releaseTables n).seat n).fresh := by
      rw [State.seat_releaseTables, if_pos rfl]
      exact SeatRecord.fresh_release _
    have mute : ∀ m, (m == n) = true → ((u.releaseTables n).seat m).mute ≠ .opened := fun m hm => by
      obtain rfl : m = n := by simpa using hm
      simp [fresh.mute]
    have monitor : (u.releaseSeat n).monitor n = .quiet s.params :=
      State.monitor_restartMonitors agrees mute (by simp) fresh lawful.params.dropoutLimit_pos
    have agrees' : (u.releaseSeat n).agrees := agrees.restartMonitors mute
    refine ⟨((u.releaseSeat n).answer .ok (seat :: bytes3 pack.toNat)).onLink x Request.unbindSeat.code, ?_, ?_,
      fun m hm => ?_, ?_, monitor, agrees'.cleared_of_quiet monitor, ?_, ?_⟩
    · refine congrArg Host.Outcome.next ((State.requestReaches_of_ready ready .unbindSeat _).trans ?_)
      rw [serves, if_pos bound, packBytes_eq, State.seat_listening, held]
      rfl
    · refine (State.onlyMonitorAndList_seat frame n).trans ?_
      rw [State.seat_releaseTables, if_pos rfl, SeatRecord.release_eq]
      rfl
    · refine (State.onlyMonitorAndList_seat frame m).trans ?_
      rw [State.seat_releaseTables, if_neg hm]
      rfl
    · exact State.onlyMonitorAndList_floor frame
    · exact State.repliesIn_onLink frame.2
    · obtain ⟨core, -⟩ := frame
      generalize u.releaseSeat n = v at core ⊢
      rw [core]
      rfl

/-! ## BIND PACK -/

theorem packBytes_packOf (hi mid lo : Byte) : packBytes (some (packOf hi mid lo)) = [hi, mid, lo] := by
  have h1 := hi.isLt
  have h2 := mid.isLt
  have h3 := lo.isLt
  have value : (packOf hi mid lo).toNat = hi.toNat * 65536 + mid.toNat * 256 + lo.toNat := by
    simp only [packOf, BitVec.toNat_ofNat]
    omega
  simp only [packBytes, Option.getD_some, bytes3, value, byte, List.cons.injEq, and_true]
  refine ⟨BitVec.eq_of_toNat_eq ?_, BitVec.eq_of_toNat_eq ?_, BitVec.eq_of_toNat_eq ?_⟩ <;>
    simp only [BitVec.toNat_ofNat] <;> omega

section
variable {s : State} {x : LinkId} {seat hi mid lo move : Byte} {rest : List Byte} {n : Seat}
  (role : s.technical x = true) (idle : s.loading = false) (hn : seat.toNat = n.val)
include role idle hn

/-- BIND PACK of a pack that is no pack (R13). -/
theorem serve_bindPack_invalid (invalid : validPack (packOf hi mid lo) = false) :
    serve .bindPack x (seat :: hi :: mid :: lo :: move :: rest) s = s.refuse .range := by
  simp only [serve, serveBindPack, role, idle, seatOf_eq_some hn, invalid, Bool.not_true, Bool.not_false,
    Bool.false_eq_true, if_false, if_true]

/-- BIND PACK of a pack, by where it is bound already (R13). -/
theorem serve_bindPack (valid : validPack (packOf hi mid lo) = true) :
    serve .bindPack x (seat :: hi :: mid :: lo :: move :: rest) s =
      if s.seatOfPack (packOf hi mid lo) = some n then
        ({ s with freeCount := s.freeCount + 1 } : State).answer .ok
          ([seat, hi, mid, lo, 0xFF] ++ bytes3 (Config.rebindPreviousPack s.freeCount).val)
      else if (s.seatOfPack (packOf hi mid lo)).isSome = true ∧ move = 0 then
        s.answer .inUse [seatByte (s.seatOfPack (packOf hi mid lo))]
      else (s.bindSeat n (packOf hi mid lo) (s.seatOfPack (packOf hi mid lo))).answer .ok
        ([seat, hi, mid, lo] ++ [seatByte (s.seatOfPack (packOf hi mid lo))] ++ packBytes (s.seat n).pack) := by
  simp only [serve, serveBindPack, role, idle, seatOf_eq_some hn, valid, packBytes_packOf, Bool.not_true,
    Bool.false_eq_true, if_false, Bool.and_eq_true, beq_iff_eq]
  rfl

end

theorem validPack_iff {p : PackId} : validPack p = true ↔ p ≠ 0 ∧ p ≠ 0xFFFFFF := by
  simp [validPack]

/-- Settles O20: the seats concerned are fresh, so that their qualifiers come out of the restart QUIET. -/
theorem bindPackThreeWays : Obligations.BindPackThreeWays := by
  unfold Obligations.BindPackThreeWays
  refine ⟨fun s x seat hi mid lo move rest n lawful ready role idle hn zero ones elsewhere away => ?_,
    fun s x seat hi mid lo move rest n binding ready role idle hn => ?_⟩
  all_goals
    have technical := (s.technical_listening x).trans (State.technical_of_role role)
    have serves := fun valid => serve_bindPack (s := s.listening x) (hi := hi) (mid := mid) (lo := lo) (move := move)
      (rest := rest) technical idle hn valid
  · generalize hp : packOf hi mid lo = pack at *
    have valid : validPack pack = true := validPack_iff.2 ⟨zero, ones⟩
    have found := State.seatOfPack_eq_some lawful.binding pack
    let u : State := s.listening x
    let source := s.seatOfPack pack
    have new : source ≠ some n := fun here => elsewhere ((found n).1 here)
    have frame := u.bindSeat_frame n pack source
    have tables := u.bindTables_eq n pack source
    have agrees : (u.bindTables n pack source).agrees := by
      rw [tables]
      exact lawful.warningLaws.agrees.of_sameWarnings (State.sameWarnings_of_eq rfl rfl)
    have fresh : ∀ m, m = n ∨ source = some m → ((u.bindTables n pack source).seat m).fresh := fun m hm => by
      rw [State.seat_bindTables _ _ new]
      split
      · exact SeatRecord.fresh_restart _
      · next other =>
        rw [if_pos (hm.resolve_left other)]
        exact SeatRecord.fresh_release _
    have params : (u.bindTables n pack source).params = s.params := by
      rw [tables]
      rfl
    have mute : ∀ m, (m == n || source == some m) = true → ((u.bindTables n pack source).seat m).mute ≠ .opened :=
      fun m hm => by
        have concerned : m = n ∨ source = some m := by simpa using hm
        simp [(fresh m concerned).mute]
    have monitor : ∀ m, m = n ∨ source = some m → (u.bindSeat n pack source).monitor m = .quiet s.params := fun m hm => by
      rw [← params]
      exact State.monitor_restartMonitors agrees mute (by simpa using hm) (fresh m hm)
        (params ▸ lawful.params.dropoutLimit_pos)
    have agrees' : (u.bindSeat n pack source).agrees := agrees.restartMonitors mute
    refine ⟨((u.bindSeat n pack source).answer .ok
      ([seat, hi, mid, lo] ++ [seatByte source] ++ packBytes (s.seat n).pack)).onLink x Request.bindPack.code, source,
      ?_, found, ?_, fun m hm => ?_, fun m hm off => ?_, ?_, ?_, monitor, fun r hr concerned => ?_, ?_, ?_⟩
    · refine congrArg Host.Outcome.next ((State.requestReaches_of_ready ready .bindPack _).trans ?_)
      have kept : ¬((s.seatOfPack pack).isSome = true ∧ move = 0) := fun ⟨held, stays⟩ => by
        obtain ⟨m, hm⟩ := Option.isSome_iff_exists.1 held
        exact away stays m ((found m).1 hm)
      rw [serves valid, State.seatOfPack_listening, if_neg new, if_neg kept]
      rfl
    · refine (State.onlyMonitorAndList_seat frame n).trans ?_
      rw [State.seat_bindTables _ _ new, if_pos rfl, SeatRecord.restart_eq]
      rfl
    · refine (State.onlyMonitorAndList_seat frame m).trans ?_
      have other : m ≠ n := fun same => new (same ▸ hm)
      rw [State.seat_bindTables _ _ new, if_neg other, if_pos hm, SeatRecord.release_eq]
      rfl
    · refine (State.onlyMonitorAndList_seat frame m).trans ?_
      rw [State.seat_bindTables _ _ new, if_neg hm, if_neg off]
      rfl
    · have strays : (u.bindSeat n pack source).strays = (u.bindTables n pack source).strays := by rw [frame.1]
      exact strays.trans (u.strays_bindTables n pack source)
    · exact (State.onlyMonitorAndList_floor frame).trans (u.floor_bindTables n pack source)
    · rcases concerned with here | here
      · exact agrees'.cleared_of_quiet (monitor n (.inl rfl)) r hr here
      · exact agrees'.cleared_of_quiet (monitor r.seat (.inr here)) r hr rfl
    · have links : (u.bindTables n pack source).links = u.links := by rw [tables]
      have link : ∀ y, (u.bindTables n pack source).link y = u.link y := fun y => by rw [State.link, links, State.link]
      have replies : ∀ payload, payload = [seat, hi, mid, lo] ++ [seatByte source] ++ packBytes (s.seat n).pack →
          s.repliesIn (((u.bindSeat n pack source).answer .ok
            ([seat, hi, mid, lo] ++ [seatByte source] ++ packBytes (s.seat n).pack)).onLink x Request.bindPack.code)
            x 0x03 .ok payload := by
        rintro _ rfl
        refine State.repliesIn_onLink fun y => ?_
        rw [← link y]
        exact frame.2 y
      refine replies _ ?_
      rw [packBytes_eq]
      cases source <;> cases (s.seat n).pack <;> rfl
    · obtain ⟨core, -⟩ := frame
      rw [tables] at core
      generalize u.bindSeat n pack source = v at core ⊢
      rw [core]
      rfl
  · have found := State.seatOfPack_eq_some binding (packOf hi mid lo)
    refine ⟨fun invalid => ?_, fun m other held stays => ?_, fun held => ?_⟩
    · have off : validPack (packOf hi mid lo) = false := by
        rw [← Bool.not_eq_true, validPack_iff]
        tauto
      refine congrArg Host.Outcome.next (State.requestReaches_of_answer ready (q := .bindPack) ?_)
      rw [serve_bindPack_invalid technical idle hn off]
      rfl
    · have valid : validPack (packOf hi mid lo) = true := binding.2 m _ held
      have source := (found m).2 held
      refine congrArg Host.Outcome.next (State.requestReaches_of_answer ready (q := .bindPack) ?_)
      rw [serves valid, State.seatOfPack_listening, source, if_neg (by simpa using other),
        if_pos ⟨rfl, stays⟩]
      rfl
    · have valid : validPack (packOf hi mid lo) = true := binding.2 n _ held
      have source := (found n).2 held
      let free := Config.rebindPreviousPack s.freeCount
      have small : free.val < 16777215 := free.isLt
      have value : (BitVec.ofNat 24 free.val).toNat = free.val := by
        rw [BitVec.toNat_ofNat]
        omega
      refine ⟨s.freeCount + 1, BitVec.ofNat 24 free.val, fun same => ?_, ?_⟩
      · have := congrArg BitVec.toNat same
        rw [value] at this
        exact absurd this (Nat.ne_of_lt small)
      · refine congrArg Host.Outcome.next (State.requestReaches_of_answer
          (t := { s with freeCount := s.freeCount + 1 }) ready (q := .bindPack) ?_)
        rw [serves valid, State.seatOfPack_listening, source, if_pos rfl, value]
        rfl

end Sys2Proof.Machine
end

section
/-! A quarter tick in every order of the blocks is an advance of some seats, the monitor's part, and the advance of the
others (R5, R59, R61, R119). -/

namespace Sys2Proof.Machine

/-! ## One seat's advance -/

/-- The advance of a seat, field by field (R5, R6, R7). -/
theorem tickedSeat_eq (p : Params) (r : SeatRecord) : tickedSeat p r = r.advance p.fadeTime p.lostTime := by
  obtain ⟨group, pack, signal, silence, seq, level, mute, raw, voice, dropouts, est⟩ := r
  cases signal with
  | noPack => rfl
  | seeking => simp [tickedSeat, SeatRecord.advance, bump]
  | lost => simp [tickedSeat, SeatRecord.advance, bump]
  | fading =>
    by_cases lost : p.lostTime ≤ min 255 (silence + 1) <;>
      simp [tickedSeat, SeatRecord.advance, bump, SeatRecord.enterLost, lost]
  | heard =>
    by_cases fades : p.fadeTime ≤ min 255 (silence + 1)
    · by_cases lost : p.lostTime ≤ min 255 (silence + 1) <;> cases seq <;> cases level <;>
        simp [tickedSeat, SeatRecord.advance, bump, SeatRecord.enterFading, SeatRecord.closeSequence,
          SeatRecord.enterLost, lost, fades, foldLevel]
    · simp [tickedSeat, SeatRecord.advance, bump, fades]

section
variable (p : Params) (r : SeatRecord)

theorem tickedSeat_fixed : (tickedSeat p r).est = r.est ∧ (tickedSeat p r).dropouts = r.dropouts
    ∧ (tickedSeat p r).pack = r.pack := by
  simp only [tickedSeat]
  split <;> exact ⟨rfl, rfl, rfl⟩

theorem tickedSeat_lost (h : r.signal = .lost) : (tickedSeat p r).signal = .lost := by
  simp [tickedSeat, h]

/-- A seat that the tick does not lose keeps its mute and voice (R7). -/
theorem tickedSeat_spoken (h : (tickedSeat p r).signal ≠ .lost) :
    (tickedSeat p r).mute = r.mute ∧ (tickedSeat p r).voice = r.voice := by
  simp only [tickedSeat] at h ⊢
  split at h
  · next off => simp [off]
  · next on =>
    have stays : ((r.signal == .fading || (r.signal == .heard && decide (p.fadeTime ≤ min 255 (r.silence + 1))))
        && decide (p.lostTime ≤ min 255 (r.silence + 1))) = false := by
      by_contra loses
      rw [Bool.not_eq_false] at loses
      exact h (by simp only [loses, if_true])
    simp only [if_neg on, stays, Bool.false_eq_true, if_false, Bool.not_false, Bool.true_and, and_self]

theorem tickedSeat_not_opened (h : r.mute ≠ .opened) : (tickedSeat p r).mute ≠ .opened := by
  simp only [tickedSeat]
  split
  · exact h
  · simp only
    split
    · simp
    · exact h

end

/-! ## The orders -/

/-- The seats that the Seat Table advances before the monitor's part (R61). -/
def advancedFirst : TickOrder → Seat → Bool
  | .seatTableFirst => everyone
  | .monitorFirst => fun _ => false
  | .seatBySeat first => fun n => !first.getLsbD n.val

section
variable {s t : State}

theorem changedKinds_self (r : SeatRecord) : changedKinds r r = .nothing := by
  simp only [changedKinds, bne_self_eq_false, Bool.or_false]
  rfl

/-- With no kind to judge an event does nothing. -/
theorem State.evaluate_of_nothing (tick : Bool) {kinds : Seat → PerKind Bool} (h : ∀ n, kinds n = .nothing) :
    s.evaluate tick kinds = s := by
  have still : ∀ n, s.evaluated tick kinds n = (s.monitor n, []) := fun n => by
    rw [State.evaluated, h, State.evaluateSeat_nothing, ite_self]
  have same : (Vector.ofFn fun n : Seat => s.monitors[n]) = s.monitors := by
    ext i hi
    simp
  have all : s.evaluateAll tick kinds = s := by
    simp only [State.evaluateAll, State.mapMonitors, still, State.monitor, same]
  have none : s.outcomes tick kinds = [] := by simp [State.outcomes, still]
  simp [State.evaluate, all, none]

theorem State.advanceSeats_nobody : (s.advanceSeats fun _ => false) = s := by
  have same : (Vector.ofFn fun n : Seat => s.seats[n]) = s.seats := by
    ext i hi
    simp
  have seats : (s.mapSeats fun _ r => r) = s := by simp only [State.mapSeats, same]
  simp only [State.advanceSeats, State.changeSeats, Bool.false_eq_true, if_false, seats, changedKinds_self]
  exact State.evaluate_of_nothing false fun _ => rfl

/-- The three parts of a quarter tick (R61). -/
theorem State.quarterWork_eq (order : TickOrder) : s.quarterWork order =
    ((s.advanceSeats (advancedFirst order)).countSeats).advanceSeats fun n => !advancedFirst order n := by
  cases order with
  | seatTableFirst => exact State.advanceSeats_nobody.symm
  | monitorFirst =>
    simp only [State.quarterWork, advancedFirst, State.advanceSeats_nobody, Bool.not_false]
    rfl
  | seatBySeat first => simp only [State.quarterWork, advancedFirst, Bool.not_not]

theorem State.advanceSeats_frame (who : Seat → Bool) : State.onlyMonitorAndList
    { s with seats := (s.advanceSeats who).seats } (s.advanceSeats who) := by
  have frame := s.changeSeats_spec fun n r => if who n then r.advance s.params.fadeTime s.params.lostTime else r
  have seats : (s.advanceSeats who).seats = (s.mapSeats fun n r =>
      if who n then r.advance s.params.fadeTime s.params.lostTime else r).seats := by
    rw [State.advanceSeats, frame.1]
  rw [seats]
  simp only [State.mapSeats] at frame ⊢
  exact frame

theorem State.seat_advanceSeats (who : Seat → Bool) (n : Seat) :
    (s.advanceSeats who).seat n = if who n then tickedSeat s.params (s.seat n) else s.seat n := by
  rw [State.advanceSeats, State.seat_changeSeats, tickedSeat_eq]

theorem State.params_advanceSeats (who : Seat → Bool) : (s.advanceSeats who).params = s.params := by
  have params := State.onlyMonitorAndList_params (s.advanceSeats_frame who)
  exact params

theorem State.seat_countSeats (n : Seat) : s.countSeats.seat n = s.seat n :=
  State.onlyMonitorAndList_seat (s.onlyMonitorAndList_evaluate ..) n

/-- Every seat is advanced once (R5, R61). -/
theorem State.seat_quarterWork (order : TickOrder) (n : Seat) :
    (s.quarterWork order).seat n = tickedSeat s.params (s.seat n) := by
  have params : (s.advanceSeats (advancedFirst order)).countSeats.params = s.params :=
    (State.onlyMonitorAndList_params (State.onlyMonitorAndList_evaluate ..)).trans (s.params_advanceSeats _)
  rw [State.quarterWork_eq, State.seat_advanceSeats, params, State.seat_countSeats, State.seat_advanceSeats]
  cases advancedFirst order n <;> simp

/-- A frame in which the seats may change. -/
theorem State.onlyMonitorAndList.withSeats {v : Vector SeatRecord 128}
    (h : State.onlyMonitorAndList { s with seats := v } t) : State.onlyMonitorAndList { s with seats := t.seats } t := by
  have seats : t.seats = v := by rw [h.1]
  rwa [seats]

theorem State.frame_withSeats_trans {u : State} (h : State.onlyMonitorAndList { s with seats := t.seats } t)
    (g : State.onlyMonitorAndList { t with seats := u.seats } u) :
    State.onlyMonitorAndList { s with seats := u.seats } u := by
  refine ⟨?_, fun x => ?_⟩
  · rw [g.1, h.1]
  · have first := h.2 x
    have second := g.2 x
    change t.link x = { s.link x with notice := (t.link x).notice } at first
    change u.link x = { t.link x with notice := (u.link x).notice } at second
    rw [second, first]
    rfl

theorem State.quarterWork_frame (order : TickOrder) : State.onlyMonitorAndList
    { s with seats := (s.quarterWork order).seats } (s.quarterWork order) := by
  rw [State.quarterWork_eq]
  have counted : State.onlyMonitorAndList (s.advanceSeats (advancedFirst order)) (s.advanceSeats (advancedFirst order)).countSeats :=
    State.onlyMonitorAndList_evaluate ..
  have first := State.frame_withSeats_trans (t := s.advanceSeats (advancedFirst order))
    (s.advanceSeats_frame _) (State.onlyMonitorAndList.withSeats counted)
  exact State.frame_withSeats_trans first (State.advanceSeats_frame _)

end

end Sys2Proof.Machine
end

section
/-! One evaluation, whole with the list's work after it, on one kind of one seat: the judgement's outcome stays, but for
the due mark and for an OPEN_NO_FLOOR whose record a clearing takes out of the list (R59, R62, R74). -/

namespace Sys2Proof.Machine

/-- A kind's part but for its due mark. -/
def SeatMonitor.core (m : SeatMonitor) (k : Kind) : KindPart := { m.part k with due := false }

section
variable {m m' : SeatMonitor} {k : Kind}

theorem SeatMonitor.core_eq (m : SeatMonitor) (k : Kind) :
    m.core k = ⟨m.state.get k, false, m.pvOf k, gradeOf k m, m.heldOf k, m.markOf k⟩ := rfl

theorem SeatMonitor.core_of_part (h : m.part k = m'.part k) : m.core k = m'.core k := by
  rw [SeatMonitor.core, SeatMonitor.core, h]

theorem SeatMonitor.core_due (m : SeatMonitor) (due : PerKind Bool) (k : Kind) :
    ({ m with due := due } : SeatMonitor).core k = m.core k := by
  cases k <;> rfl

theorem SeatMonitor.core_dropDue (m : SeatMonitor) (j : Kind) (v : Option Verdict) (k : Kind) :
    (m.dropDue j v).core k = m.core k := by
  simp only [SeatMonitor.dropDue]
  split
  · exact m.core_due _ k
  · rfl

theorem SeatMonitor.core_openReset (m : SeatMonitor) (q : QState) {k : Kind} (h : k ≠ .openNoFloor) :
    (m.openReset q).core k = m.core k := by
  cases k <;> first | rfl | exact absurd rfl h

/-- Judging a kind does not read the due marks. -/
theorem State.judgeKind_due (s : State) (tick : Bool) (n : Seat) (k : Kind) (m : SeatMonitor) (due : PerKind Bool) :
    s.judgeKind tick n k { m with due := due }
      = ({ (s.judgeKind tick n k m).1 with due := due }, (s.judgeKind tick n k m).2) := by
  cases k with
  | battery => rfl
  | batteryShortfall =>
    simp only [State.judgeKind, State.judgeShortfall]
    split <;> rfl
  | mutedSpeech =>
    simp only [State.judgeKind]
    split <;> rfl
  | openNoFloor =>
    simp only [State.judgeKind, State.judgeOpenNoFloor]
    split
    · split <;> rfl
    · rfl
  | signalWeak => rfl
  | dropouts =>
    simp only [State.judgeKind, State.judgeDropouts]
    split
    · split <;> rfl
    · rfl
  | signalLost =>
    simp only [State.judgeKind, State.judgeSignalLost]
    split
    · split <;> rfl
    · rfl

section
variable (h : m.core k = m'.core k)
include h

theorem SeatMonitor.state_of_core : m.state.get k = m'.state.get k := congrArg KindPart.state h

theorem SeatMonitor.pv_of_core : m.pvOf k = m'.pvOf k := congrArg KindPart.pv h

theorem SeatMonitor.held_of_core : m.heldOf k = m'.heldOf k := congrArg KindPart.held h

theorem SeatMonitor.mark_of_core : m.markOf k = m'.markOf k := congrArg KindPart.mark h

theorem SeatMonitor.grade_of_core : gradeOf k m = gradeOf k m' := congrArg KindPart.grade h

/-- A judgement depends on the part of its kind but for the due mark. -/
theorem State.core_judgeKind (s : State) (tick : Bool) (n : Seat) :
    (s.judgeKind tick n k m).1.core k = (s.judgeKind tick n k m').1.core k
      ∧ (s.judgeKind tick n k m).2 = (s.judgeKind tick n k m').2 := by
  have same : ({ m with due := m'.due } : SeatMonitor).part k = m'.part k := by
    have core := (m.core_due m'.due k).trans h
    refine KindPart.ext (SeatMonitor.state_of_core core) rfl (SeatMonitor.pv_of_core core) ?_
      (SeatMonitor.held_of_core core) (SeatMonitor.mark_of_core core)
    exact SeatMonitor.grade_of_core core
  obtain ⟨part, verdict⟩ := s.judgeKind_congr tick n same
  rw [State.judgeKind_due] at part verdict
  have core := SeatMonitor.core_of_part part
  rw [SeatMonitor.core_due] at core
  exact ⟨core, verdict⟩

end

end

section
variable {s t : State}

/-- The list's work leaves the part of every kind but OPEN_NO_FLOOR, its due mark apart. -/
theorem State.listWork.core (g : s.listWork t) (n : Seat) {k : Kind} (h : k ≠ .openNoFloor) :
    (t.monitor n).core k = (s.monitor n).core k := by
  rcases g.monitors n with same | reset
  · rw [same, SeatMonitor.core_due]
  · rw [reset, SeatMonitor.core_due, SeatMonitor.core_openReset _ _ h]

/-! ## OPEN_NO_FLOOR through the list's work -/

/-- Outcomes among which none clears OPEN_NO_FLOOR of a seat. -/
def keepsOpen (n : Seat) (os : List HandedOutcome) : Prop :=
  ∀ o ∈ os, ¬(o.seat = n ∧ o.kind = .openNoFloor ∧ o.verdict = .cleared)

theorem State.core_putDue (n m : Seat) (k j : Kind) (d : Bool) :
    ((s.putDue n k d).monitor m).core j = (s.monitor m).core j := by
  rw [State.monitor_putDue]
  split
  · next h => rw [SeatMonitor.core_due, h]
  · rfl

theorem State.core_setDue (n m : Seat) (k j : Kind) : ((s.setDue n k).monitor m).core j = (s.monitor m).core j := by
  rw [State.monitor_setDue, State.core_putDue]

theorem State.core_fillPlaces (places : Nat) (m : Seat) (j : Kind) :
    ∀ s : State, ((State.fillPlaces places s).monitor m).core j = (s.monitor m).core j := by
  induction places with
  | zero => exact fun _ => rfl
  | succ places ih =>
    intro s
    simp only [State.fillPlaces]
    split
    · rfl
    · rw [ih]
      exact State.core_putDue ..

theorem State.core_removeRecord {n m : Seat} {k j : Kind} (h : ¬(n = m ∧ k = .openNoFloor)) :
    ((s.removeRecord n k).monitor m).core j = (s.monitor m).core j := by
  rw [State.monitor_removeRecord, if_neg]
  exact fun here => h ⟨here.2.symm, here.1⟩

theorem State.core_applyOutcome {o : HandedOutcome} {m : Seat} (j : Kind)
    (keeps : ¬(o.seat = m ∧ o.kind = .openNoFloor ∧ o.verdict = .cleared)) :
    ((s.applyOutcome o).monitor m).core j = (s.monitor m).core j := by
  simp only [State.applyOutcome]
  split
  · simp only [State.raise]
    split
    · rfl
    · exact State.core_setDue ..
  · split <;> rfl
  · rfl
  · split <;> rfl
  · rfl
  · next cleared _ =>
    split
    · rfl
    · exact State.core_removeRecord fun here => keeps ⟨here.1, here.2, cleared⟩
    · rfl

theorem State.core_applyHanded (os : List HandedOutcome) {m : Seat} (j : Kind) :
    ∀ {freed : Bool} {s : State}, keepsOpen m os → ((s.applyHanded freed os).monitor m).core j = (s.monitor m).core j := by
  induction os with
  | nil => exact fun _ => rfl
  | cons o os ih =>
    intro freed s keeps
    obtain ⟨first, rest⟩ := List.forall_mem_cons.1 keeps
    have one := State.core_applyOutcome (s := s) j first
    simp only [State.applyHanded]
    split
    · split
      · rw [ih rest, one]
      · rw [ih rest, State.fillFreed, State.core_fillPlaces, one]
    · rw [ih rest, one]

/-! ## An evaluation on one kind of one seat -/

/-- The qualifiers `m` of a seat after the judgement of a kind, if it is asked for, where the list takes no
OPEN_NO_FLOOR record out. -/
def State.stepped (u : State) (tick : Bool) (kinds : PerKind Bool) (n : Seat) (k : Kind) (m m' : SeatMonitor) : Prop :=
  (k = .openNoFloor → (u.judgeKind tick n k m).2 ≠ some .cleared) →
    m'.core k = if (u.evaluates n && kinds.get k) = true then (u.judgeKind tick n k m).1.core k else m.core k

theorem State.core_evaluateAll (tick : Bool) (kinds : Seat → PerKind Bool) (n : Seat) (k : Kind) :
    ((s.evaluateAll tick kinds).monitor n).core k = if (s.evaluates n && (kinds n).get k) = true
      then (s.judgeKind tick n k (s.monitor n)).1.core k else (s.monitor n).core k := by
  have part := s.part_evaluateAll tick kinds n k
  rw [State.judges] at part
  split
  · next judged =>
    rw [if_pos judged] at part
    rw [SeatMonitor.core_of_part part, State.evaluateKind, SeatMonitor.core_dropDue]
  · next off =>
    rw [if_neg off] at part
    exact SeatMonitor.core_of_part part

/-- An evaluation steps every kind of every seat. -/
theorem State.stepped_evaluate (tick : Bool) (kinds : Seat → PerKind Bool) (n : Seat) (k : Kind) :
    s.stepped tick (kinds n) n k (s.monitor n) ((s.evaluate tick kinds).monitor n) := by
  intro keeps
  rw [← s.core_evaluateAll tick kinds n k]
  by_cases opened : k = .openNoFloor
  · subst opened
    refine State.core_applyHanded _ _ fun o ho here => ?_
    obtain ⟨seat, kind, cleared⟩ := here
    obtain ⟨-, mem⟩ := (s.mem_outcomes tick kinds).1 ho
    rw [seat, kind] at mem
    obtain ⟨v, verdict, -, own⟩ := (s.mem_evaluateKind tick n).1 mem
    refine keeps rfl (verdict.trans ?_)
    rw [← cleared, own]
  · exact (State.listWork_applyOutcomes ..).core n opened

end

end Sys2Proof.Machine
end

section
/-! The quarter tick on one kind of one seat: an event, the countdown, and an event, of which one of the events judges
nothing (R60 to R63). -/

namespace Sys2Proof.Machine

/-! ## The three evaluations -/

/-- Two states in which a seat's conditions read the same but for its record. -/
structure State.like (s u : State) (n : Seat) : Prop where
  params : u.params = s.params
  sitting : u.sitting = s.sitting
  floor : u.onFloor n = s.onFloor n
  bound : u.bound n = s.bound n

/-- The three evaluations of a quarter tick on one kind of one seat, in states `u`, `v` and `w`: the seat has been
advanced in `u` or is advanced in `w`. -/
structure State.tickSteps (s u v w : State) (n : Seat) (k : Kind) (m₁ m₂ m' : SeatMonitor) : Prop where
  first : s.like u n
  tick : s.like v n
  last : s.like w n
  before : u.seat n = s.seat n ∨ u.seat n = tickedSeat s.params (s.seat n)
  between : v.seat n = u.seat n
  after : w.seat n = tickedSeat s.params (s.seat n)
  event : u.stepped false (changedKinds (s.seat n) (u.seat n)) n k (s.monitor n) m₁
  count : v.stepped true quarterKinds n k m₁ m₂
  settle : w.stepped false (changedKinds (u.seat n) (w.seat n)) n k m₂ m'

section
variable {s t u v w : State} {n : Seat} {k : Kind} {m m₁ m₂ m' : SeatMonitor}

theorem State.like.trans (h : s.like t n) (g : t.like u n) : s.like u n :=
  ⟨g.params.trans h.params, g.sitting.trans h.sitting, g.floor.trans h.floor, g.bound.trans h.bound⟩

theorem State.like_of_frame (h : s.onlyMonitorAndList t) : s.like t n :=
  ⟨State.onlyMonitorAndList_params h, State.onlyMonitorAndList_sitting h, State.onlyMonitorAndList_onFloor h n,
    State.onlyMonitorAndList_bound h n⟩

/-- The states of an advance differ in the seats alone, and no pack changes (R5). -/
theorem State.like_mapSeats {f : Seat → SeatRecord → SeatRecord} (pack : ∀ n r, (f n r).pack = r.pack) (n : Seat) :
    s.like (s.mapSeats f) n :=
  ⟨State.mapSeats_params .., State.mapSeats_sitting .., by simp only [State.onFloor, State.mapSeats_floor],
    by rw [State.bound, State.seat_mapSeats, pack, State.bound]⟩

/-- The seats that an advance picks, advanced. -/
def State.advanced (s : State) (who : Seat → Bool) : State :=
  s.mapSeats fun n r => if who n then r.advance s.params.fadeTime s.params.lostTime else r

theorem State.like_advanced (who : Seat → Bool) (n : Seat) : s.like (s.advanced who) n :=
  State.like_mapSeats (fun n r => by split <;> first | exact SeatRecord.pack_advance .. | rfl) n

theorem State.seat_advanced (who : Seat → Bool) (n : Seat) :
    (s.advanced who).seat n = if who n then tickedSeat s.params (s.seat n) else s.seat n := by
  rw [State.advanced, State.seat_mapSeats, tickedSeat_eq]

theorem State.like_advanceSeats (who : Seat → Bool) (n : Seat) : s.like (s.advanceSeats who) n :=
  (State.like_advanced who n).trans (State.like_of_frame (State.onlyMonitorAndList_evaluate ..))

/-- An advance is an event that judges what has changed (R4, R5). -/
theorem State.stepped_advanceSeats (who : Seat → Bool) (n : Seat) (k : Kind) :
    (s.advanced who).stepped false (changedKinds (s.seat n) ((s.advanced who).seat n)) n k (s.monitor n)
      ((s.advanceSeats who).monitor n) := by
  have step := (s.advanced who).stepped_evaluate false (fun m => changedKinds (s.seat m)
    (if who m then (s.seat m).advance s.params.fadeTime s.params.lostTime else s.seat m)) n k
  have monitor : (s.advanced who).monitor n = s.monitor n := by
    rw [State.monitor, State.advanced, State.mapSeats_monitors, State.monitor]
  rw [monitor, ← tickedSeat_eq, ← State.seat_advanced] at step
  exact step

/-- The three evaluations that a quarter tick makes of a seat, whatever the order of the blocks (R61). -/
theorem State.tickSteps_quarterWork (s : State) (order : TickOrder) (n : Seat) (k : Kind) :
    ∃ u v w m₁ m₂, s.tickSteps u v w n k m₁ m₂ ((s.quarterWork order).monitor n) := by
  let b := s.advanceSeats (advancedFirst order)
  let c := b.countSeats
  have likeB : s.like b n := State.like_advanceSeats _ n
  have likeC : s.like c n := likeB.trans (State.like_of_frame (State.onlyMonitorAndList_evaluate ..))
  have seatU := State.seat_advanced (s := s) (advancedFirst order) n
  have seatB : b.seat n = (s.advanced (advancedFirst order)).seat n := by rw [State.seat_advanceSeats, seatU]
  have seatC : c.seat n = b.seat n := State.seat_countSeats n
  have last := State.stepped_advanceSeats (s := c) (fun m => !advancedFirst order m) n k
  have seatW := State.seat_advanced (s := c) (fun m => !advancedFirst order m) n
  rw [seatC, seatB] at last
  rw [State.quarterWork_eq]
  refine ⟨s.advanced (advancedFirst order), b, c.advanced fun m => !advancedFirst order m, b.monitor n, c.monitor n,
    ⟨State.like_advanced _ n, likeB, likeC.trans (State.like_advanced _ n), ?_, seatB, ?_,
      State.stepped_advanceSeats _ n k, State.stepped_evaluate true _ n k, last⟩⟩
  · rw [seatU]
    split
    · exact .inr rfl
    · exact .inl rfl
  · rw [seatW, seatC, seatB, seatU, likeC.params]
    cases advancedFirst order n <;> simp

theorem State.like.evaluates (h : s.like u n) : u.evaluates n = s.evaluates n := by
  rw [State.evaluates, h.sitting, h.bound, State.evaluates]

/-- A kind that is judged moves by its judgement. -/
theorem State.stepped.judged {tick : Bool} {kinds : PerKind Bool} (g : u.stepped tick kinds n k m m')
    (on : u.evaluates n = true) (asked : kinds.get k = true)
    (keeps : k = .openNoFloor → (u.judgeKind tick n k m).2 ≠ some .cleared) :
    m'.core k = (u.judgeKind tick n k m).1.core k := by
  rw [g keeps, if_pos (by rw [on, asked]; rfl)]

/-- A kind moves by its judgement or stays. -/
theorem State.stepped.cases {tick : Bool} {kinds : PerKind Bool} (g : u.stepped tick kinds n k m m')
    (keeps : k = .openNoFloor → (u.judgeKind tick n k m).2 ≠ some .cleared) :
    m'.core k = (u.judgeKind tick n k m).1.core k ∨ m'.core k = m.core k := by
  rw [g keeps]
  split
  · exact .inl rfl
  · exact .inr rfl

/-! ## RESETTING qualifiers (R60) -/

/-- The state and the present value of a kind. -/
def SeatMonitor.figure (m : SeatMonitor) (k : Kind) : QState × Nat := (m.state.get k, m.pvOf k)

theorem SeatMonitor.figure_of_core (h : m.core k = m'.core k) : m.figure k = m'.figure k :=
  Prod.ext (SeatMonitor.state_of_core h) (SeatMonitor.pv_of_core h)

/-- The set value of a RESETTING kind. -/
def Params.setValueOf (p : Params) : Kind → Nat
  | .battery => p.batteryQualify
  | .mutedSpeech => p.mutedSpeechQualify
  | .signalWeak => p.weakQualify
  | .batteryShortfall | .openNoFloor | .dropouts | .signalLost => 0

/-- The state and present value that an evaluation makes of a RESETTING qualifier. -/
def resetFigure (tick : Bool) (setValue : Nat) (holds clears : Bool) (f : QState × Nat) : QState × Nat :=
  ((resetting tick setValue holds clears f.1 f.2).1, (resetting tick setValue holds clears f.1 f.2).2.1)

/-- A RESETTING kind that is judged moves as R60 gives. -/
theorem State.figure_judgeKind (u : State) (tick : Bool) (n : Seat) (m : SeatMonitor) (hk : resettingKind k = true) :
    (u.judgeKind tick n k m).1.figure k = m.figure k ∨ ∃ holds clears,
      (u.judgeKind tick n k m).1.figure k = resetFigure tick (u.params.setValueOf k) holds clears (m.figure k) := by
  cases k with
  | battery => exact .inr ⟨_, _, rfl⟩
  | mutedSpeech =>
    simp only [State.judgeKind]
    split
    · exact .inr ⟨_, _, rfl⟩
    · exact .inl rfl
  | signalWeak => exact .inr ⟨_, _, rfl⟩
  | batteryShortfall | openNoFloor | dropouts | signalLost => cases hk

/-- A kind whose condition holds in a state as long as its qualifiers are primed. -/
def State.stillHolds (u : State) (n : Seat) : Kind → Prop
  | .battery => (u.seat n).signal ≠ .lost → batteryLow u.params (u.seat n) = true
  | .mutedSpeech => u.sitting = .sitting ∧ u.mutedSpeechHolds n = true
  | .signalWeak => weakHolds u.params (u.seat n) = true
  | .batteryShortfall | .openNoFloor | .dropouts | .signalLost => False

/-- A kind that has left QUIET, and for BATTERY with no held condition that is false. -/
structure SeatMonitor.primed (m : SeatMonitor) (k : Kind) : Prop where
  state : m.state.get k ≠ .quiet
  held : m.heldOf k ≠ some false

theorem SeatMonitor.primed_of_core (h : m.core k = m'.core k) (g : m'.primed k) : m.primed k :=
  ⟨SeatMonitor.state_of_core h ▸ g.state, SeatMonitor.held_of_core h ▸ g.held⟩

theorem resetting_event_still {setValue pv : Nat} {q : QState} (h : q ≠ .quiet) :
    resetting false setValue true false q pv = (q, pv, none) := by
  cases q <;> first | rfl | exact absurd rfl h

theorem resetFigure_countdown (setValue pv : Nat) :
    resetFigure true setValue true false (.qualifying, pv) = countedDown setValue pv := by
  simp only [resetFigure, resetting, resettingTick, countedDown, if_true]
  by_cases ends : min pv setValue - 1 = 0
  · rw [if_pos ends, if_pos (by omega), ends]
  · rw [if_neg ends, if_neg (by omega)]

theorem batteryClear_of_low {p : Params} {r : SeatRecord} (hyst : 0 < p.batteryHystPct) (low : batteryLow p r = true) :
    batteryClear p r = false := by
  simp only [batteryLow, batteryClear] at low ⊢
  split at low
  · cases low
  · simp only [decide_eq_true_eq] at low
    simp only [decide_eq_false_iff_not]
    omega

/-- While its condition holds and does not clear, a primed kind moves so and stays primed. -/
theorem State.judgeKind_still (hyst : 0 < u.params.batteryHystPct) (holds : u.stillHolds n k) (primed : m.primed k)
    (tick : Bool) : (u.judgeKind tick n k m).1.figure k = resetFigure tick (u.params.setValueOf k) true false (m.figure k)
      ∧ (u.judgeKind tick n k m).1.primed k := by
  have kept : ∀ {set}, (resetFigure tick set true false (m.figure k)).1 ≠ .quiet := fun {_} => resetting_of_holds rfl
  cases k with
  | battery =>
    have notQuiet : m.state.battery ≠ .quiet := primed.state
    have notFalse : m.held ≠ some false := primed.held
    have held : (heldCondition (u.seat n).signal m.state.battery m.held = some true)
        ∨ (heldCondition (u.seat n).signal m.state.battery m.held = none
          ∧ batteryLow u.params (u.seat n) = true) := by
      by_cases lost : (u.seat n).signal = .lost
      · left
        rw [heldCondition, if_pos lost]
        cases hm : m.held with
        | none => simp [notQuiet]
        | some b => cases b <;> simp_all
      · right
        exact ⟨if_neg lost, holds lost⟩
    have own : (u.judgeKind tick n .battery m).1.held = heldCondition (u.seat n).signal m.state.battery m.held := rfl
    have same : (u.judgeKind tick n .battery m).1.figure .battery
        = resetFigure tick u.params.batteryQualify true false (m.figure .battery) := by
      rcases held with held | ⟨held, low⟩
      · simp only [State.judgeKind, State.judgeBattery, held]
        rfl
      · simp only [State.judgeKind, State.judgeBattery, held, Option.getD_none, low, batteryClear_of_low hyst low]
        rfl
    refine ⟨same, ?_, ?_⟩
    · exact fun quiet => kept ((congrArg Prod.fst same).symm.trans quiet)
    · change (u.judgeKind tick n .battery m).1.held ≠ some false
      rw [own]
      rcases held with held | ⟨held, -⟩ <;> simp [held]
  | mutedSpeech =>
    obtain ⟨sitting, speaks⟩ := holds
    have same : (u.judgeKind tick n .mutedSpeech m).1.figure .mutedSpeech
        = resetFigure tick u.params.mutedSpeechQualify true false (m.figure .mutedSpeech) := by
      simp only [State.judgeKind, State.judgeMutedSpeech, sitting, if_true, speaks]
      rfl
    exact ⟨same, fun quiet => kept ((congrArg Prod.fst same).symm.trans quiet), by simp [SeatMonitor.heldOf]⟩
  | signalWeak =>
    have weak : weakHolds u.params (u.seat n) = true := holds
    have clears : weakClear u.params (u.seat n) = false := by
      simp only [weakHolds, weakClear] at weak ⊢
      split at weak
      · cases weak
      · simp only [Bool.and_eq_true, decide_eq_true_eq] at weak
        simp only [weak.2, Bool.not_true, Bool.false_or, decide_eq_false_iff_not]
        omega
    have same : (u.judgeKind tick n .signalWeak m).1.figure .signalWeak
        = resetFigure tick u.params.weakQualify true false (m.figure .signalWeak) := by
      simp only [State.judgeKind, State.judgeSignalWeak, weak, clears]
      rfl
    exact ⟨same, fun quiet => kept ((congrArg Prod.fst same).symm.trans quiet), by simp [SeatMonitor.heldOf]⟩
  | batteryShortfall | openNoFloor | dropouts | signalLost => cases holds

theorem State.figure_event_still (hyst : 0 < u.params.batteryHystPct) (holds : u.stillHolds n k) (primed : m.primed k) :
    (u.judgeKind false n k m).1.figure k = m.figure k := by
  have off : (m.figure k).1 ≠ .quiet := primed.state
  rw [(State.judgeKind_still hyst holds primed false).1, resetFigure, resetting_event_still off]

theorem State.stillHolds_iff (like : s.like u n) (like' : s.like v n) (seat : u.seat n = v.seat n) :
    u.stillHolds n k ↔ v.stillHolds n k := by
  cases k <;> simp only [State.stillHolds, seat, like.params, like'.params, like.sitting, like'.sitting,
    State.mutedSpeechHolds, like.floor, like'.floor]

/-- A QUALIFYING kind whose condition holds before and after the seat's advance is counted down once (R60). -/
theorem State.tickSteps.countedDown (g : s.tickSteps u v w n k m₁ m₂ m') (on : s.evaluates n = true)
    (asked : quarterKinds.get k = true) (hyst : 0 < s.params.batteryHystPct)
    (state : (s.monitor n).state.get k = .qualifying) (held : (s.monitor n).heldOf k ≠ some false)
    (holds : u.stillHolds n k) (holds' : w.stillHolds n k) (closed : k ≠ .openNoFloor) :
    m'.figure k = countedDown (s.params.setValueOf k) ((s.monitor n).pvOf k) := by
  have primed : (s.monitor n).primed k := ⟨by simp [state], held⟩
  have hystU : 0 < u.params.batteryHystPct := by rwa [g.first.params]
  have hystV : 0 < v.params.batteryHystPct := by rwa [g.tick.params]
  have hystW : 0 < w.params.batteryHystPct := by rwa [g.last.params]
  have one : m₁.figure k = (s.monitor n).figure k ∧ m₁.primed k := by
    rcases g.event.cases (fun h => absurd h closed) with judged | same
    · rw [SeatMonitor.figure_of_core judged, State.figure_event_still hystU holds primed]
      exact ⟨rfl, SeatMonitor.primed_of_core judged (State.judgeKind_still hystU holds primed false).2⟩
    · exact ⟨SeatMonitor.figure_of_core same, SeatMonitor.primed_of_core same primed⟩
  have counted := g.count.judged (g.tick.evaluates.trans on) asked (fun h => absurd h closed)
  have holdsV := (State.stillHolds_iff g.tick g.first g.between).2 holds
  obtain ⟨moves, primed₂⟩ := State.judgeKind_still hystV holdsV one.2 true
  have two : m₂.figure k = Machine.countedDown (s.params.setValueOf k) ((s.monitor n).pvOf k) := by
    rw [SeatMonitor.figure_of_core counted, moves, one.1, SeatMonitor.figure, state, resetFigure_countdown, g.tick.params]
  rcases g.settle.cases (fun h => absurd h closed) with judged | same
  · rw [SeatMonitor.figure_of_core judged,
      State.figure_event_still hystW holds' (SeatMonitor.primed_of_core counted primed₂), two]
  · rw [SeatMonitor.figure_of_core same, two]

/-! ## Changed set values (R60) -/

theorem resetFigure_quiet {tick holds clears : Bool} {setValue : Nat} {f : QState × Nat}
    (h : f.1 = .quiet → f.2 = setValue) : (resetFigure tick setValue holds clears f).1 = .quiet →
      (resetFigure tick setValue holds clears f).2 = setValue := by
  obtain ⟨q, pv⟩ := f
  cases tick <;> cases q <;> cases holds <;> cases clears <;>
    simp_all [resetFigure, resetting, resettingTick, resettingEvent] <;> split <;> simp_all

/-- A QUALIFIED qualifier at the set value is not QUALIFYING after an event. -/
theorem resetFigure_event_of_qualified {holds clears : Bool} {setValue : Nat} :
    (resetFigure false setValue holds clears (.qualified, setValue)).1 ≠ .qualifying
      ∧ (resetFigure false setValue holds clears (.qualified, setValue)).2 = setValue := by
  cases clears <;> simp [resetFigure, resetting, resettingEvent]

theorem resetFigure_qualified {tick holds clears : Bool} {setValue : Nat} {f : QState × Nat}
    (h : f.1 ≠ .qualifying ∧ f.2 = setValue ∨ tick = false ∧ (f.1 = .qualified → f.2 = setValue)) :
    (resetFigure tick setValue holds clears f).1 = .qualified → (resetFigure tick setValue holds clears f).2 = setValue := by
  obtain ⟨q, pv⟩ := f
  cases tick <;> cases q <;> cases holds <;> cases clears <;>
    simp_all [resetFigure, resetting, resettingTick, resettingEvent] <;> split <;> simp_all

/-- A step of a RESETTING kind that is no clearing of OPEN_NO_FLOOR. -/
theorem State.stepped.figure {tick : Bool} {kinds : PerKind Bool} (g : u.stepped tick kinds n k m m')
    (hk : resettingKind k = true) : m'.figure k = m.figure k ∨ ∃ holds clears,
      m'.figure k = resetFigure tick (u.params.setValueOf k) holds clears (m.figure k) := by
  rcases g.cases (by rintro rfl; cases hk) with judged | same
  · rw [SeatMonitor.figure_of_core judged]
    exact u.figure_judgeKind tick n m hk
  · exact .inl (SeatMonitor.figure_of_core same)

/-- A quarter tick that leaves a RESETTING qualifier QUIET or QUALIFIED leaves it at the set value it held (R60). -/
theorem State.tickSteps.setValue (g : s.tickSteps u v w n k m₁ m₂ m') (hk : resettingKind k = true)
    (state : (s.monitor n).state.get k ≠ .qualifying) (pv : (s.monitor n).pvOf k = s.params.setValueOf k)
    (same : m'.state.get k = (s.monitor n).state.get k) : m'.pvOf k = s.params.setValueOf k := by
  have one := g.event.figure hk
  have two := g.count.figure hk
  have three := g.settle.figure hk
  rw [g.first.params] at one
  rw [g.tick.params] at two
  rw [g.last.params] at three
  generalize s.params.setValueOf k = set at *
  cases was : (s.monitor n).state.get k with
  | qualifying => exact absurd was state
  | quiet =>
    have step : ∀ {tick} {a b : SeatMonitor}, (a.figure k = b.figure k ∨ ∃ holds clears,
        a.figure k = resetFigure tick set holds clears (b.figure k)) →
        ((b.figure k).1 = .quiet → (b.figure k).2 = set) → (a.figure k).1 = .quiet → (a.figure k).2 = set := by
      rintro tick a b (same | ⟨holds, clears, moved⟩) h
      · rwa [same]
      · rw [moved]
        exact resetFigure_quiet h
    exact step three (step two (step one fun _ => pv)) (same.trans was)
  | qualified =>
    have start : (s.monitor n).figure k = (.qualified, set) := Prod.ext was pv
    have first : (m₁.figure k).1 ≠ .qualifying ∧ (m₁.figure k).2 = set := by
      rcases one with same | ⟨holds, clears, moved⟩
      · rw [same, start]
        exact ⟨by simp, rfl⟩
      · rw [moved, start]
        exact resetFigure_event_of_qualified
    have second : (m₂.figure k).1 = .qualified → (m₂.figure k).2 = set := by
      rcases two with same | ⟨holds, clears, moved⟩
      · rw [same]
        exact fun _ => first.2
      · rw [moved]
        exact resetFigure_qualified (.inl first)
    have third : (m'.figure k).1 = .qualified → (m'.figure k).2 = set := by
      rcases three with same | ⟨holds, clears, moved⟩
      · rw [same]
        exact second
      · rw [moved]
        exact resetFigure_qualified (.inr ⟨rfl, second⟩)
    exact third (same.trans was)

end

end Sys2Proof.Machine
end

section
/-! The quarter tick, ENTER_FADING and ENTER_LOST (R5 to R7, R60 to R63). -/

namespace Sys2Proof.Machine

section
variable {s t u v w : State} {n : Seat} {k : Kind} {m m₁ m₂ m' : SeatMonitor}

/-- A kind that is not asked for stays. -/
theorem State.stepped.unasked {tick : Bool} {kinds : PerKind Bool} (g : u.stepped tick kinds n k m m')
    (off : kinds.get k = false) (keeps : k = .openNoFloor → (u.judgeKind tick n k m).2 ≠ some .cleared) :
    m'.core k = m.core k := by
  rw [g keeps, if_neg (by simp [off])]

/-! ## DROPOUTS (R63) -/

theorem State.tickSteps.dropouts_before (g : s.tickSteps u v w n k m₁ m₂ m') :
    (u.seat n).dropouts = (s.seat n).dropouts ∧ (u.seat n).pack = (s.seat n).pack := by
  obtain ⟨-, dropouts, pack⟩ := tickedSeat_fixed s.params (s.seat n)
  rcases g.before with same | ticked
  · rw [same]
    exact ⟨rfl, rfl⟩
  · rw [ticked]
    exact ⟨dropouts, pack⟩

theorem changedKinds_dropouts {r r' : SeatRecord} (pack : r'.pack = r.pack) (dropouts : r'.dropouts = r.dropouts) :
    (changedKinds r r').get .dropouts = false := by
  simp [changedKinds, PerKind.get, pack, dropouts]

/-- DROPOUTS is judged once, by the count that the tick leaves. -/
theorem State.tickSteps.dropouts (g : s.tickSteps u v w n .dropouts m₁ m₂ m') (on : s.evaluates n = true) :
    m'.core .dropouts = (v.judgeKind true n .dropouts (s.monitor n)).1.core .dropouts := by
  obtain ⟨dropouts, pack⟩ := g.dropouts_before
  obtain ⟨-, dropouts', pack'⟩ := tickedSeat_fixed s.params (s.seat n)
  have first := g.event.unasked (changedKinds_dropouts pack dropouts) (by simp)
  have second := g.count.judged (g.tick.evaluates.trans on) rfl (by simp)
  have third := g.settle.unasked (changedKinds_dropouts (by rw [g.after, pack, pack'])
    (by rw [g.after, dropouts, dropouts'])) (by simp)
  rw [third, second]
  exact (v.core_judgeKind first true n).1

theorem State.judgeDropouts_of_limit (limit : u.params.dropoutLimit ≤ (u.seat n).dropouts)
    (m : SeatMonitor) (lawful : m.state.dropouts ≠ .qualifying) (tick : Bool) :
    ((u.judgeKind tick n .dropouts m).1.state.dropouts = .qualified)
      ∧ (u.judgeKind tick n .dropouts m).1.windowMark = true := by
  simp only [State.judgeKind, State.judgeDropouts, if_pos limit]
  split
  · exact ⟨rfl, rfl⟩
  · next off =>
    refine ⟨?_, rfl⟩
    cases state : m.state.dropouts <;> simp_all

theorem State.judgeDropouts_below (below : (u.seat n).dropouts < u.params.dropoutLimit) (m : SeatMonitor) (tick : Bool) :
    (u.judgeKind tick n .dropouts m).1 = m := by
  simp only [State.judgeKind, State.judgeDropouts, if_neg (Nat.not_le.2 below)]

/-! ## OPEN_NO_FLOOR (R62) -/

theorem changedKinds_openNoFloor {r r' : SeatRecord} (pack : r'.pack = r.pack) (mute : r'.mute = r.mute) :
    (changedKinds r r').get .openNoFloor = false := by
  simp [changedKinds, PerKind.get, pack, mute]

theorem accumulatingEvent_holds (limit : Nat) (q : QState) (pv : Nat) :
    (accumulatingEvent limit true q pv).2 ≠ some .cleared := by
  cases q with
  | quiet =>
    simp only [accumulatingEvent]
    split <;> simp
  | qualifying | qualified => simp [accumulatingEvent]

theorem accumulatingTick_holds (limit : Nat) (q : QState) (pv : Nat) :
    (accumulatingTick limit true q pv).1
        = (if q = .qualified ∨ limit ≤ min 65535 (pv + 1) then .qualified else .qualifying)
      ∧ (accumulatingTick limit true q pv).2.2 ≠ some .cleared := by
  cases q with
  | qualified => simp [accumulatingTick]
  | quiet | qualifying =>
    by_cases fits : limit ≤ min 65535 (pv + 1) <;>
      simp only [accumulatingTick, bump, Config.openPvMax, fits, reduceCtorEq, false_or, if_true, if_false] <;>
      simp

/-- Where the condition holds, a judgement clears no OPEN_NO_FLOOR. -/
theorem State.judgeOpenNoFloor_of_holds (holds : u.openNoFloorHolds n = true) (tick : Bool) (m : SeatMonitor) :
    (u.judgeKind tick n .openNoFloor m).2 ≠ some .cleared := by
  simp only [State.judgeKind]
  split
  · simp only [State.judgeOpenNoFloor, holds]
    cases tick
    · exact accumulatingEvent_holds _ _ _
    · exact (accumulatingTick_holds _ _ _).2
  · simp

/-- Where the condition holds, the quarter tick accumulates 1 (R62). -/
theorem State.judgeOpenNoFloor_tick (sitting : u.sitting = .sitting) (holds : u.openNoFloorHolds n = true)
    (m : SeatMonitor) : (u.judgeKind true n .openNoFloor m).1.openPv = min 65535 (m.openPv + 1)
      ∧ (u.judgeKind true n .openNoFloor m).1.state.openNoFloor =
        if m.state.openNoFloor = .qualified ∨ 4 * u.params.openNoFloorLimit ≤ min 65535 (m.openPv + 1) then .qualified
        else .qualifying := by
  simp only [State.judgeKind, sitting, if_true, State.judgeOpenNoFloor, holds]
  exact ⟨(accumulatingTick_state ..).2, (accumulatingTick_holds ..).1⟩

/-- Where the condition does not hold, a judgement leaves a QUIET OPEN_NO_FLOOR as it is. -/
theorem State.judgeOpenNoFloor_quiet (off : u.sitting = .sitting → u.openNoFloorHolds n = false) (tick : Bool) {m : SeatMonitor}
    (quiet : m.state.openNoFloor = .quiet) : (u.judgeKind tick n .openNoFloor m).1.core .openNoFloor = m.core .openNoFloor
      ∧ (u.judgeKind tick n .openNoFloor m).2 = none := by
  simp only [State.judgeKind]
  split
  · next sitting =>
    cases tick <;> simp only [State.judgeOpenNoFloor, off sitting, quiet, accumulatingTick, accumulatingEvent, if_true,
      Bool.false_eq_true, if_false, and_true] <;> simp [SeatMonitor.core_eq, PerKind.get, quiet, SeatMonitor.pvOf,
        gradeOf, SeatMonitor.heldOf, SeatMonitor.markOf]
  · exact ⟨rfl, rfl⟩

theorem State.openNoFloorHolds_iff (u : State) (n : Seat) :
    u.openNoFloorHolds n = true ↔ (u.seat n).mute = .opened ∧ u.onFloor n = false := by
  simp [State.openNoFloorHolds]

/-- OPEN_NO_FLOOR accumulates where its condition holds before and after the advance (R62). -/
theorem State.tickSteps.accumulated (g : s.tickSteps u v w n .openNoFloor m₁ m₂ m') (on : s.evaluates n = true)
    (sitting : s.sitting = .sitting) (holds : s.openNoFloorHolds n = true)
    (heard : (tickedSeat s.params (s.seat n)).signal ≠ .lost) :
    m'.core .openNoFloor = (v.judgeKind true n .openNoFloor (s.monitor n)).1.core .openNoFloor
      ∧ v.openNoFloorHolds n = true ∧ v.sitting = .sitting := by
  obtain ⟨opened, off⟩ := (s.openNoFloorHolds_iff n).1 holds
  obtain ⟨-, -, pack'⟩ := tickedSeat_fixed s.params (s.seat n)
  have mute' := (tickedSeat_spoken s.params (s.seat n) heard).1
  have pack := g.dropouts_before.2
  have mute : (u.seat n).mute = (s.seat n).mute := by
    rcases g.before with same | ticked
    · rw [same]
    · rw [ticked, mute']
  have holdsU : u.openNoFloorHolds n = true := (u.openNoFloorHolds_iff n).2 ⟨mute.trans opened, g.first.floor.trans off⟩
  have holdsV : v.openNoFloorHolds n = true :=
    (v.openNoFloorHolds_iff n).2 ⟨by rw [g.between, mute, opened], g.tick.floor.trans off⟩
  have holdsW : w.openNoFloorHolds n = true :=
    (w.openNoFloorHolds_iff n).2 ⟨by rw [g.after, mute', opened], g.last.floor.trans off⟩
  have first := g.event.unasked (changedKinds_openNoFloor pack mute) fun _ => State.judgeOpenNoFloor_of_holds holdsU _ _
  have second := g.count.judged (g.tick.evaluates.trans on) rfl fun _ => State.judgeOpenNoFloor_of_holds holdsV _ _
  have third := g.settle.unasked (changedKinds_openNoFloor (by rw [g.after, pack, pack']) (by rw [g.after, mute, mute']))
    fun _ => State.judgeOpenNoFloor_of_holds holdsW _ _
  rw [third, second]
  exact ⟨(v.core_judgeKind first true n).1, holdsV, g.tick.sitting.trans sitting⟩

theorem State.tickSteps.opened (g : s.tickSteps u v w n .openNoFloor m₁ m₂ m') (on : s.evaluates n = true)
    (sitting : s.sitting = .sitting) (holds : s.openNoFloorHolds n = true)
    (heard : (tickedSeat s.params (s.seat n)).signal ≠ .lost) : m'.openPv = min 65535 ((s.monitor n).openPv + 1)
      ∧ m'.state.openNoFloor = if (s.monitor n).state.openNoFloor = .qualified
          ∨ 4 * s.params.openNoFloorLimit ≤ min 65535 ((s.monitor n).openPv + 1) then .qualified else .qualifying := by
  obtain ⟨core, holds', sitting'⟩ := g.accumulated on sitting holds heard
  obtain ⟨pv, state⟩ := State.judgeOpenNoFloor_tick sitting' holds' (s.monitor n)
  rw [g.tick.params] at state
  exact ⟨(SeatMonitor.pv_of_core core).trans pv, (SeatMonitor.state_of_core core).trans state⟩

/-- A QUIET OPEN_NO_FLOOR whose condition does not hold keeps its present value (R62). -/
theorem State.tickSteps.unopened (g : s.tickSteps u v w n .openNoFloor m₁ m₂ m')
    (quiet : (s.monitor n).state.openNoFloor = .quiet) (off : s.sitting = .sitting → s.openNoFloorHolds n = false) :
    m'.core .openNoFloor = (s.monitor n).core .openNoFloor := by
  have unheld : ∀ {x : State}, s.like x n → (x.seat n = s.seat n ∨ x.seat n = tickedSeat s.params (s.seat n)) →
      x.sitting = .sitting → x.openNoFloorHolds n = false := by
    intro x like seat sitting
    have off := off (like.sitting.symm.trans sitting)
    rw [← Bool.not_eq_true, State.openNoFloorHolds_iff, like.floor] at *
    rintro ⟨opened, away⟩
    refine off ⟨?_, away⟩
    rcases seat with same | ticked
    · rwa [same] at opened
    · by_contra muted
      exact tickedSeat_not_opened s.params (s.seat n) muted (by rwa [ticked] at opened)
  have step : ∀ {x : State} {tick : Bool} {kinds : PerKind Bool} {a b : SeatMonitor},
      (x.sitting = .sitting → x.openNoFloorHolds n = false) → x.stepped tick kinds n .openNoFloor a b → a.core .openNoFloor = (s.monitor n).core .openNoFloor →
      b.core .openNoFloor = (s.monitor n).core .openNoFloor := by
    intro x tick kinds a b unheld stepped same
    have still : a.state.openNoFloor = .quiet := (SeatMonitor.state_of_core same).trans quiet
    obtain ⟨kept, none⟩ := State.judgeOpenNoFloor_quiet unheld tick still
    rcases stepped.cases (fun _ => by simp [none]) with judged | stays
    · rw [judged, kept, same]
    · rw [stays, same]
  exact step (unheld g.last (.inr g.after)) g.settle
    (step (unheld g.tick (by rw [g.between]; exact g.before)) g.count (step (unheld g.first g.before) g.event rfl))

end

/-! ## The whole tick -/

/-- The state that a quarter tick leaves (R119). -/
def State.quarterTicked (s : State) (order : TickOrder) : State :=
  { s.takeSetValues.quarterWork order with quarterPhase := (s.quarterPhase + 1) % 4 }

theorem exec_quarterTick (s : State) (order : TickOrder) :
    exec (.quarterTick order) s = .next (s.quarterTicked order) := rfl

theorem State.seat_quarterTicked (s : State) (order : TickOrder) (n : Seat) :
    (s.quarterTicked order).seat n = tickedSeat s.params (s.seat n) := by
  have seat := s.takeSetValues.seat_quarterWork order n
  rw [State.seat_takeSetValues, State.takeSetValues_params] at seat
  exact seat

/-- A frame that starts after the set values are taken, and a new quarter phase. -/
theorem State.frame_of_taken {s a w : State} (h : State.onlyMonitorAndList { a with seats := w.seats } w)
    (taken : a = { s with monitors := a.monitors, setChanged := .none }) (q : Nat) : State.onlyMonitorAndList
      { s with seats := w.seats, quarterPhase := q, setChanged := .none } { w with quarterPhase := q } := by
  refine ⟨?_, fun x => ?_⟩
  · rw [h.1, taken]
  · have one := h.2 x
    change w.link x = { a.link x with notice := (w.link x).notice } at one
    have same : a.link x = s.link x := by rw [taken]; rfl
    rw [same] at one
    exact one

theorem State.quarterTicked_frame (s : State) (order : TickOrder) : State.onlyMonitorAndList
    { s with
      seats := (s.quarterTicked order).seats, quarterPhase := (s.quarterTicked order).quarterPhase
      setChanged := .none } (s.quarterTicked order) :=
  State.frame_of_taken (s.takeSetValues.quarterWork_frame order) s.takeSetValues_eq _

theorem Params.lawful.hyst_pos {p : Params} (h : p.lawful) : 0 < p.batteryHystPct := by
  have range : (paramRange 3).1 ≤ p.batteryHystPct := (h.1 3 (by decide)).1
  exact Nat.lt_of_lt_of_le (by decide) range

theorem batteryLow_eq_any (p : Params) (r : SeatRecord) : batteryLow p r = r.est.percent.any (· ≤ p.batteryLowPct) := by
  rw [batteryLow]
  cases r.est.percent <;> rfl

theorem weakHolds_iff (p : Params) (r : SeatRecord) : weakHolds p r = true ↔
    (r.signal = .heard ∨ r.signal = .fading) ∧ (r.levelStore.map (· / 4)).any (· < p.weakLevel) = true := by
  rw [weakHolds, SeatRecord.levelAverage, SeatRecord.heardOrFading]
  cases r.levelStore <;> simp [and_comm]

section
variable {s u v w : State} {n : Seat} {m₁ m₂ m' : SeatMonitor}

/-- BATTERY's condition holds before and after an advance that starts with it holding. -/
theorem State.tickSteps.battery_holds {k : Kind} (g : s.tickSteps u v w n k m₁ m₂ m')
    (low : (s.seat n).signal ≠ .lost → batteryLow s.params (s.seat n) = true) :
    u.stillHolds n .battery ∧ w.stillHolds n .battery := by
  obtain ⟨est, -, -⟩ := tickedSeat_fixed s.params (s.seat n)
  have ticked : (tickedSeat s.params (s.seat n)).signal ≠ .lost →
      batteryLow s.params (tickedSeat s.params (s.seat n)) = true := fun heard => by
    have before := low fun lost => heard (tickedSeat_lost s.params _ lost)
    rwa [batteryLow_eq_any, est, ← batteryLow_eq_any]
  simp only [State.stillHolds, g.first.params, g.last.params, g.after]
  refine ⟨?_, ticked⟩
  rcases g.before with same | after
  · rwa [same]
  · rwa [after]

theorem State.tickSteps.weak_holds {k : Kind} (g : s.tickSteps u v w n k m₁ m₂ m')
    (old : weakHolds s.params (s.seat n) = true) (new : weakHolds s.params (tickedSeat s.params (s.seat n)) = true) :
    u.stillHolds n .signalWeak ∧ w.stillHolds n .signalWeak := by
  simp only [State.stillHolds, g.first.params, g.last.params, g.after]
  refine ⟨?_, new⟩
  rcases g.before with same | after
  · rwa [same]
  · rwa [after]

theorem State.tickSteps.muted_holds {k : Kind} (g : s.tickSteps u v w n k m₁ m₂ m') (sitting : s.sitting = .sitting)
    (speaks : s.mutedSpeechHolds n = true) (heard : (tickedSeat s.params (s.seat n)).signal ≠ .lost) :
    u.stillHolds n .mutedSpeech ∧ w.stillHolds n .mutedSpeech := by
  obtain ⟨mute, voice⟩ := tickedSeat_spoken s.params (s.seat n) heard
  simp only [State.stillHolds, g.first.sitting, g.last.sitting, sitting, true_and, State.mutedSpeechHolds, g.first.floor,
    g.last.floor, g.after, mute, voice]
  refine ⟨?_, speaks⟩
  rcases g.before with same | after
  · rw [same]
    exact speaks
  · rw [after, mute, voice]
    exact speaks

end

theorem heldValue_of_qualifying (changed : Bool) (setValue pv : Nat) : heldValue changed setValue .qualifying pv = pv := by
  cases changed <;> rfl

theorem heldValue_changed {setValue pv : Nat} {q : QState} (h : q ≠ .qualifying) : heldValue true setValue q pv = setValue := by
  simp [heldValue, h]

/-- A kind that is QUALIFYING keeps its present value when the set values are taken (R60). -/
theorem SeatMonitor.takeSetValues_counting {m : SeatMonitor} {k : Kind} (hk : resettingKind k = true)
    (state : m.state.get k = .qualifying) (p : Params) (c : SetChanged) :
    (m.takeSetValues p c).state.get k = .qualifying ∧ (m.takeSetValues p c).heldOf k = m.heldOf k
      ∧ (m.takeSetValues p c).pvOf k = m.pvOf k := by
  refine ⟨state, by cases k <;> rfl, ?_⟩
  cases k with
  | battery => exact (congrArg (heldValue _ _ · _) state).trans (heldValue_of_qualifying ..)
  | mutedSpeech => exact (congrArg (heldValue _ _ · _) state).trans (heldValue_of_qualifying ..)
  | signalWeak => exact (congrArg (heldValue _ _ · _) state).trans (heldValue_of_qualifying ..)
  | batteryShortfall | openNoFloor | dropouts | signalLost => cases hk

theorem State.setChanged_quarterTicked (s : State) (order : TickOrder) :
    (s.quarterTicked order).setChanged = ⟨false, false, false⟩ := by
  rw [(s.quarterTicked_frame order).1]
  rfl

section
variable {s : State} {n : Seat} (order : TickOrder)

/-- The monitor's half of a quarter tick on one kind, from the state that has taken the set values. -/
theorem State.tickSteps_quarterTicked (s : State) (n : Seat) (k : Kind) : ∃ u v w m₁ m₂,
    s.takeSetValues.tickSteps u v w n k m₁ m₂ ((s.quarterTicked order).monitor n) :=
  s.takeSetValues.tickSteps_quarterWork order n k

theorem State.takeSetValues_evaluates (h : s.bound n = true) (setup : s.sitting ≠ .setup) :
    s.takeSetValues.evaluates n = true := by
  have bound : s.takeSetValues.bound n = true := by rwa [State.bound, State.seat_takeSetValues]
  simp [State.evaluates, bound, setup]

/-- A changed set value of a RESETTING kind stands after the tick (R60). -/
theorem State.quarterTicked_setValue {k : Kind} (hk : resettingKind k = true)
    (taken : (s.takeSetValues.monitor n).pvOf k = s.params.setValueOf k)
    (state : (s.monitor n).state.get k ≠ .qualifying)
    (same : ((s.quarterTicked order).monitor n).state.get k = (s.monitor n).state.get k) :
    ((s.quarterTicked order).monitor n).pvOf k = s.params.setValueOf k := by
  obtain ⟨u, v, w, m₁, m₂, g⟩ := s.tickSteps_quarterTicked order n k
  have value := g.setValue hk
  rw [State.monitor_takeSetValues, State.takeSetValues_params] at value
  refine value state ?_ same
  rwa [State.monitor_takeSetValues] at taken

/-- A QUALIFYING kind is counted down by the tick (R60). -/
theorem State.quarterTicked_countedDown {k : Kind} (hk : resettingKind k = true) (lawful : s.lawful)
    (bound : s.bound n = true) (setup : s.sitting ≠ .setup) (state : (s.monitor n).state.get k = .qualifying)
    (held : (s.monitor n).heldOf k ≠ some false)
    (holds : ∀ u v w m₁ m₂ m', s.takeSetValues.tickSteps u v w n k m₁ m₂ m' → u.stillHolds n k ∧ w.stillHolds n k) :
    ((s.quarterTicked order).monitor n).figure k = countedDown (s.params.setValueOf k) ((s.monitor n).pvOf k) := by
  obtain ⟨u, v, w, m₁, m₂, g⟩ := s.tickSteps_quarterTicked order n k
  obtain ⟨before, after⟩ := holds u v w m₁ m₂ _ g
  obtain ⟨state', held', pv'⟩ := SeatMonitor.takeSetValues_counting hk state s.params s.setChanged
  have monitor := s.monitor_takeSetValues n
  rw [← monitor] at state' held' pv'
  have counted := g.countedDown (State.takeSetValues_evaluates bound setup) (by cases k <;> first | rfl | cases hk)
    (by rw [State.takeSetValues_params]; exact lawful.params.hyst_pos) state'
  rw [held', pv', State.takeSetValues_params] at counted
  exact counted held before after (by rintro rfl; cases hk)

theorem SeatMonitor.opened_of_core {m m' : SeatMonitor} (h : m.core .openNoFloor = m'.core .openNoFloor) :
    m.openPv = m'.openPv ∧ m.state.openNoFloor = m'.state.openNoFloor :=
  ⟨SeatMonitor.pv_of_core h, SeatMonitor.state_of_core h⟩

/-- Taking the set values moves the present values of the RESETTING kinds alone. -/
theorem State.core_takeSetValues (s : State) (n : Seat) {k : Kind} (hk : resettingKind k = false) :
    (s.takeSetValues.monitor n).core k = (s.monitor n).core k := by
  rw [State.monitor_takeSetValues]
  cases k <;> first | rfl | cases hk

theorem State.openNoFloorHolds_takeSetValues (s : State) (n : Seat) :
    s.takeSetValues.openNoFloorHolds n = s.openNoFloorHolds n := by
  rw [State.openNoFloorHolds, State.seat_takeSetValues, State.onFloor, State.takeSetValues_floor]
  rfl

theorem State.mutedSpeechHolds_takeSetValues (s : State) (n : Seat) :
    s.takeSetValues.mutedSpeechHolds n = s.mutedSpeechHolds n := by
  rw [State.mutedSpeechHolds, State.seat_takeSetValues, State.onFloor, State.takeSetValues_floor]
  rfl

/-! ## One bound seat outside SETUP -/

section
variable (lawful : s.lawful) (bound : s.bound n = true) (setup : s.sitting ≠ .setup)
include lawful bound setup

theorem State.quarterTicked_battery (state : (s.monitor n).state.battery = .qualifying)
    (holds : if (s.seat n).signal = .lost then (s.monitor n).held = some true
      else (s.seat n).est.percent.any (· ≤ s.params.batteryLowPct) = true) :
    ((s.quarterTicked order).monitor n).figure .battery
      = countedDown s.params.batteryQualify (s.monitor n).batteryPv := by
  have held : (s.monitor n).held ≠ some false := by
    intro off
    have lost := ((lawful.qualifierLaws.follow n .battery).1 (by simp [SeatMonitor.shows, off])).2
    rw [if_pos lost, off] at holds
    simp at holds
  refine State.quarterTicked_countedDown order rfl lawful bound setup state held fun u v w m₁ m₂ m' g =>
    g.battery_holds fun heard => ?_
  rw [State.seat_takeSetValues] at heard ⊢
  rw [if_neg heard] at holds
  rwa [State.takeSetValues_params, batteryLow_eq_any]

theorem State.quarterTicked_weak (state : (s.monitor n).state.signalWeak = .qualifying)
    (before : weakHolds s.params (s.seat n) = true) (after : weakHolds s.params (tickedSeat s.params (s.seat n)) = true) :
    ((s.quarterTicked order).monitor n).figure .signalWeak = countedDown s.params.weakQualify (s.monitor n).weakPv := by
  refine State.quarterTicked_countedDown order rfl lawful bound setup state (by simp [SeatMonitor.heldOf])
    fun u v w m₁ m₂ m' g => g.weak_holds ?_ ?_
  · rwa [State.seat_takeSetValues, State.takeSetValues_params]
  · rwa [State.seat_takeSetValues, State.takeSetValues_params]

theorem State.quarterTicked_muted (state : (s.monitor n).state.mutedSpeech = .qualifying)
    (heard : (tickedSeat s.params (s.seat n)).signal ≠ .lost) :
    ((s.quarterTicked order).monitor n).figure .mutedSpeech
      = countedDown s.params.mutedSpeechQualify (s.monitor n).mutedPv := by
  obtain ⟨sitting, speaks⟩ := (lawful.qualifierLaws.follow n .mutedSpeech).1 (by simp [SeatMonitor.shows, state])
  refine State.quarterTicked_countedDown order rfl lawful bound setup state (by simp [SeatMonitor.heldOf])
    fun u v w m₁ m₂ m' g => g.muted_holds (s.takeSetValues_sitting.trans sitting) ?_ ?_
  · rwa [State.mutedSpeechHolds_takeSetValues]
  · rwa [State.seat_takeSetValues, State.takeSetValues_params]

omit lawful in
theorem State.quarterTicked_opened (sitting : s.sitting = .sitting) (holds : s.openNoFloorHolds n = true)
    (heard : (tickedSeat s.params (s.seat n)).signal ≠ .lost) :
    ((s.quarterTicked order).monitor n).openPv = min 65535 ((s.monitor n).openPv + 1)
      ∧ ((s.quarterTicked order).monitor n).state.openNoFloor =
        if (s.monitor n).state.openNoFloor = .qualified
          ∨ 4 * s.params.openNoFloorLimit ≤ min 65535 ((s.monitor n).openPv + 1) then .qualified else .qualifying := by
  obtain ⟨u, v, w, m₁, m₂, g⟩ := s.tickSteps_quarterTicked order n .openNoFloor
  have heard' : (tickedSeat s.takeSetValues.params (s.takeSetValues.seat n)).signal ≠ .lost := by
    rwa [State.seat_takeSetValues, State.takeSetValues_params]
  obtain ⟨pv, state⟩ := g.opened (State.takeSetValues_evaluates bound setup) (s.takeSetValues_sitting.trans sitting)
    ((s.openNoFloorHolds_takeSetValues n).trans holds) heard'
  obtain ⟨pv', state'⟩ := SeatMonitor.opened_of_core (s.core_takeSetValues n (k := .openNoFloor) rfl)
  rw [pv', state', State.takeSetValues_params] at state
  rw [pv'] at pv
  exact ⟨pv, state⟩

omit bound setup in
theorem State.quarterTicked_unopened (off : ¬(s.sitting = .sitting ∧ s.openNoFloorHolds n = true)) :
    ((s.quarterTicked order).monitor n).openPv = (s.monitor n).openPv := by
  obtain ⟨u, v, w, m₁, m₂, g⟩ := s.tickSteps_quarterTicked order n .openNoFloor
  have same := s.core_takeSetValues n (k := .openNoFloor) rfl
  have quiet : (s.monitor n).state.openNoFloor = .quiet := by
    by_contra active
    exact off ((lawful.qualifierLaws.follow n .openNoFloor).1 active)
  have core := g.unopened ((SeatMonitor.state_of_core same).trans quiet) (by
    rw [State.takeSetValues_sitting, State.openNoFloorHolds_takeSetValues, ← Bool.not_eq_true]
    exact fun sitting holds => off ⟨sitting, holds⟩)
  exact SeatMonitor.pv_of_core (core.trans same)

theorem State.quarterTicked_dropouts :
    (s.params.dropoutLimit ≤ (s.seat n).dropouts → ((s.quarterTicked order).monitor n).state.dropouts = .qualified
      ∧ ((s.quarterTicked order).monitor n).windowMark = true)
    ∧ ((s.seat n).dropouts < s.params.dropoutLimit →
      ((s.quarterTicked order).monitor n).state.dropouts = (s.monitor n).state.dropouts
        ∧ ((s.quarterTicked order).monitor n).windowMark = (s.monitor n).windowMark) := by
  obtain ⟨u, v, w, m₁, m₂, g⟩ := s.tickSteps_quarterTicked order n .dropouts
  have core := g.dropouts (State.takeSetValues_evaluates bound setup)
  have same := s.core_takeSetValues n (k := .dropouts) rfl
  have count : (v.seat n).dropouts = (s.seat n).dropouts := by
    rw [g.between, g.dropouts_before.1, State.seat_takeSetValues]
  have limit' : v.params.dropoutLimit = s.params.dropoutLimit := by rw [g.tick.params, State.takeSetValues_params]
  have calm : (s.monitor n).state.dropouts ≠ .qualifying := (lawful.monitor n).2.2.2.2.2.2.1
  refine ⟨fun limit => ?_, fun below => ?_⟩
  · obtain ⟨state, mark⟩ := State.judgeDropouts_of_limit (u := v) (n := n) (by rwa [limit', count])
      (s.takeSetValues.monitor n) (fun h => calm ((SeatMonitor.state_of_core same).symm.trans h)) true
    exact ⟨(SeatMonitor.state_of_core core).trans state, (SeatMonitor.mark_of_core core).trans mark⟩
  · have stays := State.judgeDropouts_below (u := v) (n := n) (by rwa [limit', count]) (s.takeSetValues.monitor n) true
    rw [stays, same] at core
    exact ⟨SeatMonitor.state_of_core core, SeatMonitor.mark_of_core core⟩

end

end

/-! ## ENTER_FADING and ENTER_LOST (log 2) -/

/-- One seat advanced. -/
theorem State.advanceOne_advances (s : State) (n : Seat) : (s.advanceSeats (· == n)).seat n = tickedSeat s.params (s.seat n)
    ∧ (∀ m, m ≠ n → (s.advanceSeats (· == n)).seat m = s.seat m)
    ∧ State.onlyMonitorAndList { s with seats := (s.advanceSeats (· == n)).seats } (s.advanceSeats (· == n)) := by
  refine ⟨?_, fun m other => ?_, s.advanceSeats_frame _⟩
  · rw [State.seat_advanceSeats, if_pos (beq_self_eq_true n)]
  · rw [State.seat_advanceSeats, if_neg (by simpa using other)]

theorem State.enterFading_advances (s : State) (n : Seat) (heard : (s.seat n).signal = .heard)
    (silent : s.params.fadeTime ≤ min 255 ((s.seat n).silence + 1)) : ∃ t : State,
      exec (.enterFading n) s = .next t ∧ t.seat n = tickedSeat s.params (s.seat n)
        ∧ (∀ m, m ≠ n → t.seat m = s.seat m) ∧ State.onlyMonitorAndList { s with seats := t.seats } t := by
  exact ⟨s.advanceSeats (· == n), congrArg Host.Outcome.next (if_pos ⟨heard, silent⟩), s.advanceOne_advances n⟩

theorem State.enterLost_advances (s : State) (n : Seat) (fading : (s.seat n).signal = .fading)
    (silent : s.params.lostTime ≤ min 255 ((s.seat n).silence + 1)) : ∃ t : State,
      exec (.enterLost n) s = .next t ∧ t.seat n = tickedSeat s.params (s.seat n)
        ∧ (t.seat n).signal = .lost ∧ (t.seat n).mute = .unknown ∧ (t.seat n).rawMute = none
        ∧ (t.seat n).voice = false
        ∧ (∀ m, m ≠ n → t.seat m = s.seat m) ∧ State.onlyMonitorAndList { s with seats := t.seats } t := by
  obtain ⟨seat, others, frame⟩ := s.advanceOne_advances n
  have lost : (tickedSeat s.params (s.seat n)).signal = .lost ∧ (tickedSeat s.params (s.seat n)).mute = .unknown
      ∧ (tickedSeat s.params (s.seat n)).rawMute = none ∧ (tickedSeat s.params (s.seat n)).voice = false := by
    simp [tickedSeat, fading, silent]
  rw [← seat] at lost
  obtain ⟨signal, mute, raw, voice⟩ := lost
  exact ⟨s.advanceSeats (· == n), congrArg Host.Outcome.next (if_pos ⟨fading, silent⟩), seat, signal, mute, raw, voice,
    others, frame⟩

/-- Settles O23: in every order of the blocks a seat is judged by the tick once and by an event before or after it. -/
theorem quarterTickAdvancesSeats : Obligations.QuarterTickAdvancesSeats := by
  unfold Obligations.QuarterTickAdvancesSeats
  refine ⟨fun s order => ?_, fun s t order lawful ran => ?_, fun s n => ⟨fun heard silent => ?_, fun fading silent => ?_⟩⟩
  · refine ⟨s.quarterTicked order, exec_quarterTick s order, s.seat_quarterTicked order, rfl, ?_⟩
    rw [s.setChanged_quarterTicked order]
    exact s.quarterTicked_frame order
  · obtain rfl : s.quarterTicked order = t := Host.Outcome.next.inj ((exec_quarterTick s order).symm.trans ran)
    have follow := lawful.qualifierLaws.follow
    refine ⟨s.setChanged_quarterTicked order, fun n => ⟨fun changed state same => ?_, fun changed state same => ?_,
      fun changed state same => ?_⟩, fun n bound setup => ?_⟩
    · refine State.quarterTicked_setValue order (k := .battery) rfl ?_ state same
      rw [State.monitor_takeSetValues]
      exact (congrArg (heldValue · _ _ _) changed).trans (heldValue_changed state)
    · refine State.quarterTicked_setValue order (k := .mutedSpeech) rfl ?_ state same
      rw [State.monitor_takeSetValues]
      exact (congrArg (heldValue · _ _ _) changed).trans (heldValue_changed state)
    · refine State.quarterTicked_setValue order (k := .signalWeak) rfl ?_ state same
      rw [State.monitor_takeSetValues]
      exact (congrArg (heldValue · _ _ _) changed).trans (heldValue_changed state)
    · intro old new was now weak opened
      refine ⟨fun state holds => ?_, fun state before after => ?_, fun state heard => ?_, fun op heard => ?_,
        fun closed => ?_, fun limit => ?_, fun below => ?_⟩
      · exact State.quarterTicked_battery order lawful bound setup state holds
      · exact State.quarterTicked_weak order lawful bound setup state ((weakHolds_iff ..).2 before)
          ((weakHolds_iff ..).2 after)
      · exact State.quarterTicked_muted order lawful bound setup state heard
      · obtain ⟨pv, qualified⟩ := State.quarterTicked_opened order bound setup op.1
          ((s.openNoFloorHolds_iff n).2 op.2) heard
        exact ⟨pv, pv ▸ qualified⟩
      · exact State.quarterTicked_unopened order lawful fun holds =>
          closed ⟨holds.1, (s.openNoFloorHolds_iff n).1 holds.2⟩
      · exact (State.quarterTicked_dropouts order lawful bound setup).1 limit
      · exact (State.quarterTicked_dropouts order lawful bound setup).2 below
  · exact s.enterFading_advances n heard silent
  · exact s.enterLost_advances n fading silent

end Sys2Proof.Machine
end

section
/-! What the list makes of one (seat, kind) through the outcomes of an event: its own outcome reaches it, and neither
another outcome nor an admission touches what is not due (R83 to R90). -/

namespace Sys2Proof.Machine

/-- A (seat, kind) that is not due, with its record and its part of the qualifiers, in a state within an event. -/
structure State.entry (base t : State) (n : Seat) (k : Kind) (r : Option Record) (c : KindPart) : Prop where
  frame : base.onlyMonitorAndList t
  undue : t.isDue n k = false
  record : t.record n k = r
  core : (t.monitor n).core k = c

/-- A warning that waits as a due mark or stands in the list as a fresh record, with a detail that the seat still has. -/
structure State.fresh (base t : State) (n : Seat) (k : Kind) (d : Option Nat) : Prop where
  frame : base.onlyMonitorAndList t
  figure : detailOf k (t.seat n) (t.monitor n) = d
  warning : t.isDue n k = true ∧ t.record n k = none ∨ ∃ r ∈ t.record n k, r.state = .activeUnacked ∧ r.detail = d

/-- All that the list and the monitor hold of a (seat, kind) stays. -/
structure State.untouched (s t : State) (n : Seat) (k : Kind) : Prop where
  frame : s.onlyMonitorAndList t
  due : t.isDue n k = s.isDue n k
  record : t.record n k = s.record n k
  core : (t.monitor n).core k = (s.monitor n).core k

/-- A fact about a (seat, kind) that the outcomes of others and admissions leave true. -/
structure State.lasting (n : Seat) (k : Kind) (P : State → Prop) : Prop where
  other : ∀ {s t : State}, s.untouched t n k → P s → P t
  filled : ∀ {s : State}, P s → P s.fillFreed

section
variable {base s t : State} {n m : Seat} {k j : Kind} {o : HandedOutcome}

theorem detailOf_of_core {m m' : SeatMonitor} (h : m.core k = m'.core k) (r : SeatRecord) :
    detailOf k r m = detailOf k r m' := by
  cases k with
  | openNoFloor =>
    have pv : m.openPv = m'.openPv := SeatMonitor.pv_of_core h
    simp only [detailOf, pv]
  | battery | batteryShortfall | mutedSpeech | signalWeak | dropouts | signalLost => rfl

/-- An outcome of another (seat, kind) does not touch this one. -/
theorem State.untouched_applyOutcome (due : s.isDue o.seat o.kind = false) (off : ¬(n = o.seat ∧ k = o.kind)) :
    s.untouched (s.applyOutcome o) n k := by
  have same := (State.takes_applyOutcome due).moves.others n k off
  refine ⟨s.onlyMonitorAndList_applyOutcome o, same.due, same.record, ?_⟩
  by_cases opened : k = .openNoFloor
  · exact State.core_applyOutcome k fun ⟨seat, kind, _⟩ => off ⟨seat.symm, opened.trans kind.symm⟩
  · exact (s.listWork_applyOutcome o).core n opened

/-- The admission of another mark does not touch this one. -/
theorem State.untouched_admitMark (off : ¬(n = m ∧ k = j)) : s.untouched (s.admitMark m j) n k := by
  refine ⟨s.onlyMonitorAndList_admitMark m j, ?_, ?_, s.core_putDue m n j k false⟩
  · exact (s.isDue_putDue m n j k false).trans (if_neg off)
  · rw [State.admitMark, State.record_appendRecord, if_neg, Option.or_none, State.record_putDue]
    rw [Record.isFor_iff]
    rintro ⟨seat, kind⟩
    exact off ⟨seat.symm, kind.symm⟩

/-- A fact that the admission of a mark leaves true outlasts every admission. -/
theorem State.fillPlaces_keeps (P : State → Prop)
    (admits : ∀ {s : State} {m : Seat} {j : Kind}, s.isDue m j = true → P s → P (s.admitMark m j)) (places : Nat) :
    ∀ {s : State}, P s → P (State.fillPlaces places s) := by
  induction places with
  | zero => exact fun h => h
  | succ places ih =>
    intro s h
    simp only [State.fillPlaces]
    split
    · exact h
    · next first => exact ih (admits (State.isDue_of_firstDue first) h)

theorem State.entry.of_untouched {r : Option Record} {c : KindPart} (g : s.untouched t n k) (h : base.entry s n k r c) :
    base.entry t n k r c :=
  ⟨base.onlyMonitorAndList_trans h.frame g.frame, g.due.trans h.undue, g.record.trans h.record, g.core.trans h.core⟩

theorem State.lasting_entry (base : State) (n : Seat) (k : Kind) (r : Option Record) (c : KindPart) :
    State.lasting n k (base.entry · n k r c) := by
  refine ⟨fun g h => h.of_untouched g, fun {s} h => State.fillPlaces_keeps (base.entry · n k r c) (fun {u m j} due g => ?_) _ h⟩
  refine g.of_untouched (State.untouched_admitMark fun here => ?_)
  rw [← here.1, ← here.2, g.undue] at due
  cases due

theorem State.fresh.of_untouched {d : Option Nat} (g : s.untouched t n k) (h : base.fresh s n k d) :
    base.fresh t n k d := by
  refine ⟨base.onlyMonitorAndList_trans h.frame g.frame, ?_, ?_⟩
  · rw [State.onlyMonitorAndList_seat g.frame, detailOf_of_core g.core, h.figure]
  · rw [g.due, g.record]
    exact h.warning

theorem State.fresh.admitMark {d : Option Nat} (h : base.fresh s n k d) (due : s.isDue m j = true) :
    base.fresh (s.admitMark m j) n k d := by
  by_cases here : n = m ∧ k = j
  · obtain ⟨rfl, rfl⟩ := here
    have core : ((s.admitMark n k).monitor n).core k = (s.monitor n).core k := s.core_putDue n n k k false
    have figure : detailOf k ((s.admitMark n k).seat n) ((s.admitMark n k).monitor n) = d := by
      rw [State.onlyMonitorAndList_seat (s.onlyMonitorAndList_admitMark n k), detailOf_of_core core, h.figure]
    refine ⟨base.onlyMonitorAndList_trans h.frame (s.onlyMonitorAndList_admitMark n k), figure, .inr ?_⟩
    rcases h.warning with ⟨-, none⟩ | ⟨r, hr, fresh⟩
    · refine ⟨newRecord s.params s.clock n k (gradeOf k (s.monitor n)) (detailOf k (s.seat n) (s.monitor n)), ?_, rfl,
        h.figure⟩
      simp [State.admitMark, State.record_appendRecord, none, Record.isFor, newRecord]
    · refine ⟨r, ?_, fresh⟩
      simp [State.admitMark, State.record_appendRecord, Option.mem_def.1 hr]
  · exact h.of_untouched (State.untouched_admitMark here)

theorem State.lasting_fresh (base : State) (n : Seat) (k : Kind) (d : Option Nat) :
    State.lasting n k (base.fresh · n k d) :=
  ⟨fun g h => h.of_untouched g,
    fun h => State.fillPlaces_keeps (base.fresh · n k d) (fun due g => State.fresh.admitMark g due) _ h⟩

/-- The outcomes of others leave a lasting fact true. -/
theorem State.lasting.applyHanded {P : State → Prop} (lasting : State.lasting n k P) (os : List HandedOutcome) :
    ∀ {freed : Bool} {s : State}, s.owes os → (∀ o ∈ os, ¬(n = o.seat ∧ k = o.kind)) → P s →
      P (s.applyHanded freed os) := by
  induction os with
  | nil => exact fun _ _ h => h
  | cons o os ih =>
    intro freed s owes off h
    obtain ⟨first, rest⟩ := List.forall_mem_cons.1 off
    have applied := lasting.other (State.untouched_applyOutcome (owes.owed o List.mem_cons_self) first) h
    simp only [State.applyHanded]
    split
    · split
      · exact ih owes.applyOutcome rest applied
      · exact ih owes.applyOutcome.fillFreed.1 rest (lasting.filled applied)
    · exact ih owes.applyOutcome rest applied

/-- A (seat, kind)'s one outcome takes one lasting fact about it to another. -/
theorem State.lasting.reached {P Q : State → Prop} (before : State.lasting n k P) (after : State.lasting n k Q)
    (seat : n = o.seat) (kind : k = o.kind) (own : ∀ {u : State}, P u → Q (u.applyOutcome o)) (os : List HandedOutcome) :
    ∀ {freed : Bool} {s : State}, s.owes os → os.Pairwise (fun a b => ¬(a.seat = b.seat ∧ a.kind = b.kind)) → o ∈ os →
      P s → Q (s.applyHanded freed os) := by
  induction os with
  | nil => exact fun _ _ mem => absurd mem (by simp)
  | cons p os ih =>
    intro freed s owes single mem h
    obtain ⟨alone, rest⟩ := List.pairwise_cons.1 single
    by_cases here : o = p
    · subst here
      have others : ∀ q ∈ os, ¬(n = q.seat ∧ k = q.kind) := fun q hq same =>
        alone q hq ⟨seat.symm.trans same.1, kind.symm.trans same.2⟩
      simp only [State.applyHanded]
      split
      · split
        · exact after.applyHanded os owes.applyOutcome others (own h)
        · exact after.applyHanded os owes.applyOutcome.fillFreed.1 others (after.filled (own h))
      · exact after.applyHanded os owes.applyOutcome others (own h)
    · have mem : o ∈ os := (List.mem_cons.1 mem).resolve_left here
      have first : ¬(n = p.seat ∧ k = p.kind) := fun same =>
        alone o mem ⟨same.1.symm.trans seat, same.2.symm.trans kind⟩
      have applied := before.other (State.untouched_applyOutcome (owes.owed p List.mem_cons_self) first) h
      simp only [State.applyHanded]
      split
      · split
        · exact ih owes.applyOutcome rest mem applied
        · exact ih owes.applyOutcome.fillFreed.1 rest mem (before.filled applied)
      · exact ih owes.applyOutcome rest mem applied

end

end Sys2Proof.Machine
end

section
/-! An evaluation on one (seat, kind), the list's work included: what a cleared, a raised or a qualified outcome makes of
its record (R75, R76, R83 to R86). -/

namespace Sys2Proof.Machine

/-- What a cleared outcome makes of the record of its (seat, kind) (R86). -/
def clearedRecord (clock : Nat) (r : Option Record) : Option Record :=
  r.bind fun r => if r.state = .activeUnacked then some (r.clearing clock) else none

/-- What a cleared outcome makes of the part of its kind: an OPEN_NO_FLOOR record that is taken out restarts the
qualifier from 0 (R74). -/
def State.clearedCore (s : State) (n : Seat) (k : Kind) (r : Option Record) (c : KindPart) : KindPart :=
  if k = .openNoFloor ∧ r.any (fun r => r.state == .activeAcked) = true then { c with state := s.openRestart n, pv := 0 }
  else c

section
variable {base u s : State} {o : HandedOutcome} {q : Record} {c : KindPart}

/-! ## An outcome by its verdict and the record it finds -/

theorem State.applyOutcome_cleared_none (verdict : o.verdict = .cleared) (record : s.record o.seat o.kind = none) :
    s.applyOutcome o = s := by
  simp only [State.applyOutcome, verdict, record]

theorem State.applyOutcome_cleared_unacked (verdict : o.verdict = .cleared) (record : s.record o.seat o.kind = some q)
    (state : q.state = .activeUnacked) :
    s.applyOutcome o = s.updateRecord o.seat o.kind (Record.clearing s.clock) := by
  simp only [State.applyOutcome, verdict, record, state]

theorem State.applyOutcome_cleared_acked (verdict : o.verdict = .cleared) (record : s.record o.seat o.kind = some q)
    (state : q.state = .activeAcked) : s.applyOutcome o = s.removeRecord o.seat o.kind := by
  simp only [State.applyOutcome, verdict, record, state]

theorem State.applyOutcome_rise (verdict : o.verdict = .gradeRise) (record : s.record o.seat o.kind = some q)
    (state : q.state ≠ .clearedUnacked) :
    s.applyOutcome o = s.updateRecord o.seat o.kind (Record.gradeRise s.params s.clock o.detail) := by
  simp only [State.applyOutcome, verdict, record, if_neg state]

theorem State.applyOutcome_raise (verdict : o.verdict = .qualified) (record : s.record o.seat o.kind = none) :
    s.applyOutcome o = s.raise o := by
  simp only [State.applyOutcome, verdict, record]

theorem State.applyOutcome_reRaise (verdict : o.verdict = .qualified) (record : s.record o.seat o.kind = some q)
    (state : q.state = .clearedUnacked) :
    s.applyOutcome o = s.updateRecord o.seat o.kind (Record.reRaise s.params s.clock o.grade o.detail) := by
  simp only [State.applyOutcome, verdict, record, if_pos state]

/-! ## The entry of a (seat, kind) through its own outcome -/

theorem State.entry.updated (h : base.entry s o.seat o.kind (some q) c) {f : Record → Record} (keeps : Record.keepsKey f) :
    base.entry (s.updateRecord o.seat o.kind f) o.seat o.kind (some (f q)) c := by
  refine ⟨base.onlyMonitorAndList_trans h.frame (s.onlyMonitorAndList_updateRecord ..), h.undue, ?_, h.core⟩
  rw [State.record_updateRecord _ _ _ _ _ keeps, if_pos ⟨rfl, rfl⟩, h.record]
  rfl

theorem State.entry.removed (h : base.entry s o.seat o.kind (some q) c) (acked : q.state = .activeAcked) :
    base.entry (s.removeRecord o.seat o.kind) o.seat o.kind none (base.clearedCore o.seat o.kind (some q) c) := by
  refine ⟨base.onlyMonitorAndList_trans h.frame (s.onlyMonitorAndList_removeRecord ..), ?_, ?_, ?_⟩
  · rw [State.isDue, State.monitor_removeRecord]
    split
    · next here => simp [State.openRemoved, here.1]
    · exact h.undue
  · rw [State.record_removeRecord, if_pos ⟨rfl, rfl⟩]
  · rw [State.monitor_removeRecord]
    by_cases opened : o.kind = .openNoFloor
    · have restart : s.openRestart o.seat = base.openRestart o.seat := State.onlyMonitorAndList_openRestart h.frame o.seat
      have core := h.core
      rw [opened] at core
      simp only [opened, State.clearedCore, Option.any_some, acked, BEq.rfl, and_self, if_true, ← core, ← restart]
      rfl
    · rw [if_neg (fun here => opened here.1), h.core, State.clearedCore, if_neg fun here => opened here.1]

/-- A cleared outcome reaches its record (R86). -/
theorem State.entry.cleared {r : Option Record} (h : base.entry s o.seat o.kind r c) (verdict : o.verdict = .cleared)
    (active : ∀ q ∈ r, q.state ≠ .clearedUnacked) :
    base.entry (s.applyOutcome o) o.seat o.kind (clearedRecord base.clock r) (base.clearedCore o.seat o.kind r c) := by
  cases r with
  | none =>
    rw [State.applyOutcome_cleared_none verdict h.record, State.clearedCore, if_neg (by simp)]
    exact h
  | some q =>
    cases state : q.state with
    | activeUnacked =>
      rw [State.applyOutcome_cleared_unacked verdict h.record state, State.clearedCore, if_neg (by simp [state]),
        clearedRecord, Option.bind_some, if_pos state, State.onlyMonitorAndList_clock h.frame]
      exact h.updated (keepsKey_clearing _)
    | activeAcked =>
      rw [State.applyOutcome_cleared_acked verdict h.record state, clearedRecord, Option.bind_some,
        if_neg (by simp [state])]
      exact h.removed state
    | clearedUnacked => exact absurd state (active q rfl)

/-- A grade rise reaches its record (R85). -/
theorem State.entry.risen (h : base.entry s o.seat o.kind (some q) c) (verdict : o.verdict = .gradeRise)
    (active : q.state ≠ .clearedUnacked) : base.entry (s.applyOutcome o) o.seat o.kind
      (some (q.gradeRise base.params base.clock o.detail)) c := by
  rw [State.applyOutcome_rise verdict h.record active, State.onlyMonitorAndList_clock h.frame,
    State.onlyMonitorAndList_params h.frame]
  exact h.updated (keepsKey_gradeRise _ _ _)

/-- A qualified outcome has its warning, with the detail that it hands on (R83, R84). -/
theorem State.entry.raised {r : Option Record} (h : base.entry s o.seat o.kind r c) (verdict : o.verdict = .qualified)
    (inactive : ∀ q ∈ r, q.state = .clearedUnacked) (detail : detailOf o.kind (s.seat o.seat) (s.monitor o.seat) = o.detail) :
    base.fresh (s.applyOutcome o) o.seat o.kind o.detail := by
  have frame := s.onlyMonitorAndList_applyOutcome o
  have core : ((s.applyOutcome o).monitor o.seat).core o.kind = (s.monitor o.seat).core o.kind :=
    State.core_applyOutcome _ (by simp [verdict])
  refine ⟨base.onlyMonitorAndList_trans h.frame frame, ?_, ?_⟩
  · rw [State.onlyMonitorAndList_seat frame, detailOf_of_core core, detail]
  · cases r with
    | none =>
      rw [State.applyOutcome_raise verdict h.record, State.raise]
      split
      · refine .inr ⟨newRecord s.params s.clock o.seat o.kind o.grade o.detail, ?_, rfl, rfl⟩
        simp [State.record_appendRecord, h.record, Record.isFor, newRecord]
      · exact .inl ⟨by simp, by rw [State.record_setDue, h.record]⟩
    | some q =>
      have state := inactive q rfl
      have updated := h.updated (keepsKey_reRaise s.params s.clock o.grade o.detail)
      rw [State.applyOutcome_reRaise verdict h.record state]
      exact .inr ⟨_, updated.record, rfl, rfl⟩

end

/-! ## The entry of a (seat, kind) through an evaluation -/

section
variable {s : State} {n : Seat} {k : Kind} (tick : Bool) (kinds : Seat → PerKind Bool)

/-- A (seat, kind) as an evaluation leaves it to the list. -/
theorem State.entry_evaluateAll (undue : s.isDue n k = false ∨ s.verdict tick kinds n k = some .cleared) :
    s.entry (s.evaluateAll tick kinds) n k (s.record n k) (((s.evaluateAll tick kinds).monitor n).core k) := by
  refine ⟨State.evaluateAll_frame .., ?_, s.record_evaluateAll tick kinds n k, rfl⟩
  rw [State.isDue_evaluateAll]
  rcases undue with undue | cleared
  · rw [undue, Bool.false_and]
  · simp [cleared]

/-- An outcome carries the detail that its seat has after the evaluation. -/
theorem State.detail_of_mem_outcomes {o : HandedOutcome} (ho : o ∈ s.outcomes tick kinds) :
    detailOf o.kind (s.seat o.seat) ((s.evaluateAll tick kinds).monitor o.seat) = o.detail := by
  obtain ⟨judged, mem⟩ := (s.mem_outcomes tick kinds).1 ho
  obtain ⟨v, -, -, own⟩ := (s.mem_evaluateKind tick o.seat).1 mem
  have core := s.core_evaluateAll tick kinds o.seat o.kind
  rw [State.judges] at judged
  rw [if_pos judged] at core
  rw [detailOf_of_core core, own]

section
variable (h : s.agrees)
include h

/-- Where a verdict is handed on, its outcome takes the entry to what it makes of it. -/
theorem State.agrees.reached {v : Verdict} (verdict : s.verdict tick kinds n k = some v) (undue : s.isDue n k = false)
    {Q : State → Prop} (after : State.lasting n k Q)
    (own : ∀ {o : HandedOutcome} {u : State}, o.seat = n → o.kind = k → o.verdict = v →
      o.detail = detailOf k (s.seat n) ((s.evaluateAll tick kinds).monitor n) →
      s.entry u n k (s.record n k) (((s.evaluateAll tick kinds).monitor n).core k) → Q (u.applyOutcome o)) :
    Q (s.evaluate tick kinds) := by
  obtain ⟨o, mem, seat, kind, hv⟩ := s.exists_outcome_of_verdict tick kinds verdict (.inr undue)
  have detail := s.detail_of_mem_outcomes tick kinds mem
  rw [seat, kind] at detail
  exact (s.lasting_entry n k _ _).reached after seat.symm kind.symm (own seat kind hv detail.symm) _
    (h.evaluateAll tick kinds).owes (s.outcomes_pairwise tick kinds) mem
    (State.entry_evaluateAll tick kinds (.inl undue))

/-- What is QUALIFIED and not due has an active record (R58). -/
theorem State.agrees.active (qualified : (s.monitor n).state.get k = .qualified) (undue : s.isDue n k = false) :
    ∃ q, s.record n k = some q ∧ q.state ≠ .clearedUnacked := by
  have warned := (State.owesQualified_nil s n k).1 ((h.owes.qualified n k).1 qualified)
  rcases warned with due | ⟨q, hq, active⟩
  · rw [undue] at due
    cases due
  · exact ⟨q, hq, (Record.active_iff q).1 active⟩

/-- A cleared verdict reaches its record, and drops its due mark (R76, R86). -/
theorem State.agrees.cleared_evaluate (verdict : s.verdict tick kinds n k = some .cleared) :
    s.entry (s.evaluate tick kinds) n k (clearedRecord s.clock (s.record n k))
      (s.clearedCore n k (s.record n k) (((s.evaluateAll tick kinds).monitor n).core k)) := by
  have qualified := ((s.verdict_fits tick kinds n k).cleared.1 verdict).1
  cases due : s.isDue n k with
  | true =>
    have none : s.record n k = none := by
      rw [← Option.not_isSome_iff_eq_none]
      intro held
      rw [h.owes.undue n k held] at due
      cases due
    have start := State.entry_evaluateAll tick kinds (.inr verdict)
    rw [none] at start
    rw [none, State.clearedCore, if_neg (by simp)]
    refine (s.lasting_entry n k _ _).applyHanded _ (h.evaluateAll tick kinds).owes (fun o ho here => ?_) start
    obtain ⟨own, free⟩ := s.verdict_of_mem_outcomes tick kinds ho
    rw [← here.1, ← here.2, verdict] at own
    rw [← here.1, ← here.2, due, ← Option.some.inj own] at free
    simp at free
  | false =>
    obtain ⟨q, hq, active⟩ := h.active qualified due
    refine h.reached tick kinds verdict due (s.lasting_entry n k _ _) fun {o u} seat kind hv _ entry => ?_
    subst seat kind
    exact entry.cleared hv fun p hp => by rwa [← Option.some.inj (hq.symm.trans hp)]

/-- A grade rise reaches the record (R85). -/
theorem State.agrees.risen_evaluate (verdict : s.verdict tick kinds n k = some .gradeRise) {q : Record}
    (record : s.record n k = some q) : (s.evaluate tick kinds).record n k = some (q.gradeRise s.params s.clock
      (detailOf k (s.seat n) ((s.evaluateAll tick kinds).monitor n))) := by
  have undue := h.owes.undue n k (by rw [record]; rfl)
  obtain ⟨-, qualified, -⟩ := (s.verdict_fits tick kinds n k).rise verdict
  obtain ⟨p, hp, active⟩ := h.active qualified undue
  obtain rfl : q = p := Option.some.inj (record.symm.trans hp)
  refine (h.reached tick kinds verdict undue (s.lasting_entry n k _ (((s.evaluateAll tick kinds).monitor n).core k))
    fun {o u} seat kind hv detail entry => ?_).record
  subst seat kind
  rw [record] at entry
  rw [← detail]
  exact entry.risen hv active

/-- A kind newly QUALIFIED has its warning (R75, R83, R84). -/
theorem State.agrees.raised_evaluate (verdict : s.verdict tick kinds n k = some .qualified) :
    s.fresh (s.evaluate tick kinds) n k (detailOf k (s.seat n) ((s.evaluateAll tick kinds).monitor n)) := by
  have off := ((s.verdict_fits tick kinds n k).qualified.1 verdict).1
  have silent : ¬ s.warns n k := fun warned =>
    off ((h.owes.qualified n k).2 ((State.owesQualified_nil s n k).2 warned))
  have undue : s.isDue n k = false := Bool.eq_false_iff.2 fun due => silent (.inl due)
  refine h.reached tick kinds verdict undue (s.lasting_fresh n k _) fun {o u} seat kind hv detail entry => ?_
  subst seat kind
  rw [← detail]
  refine entry.raised hv (fun q hq => ?_) ?_
  · by_contra active
    exact silent (State.warns_of_active hq ((Record.active_iff q).2 active))
  · rw [State.onlyMonitorAndList_seat entry.frame, detailOf_of_core entry.core, detail]

end

end

end Sys2Proof.Machine
end

section
/-! A report of a bound pack: an ECHO, LATE, or taken (R8, R33 to R38). -/

namespace Sys2Proof.Machine

section
variable {s : State} {p : Port} {rep : Report} {rest : List Report} {n : Seat}

/-! ## The pick -/

theorem exec_intakePick_of_port (next : s.nextPort = some p) (fifo : (s.port p).fifo = rep :: rest) :
    exec .intakePick s = .next ((s.pickedFrom p rest).processReport rep) := by
  simp only [exec, execIntakePick, next, fifo]
  rfl

/-- A report of a bound pack changes the record of its seat (R32). -/
theorem State.processReport_of_bound (h : s.seatOfPack rep.pack = some n) :
    s.processReport rep = s.changeSeat n ((s.seat n).report s.curve s.params.estimatorWindow rep) := by
  simp only [State.processReport, h]

theorem exec_intakePick_bound (next : s.nextPort = some p) (fifo : (s.port p).fifo = rep :: rest)
    (held : s.seatOfPack rep.pack = some n) : exec .intakePick s = .next ((s.pickedFrom p rest).changeSeat n
      ((s.seat n).report s.curve s.params.estimatorWindow rep)) := by
  have held' : (s.pickedFrom p rest).seatOfPack rep.pack = some n := held
  rw [exec_intakePick_of_port next fifo, State.processReport_of_bound held']
  rfl

/-! ## ECHO and LATE -/

/-- A change that feeds no kind is written and no more (R4). -/
theorem State.changeSeat_of_nothing {r : SeatRecord} (h : changedKinds (s.seat n) r = .nothing) :
    s.changeSeat n r = s.putSeat n r := by
  refine State.evaluate_of_nothing false fun m => ?_
  rw [oneSeat, h, ite_self]

theorem changedKinds_seq (r : SeatRecord) (q : SeqState) : changedKinds r { r with seq := q } = .nothing := by
  simp only [changedKinds, bne_self_eq_false, Bool.or_false]
  rfl

theorem State.putSeat_self (s : State) (n : Seat) : s.putSeat n (s.seat n) = s := by
  have same : s.seats.set n (s.seat n) = s.seats := by
    simp [State.seat]
  simp only [State.putSeat, same]

end

/-- The step of a report's sequence to a current one (R33). -/
theorem SeqState.classify_of_current {q : SeqState} {current : Byte} (h : q.current = some current) (seq : Byte) :
    q.classify seq = classOfStep (seq - current).toNat := by
  simp only [SeqState.classify, h]

section
variable {r : SeatRecord} {rep : Report} {current : Byte} {curve : Vector Breakpoint 8} {w : Nat}

/-- A report of the current sequence is an ECHO: it may raise the sample (R33, R34). -/
theorem SeatRecord.report_echo (h : r.seq.current = some rep.seq) :
    r.report curve w rep = { r with seq := r.seq.echo rep.level rep.receiver } := by
  simp [SeatRecord.report, SeqState.classify_of_current h, classOfStep]

theorem SeatRecord.report_late (h : r.seq.current = some current) (late : 240 ≤ (rep.seq - current).toNat) :
    r.report curve w rep = r := by
  have one : ¬(rep.seq - current).toNat = 0 := by omega
  have two : ¬(rep.seq - current).toNat ≤ 127 := by omega
  have three : ¬(rep.seq - current).toNat ≤ 239 := by omega
  simp only [SeatRecord.report, SeqState.classify_of_current h, classOfStep, if_neg one, if_neg two, if_neg three]

/-- The transmissions that a taken report says were missed (R36). -/
def SeqState.missed (q : SeqState) (seq : Byte) : Nat :=
  match q.current with
  | some current => if (seq - current).toNat ≤ 127 then (seq - current).toNat - 1 else 0
  | none => 0

/-- A report that is neither an ECHO nor LATE is taken (R33). -/
theorem SeatRecord.report_taken (taken : ∀ current, r.seq.current = some current →
    (rep.seq - current).toNat ≠ 0 ∧ (rep.seq - current).toNat < 240) :
    r.report curve w rep = r.take curve w rep (r.seq.missed rep.seq) := by
  cases h : r.seq.current with
  | none => simp only [SeatRecord.report, SeqState.classify, SeqState.missed, h]
  | some current =>
    obtain ⟨moved, early⟩ := taken current h
    have last : (rep.seq - current).toNat ≤ 239 := by omega
    simp only [SeatRecord.report, SeqState.classify_of_current h, classOfStep, if_neg moved, SeqState.missed, h]
    by_cases near : (rep.seq - current).toNat ≤ 127
    · simp only [if_pos near]
    · simp only [if_neg near, if_pos last]

end

end Sys2Proof.Machine
end

section
/-! The qualifiers that an event leaves, the list's work included (R59, R74). -/

namespace Sys2Proof.Machine

section
variable {u : State} {n : Seat} {k : Kind}

/-- A judgement that clears OPEN_NO_FLOOR finds its condition not to hold, and leaves it QUIET (R62). -/
theorem State.judgeOpenNoFloor_cleared {tick : Bool} {m : SeatMonitor}
    (cleared : (u.judgeKind tick n .openNoFloor m).2 = some .cleared) :
    u.openNoFloorHolds n = false ∧ (u.judgeKind tick n .openNoFloor m).1.state.openNoFloor = .quiet := by
  have off : u.openNoFloorHolds n = false :=
    Bool.eq_false_iff.2 fun holds => State.judgeOpenNoFloor_of_holds holds tick m cleared
  refine ⟨off, ?_⟩
  simp only [State.judgeKind] at cleared ⊢
  split at cleared
  case isFalse => cases cleared
  case isTrue sitting =>
    simp only [if_pos sitting, State.judgeOpenNoFloor, off]
    cases tick
    · cases m.state.openNoFloor <;> rfl
    · cases state : m.state.openNoFloor <;> simp [accumulatingTick]

variable (tick : Bool) (kinds : Seat → PerKind Bool)

/-- A kind's verdict is its judgement's, where it is judged. -/
theorem State.judged_of_verdict {v : Verdict} (verdict : u.verdict tick kinds n k = some v) :
    (u.judgeKind tick n k (u.monitor n)).2 = some v
      ∧ ((u.evaluateAll tick kinds).monitor n).core k = (u.judgeKind tick n k (u.monitor n)).1.core k := by
  have core := u.core_evaluateAll tick kinds n k
  rw [State.verdict] at verdict
  split at verdict
  case isFalse => cases verdict
  case isTrue judged =>
    rw [State.judges] at judged
    rw [if_pos judged] at core
    exact ⟨verdict, core⟩

/-- A cleared OPEN_NO_FLOOR is QUIET, and restarts so. -/
theorem State.openRestart_of_cleared (verdict : u.verdict tick kinds n .openNoFloor = some .cleared) :
    u.openRestart n = .quiet ∧ (((u.evaluateAll tick kinds).monitor n).core .openNoFloor).state = .quiet := by
  obtain ⟨cleared, core⟩ := State.judged_of_verdict tick kinds verdict
  obtain ⟨off, quiet⟩ := State.judgeOpenNoFloor_cleared cleared
  refine ⟨by simp [State.openRestart, off], ?_⟩
  rw [core]
  exact quiet

/-- The list's work takes the present value of an OPEN_NO_FLOOR whose record leaves, and nothing else of the qualifiers
but due marks (R74). -/
theorem State.agrees.core_evaluate (h : u.agrees) : ((u.evaluate tick kinds).monitor n).core k =
    if k = .openNoFloor ∧ u.verdict tick kinds n k = some .cleared
        ∧ (u.record n k).any (fun r => r.state == .activeAcked) = true then
      { ((u.evaluateAll tick kinds).monitor n).core k with pv := 0 }
    else ((u.evaluateAll tick kinds).monitor n).core k := by
  by_cases opened : k = .openNoFloor
  · subst opened
    by_cases cleared : u.verdict tick kinds n .openNoFloor = some .cleared
    · obtain ⟨restart, quiet⟩ := State.openRestart_of_cleared tick kinds cleared
      rw [(h.cleared_evaluate tick kinds cleared).core, State.clearedCore, restart, ← quiet]
      simp only [true_and, cleared]
    · rw [if_neg fun here => cleared here.2.1]
      refine State.core_applyHanded _ _ fun o ho ⟨seat, kind, verdict⟩ => cleared ?_
      have own := (u.verdict_of_mem_outcomes tick kinds ho).1
      rwa [seat, kind, verdict] at own
  · rw [if_neg fun here => opened here.1]
    exact (State.listWork_applyOutcomes ..).core n opened

variable (h : u.agrees)
include h

theorem State.agrees.state_evaluate :
    ((u.evaluate tick kinds).monitor n).state.get k = ((u.evaluateAll tick kinds).monitor n).state.get k := by
  have core := h.core_evaluate (n := n) (k := k) tick kinds
  have state := congrArg KindPart.state core
  split at state <;> exact state

/-- A kind newly QUALIFIED has its warning, with the detail that its seat has (R75, R83). -/
theorem State.agrees.warned_evaluate (was : (u.monitor n).state.get k ≠ .qualified)
    (now : ((u.evaluate tick kinds).monitor n).state.get k = .qualified) :
    (u.evaluate tick kinds).warned n k (detailOf k ((u.evaluate tick kinds).seat n) ((u.evaluate tick kinds).monitor n)) := by
  rw [h.state_evaluate] at now
  have fresh := h.raised_evaluate tick kinds ((u.verdict_fits tick kinds n k).qualified.2 ⟨was, now⟩)
  rw [fresh.figure]
  exact fresh.warning.imp (·.1) id

/-- What a clearing makes of the record and the due mark of its (seat, kind) (R76, R86). -/
theorem State.agrees.clearedReaches_evaluate (was : (u.monitor n).state.get k = .qualified)
    (now : ((u.evaluate tick kinds).monitor n).state.get k ≠ .qualified) : u.clearedReaches (u.evaluate tick kinds) n k := by
  rw [h.state_evaluate] at now
  have entry := h.cleared_evaluate tick kinds ((u.verdict_fits tick kinds n k).cleared.2 ⟨was, now⟩)
  refine ⟨entry.undue, entry.record.trans ?_⟩
  cases u.record n k <;> rfl

end

end Sys2Proof.Machine
end

section
/-! The judgements of an event on a HEARD seat, in the words of the spec (R55, R60, R62, R63, R65 to R69). -/

namespace Sys2Proof.Machine

/-- An event moves a RESETTING qualifier as R60 gives. -/
theorem resettingEvent_eq (setValue : Nat) (holds clears : Bool) (q : QState) (pv : Nat) :
    ((resettingEvent setValue holds clears q pv).1, (resettingEvent setValue holds clears q pv).2.1)
      = eventMove setValue holds clears q pv := by
  cases q with
  | quiet =>
    simp only [resettingEvent, eventMove]
    split
    · split <;> rfl
    · rfl
  | qualifying | qualified =>
    simp only [resettingEvent, eventMove]
    split <;> rfl

theorem resetting_never_rises {tick holds clears : Bool} {setValue : Nat} {q : QState} {pv : Nat} :
    (resetting tick setValue holds clears q pv).2.2 ≠ some .gradeRise := (resetting_verdict (q' := _) (pv' := _) rfl).2.2

theorem batteryClear_eq_all (p : Params) (r : SeatRecord) :
    batteryClear p r = r.est.percent.all (p.batteryLowPct + p.batteryHystPct ≤ ·) := by
  rw [batteryClear]
  cases r.est.percent <;> rfl

theorem batteryCritical_eq_any (p : Params) (r : SeatRecord) :
    batteryCritical p r = r.est.percent.any (· ≤ p.batteryCritPct) := by
  rw [batteryCritical]
  cases r.est.percent <;> rfl

/-- BATTERY's grade after its qualifier has moved, in a seat that is not LOST (R66). -/
theorem batteryGrade_eq {p : Params} {r : SeatRecord} {before now : QState} {v : Option Verdict} {grade : Option Grade}
    (fits : Verdict.fits .battery v before now) (moves : v ≠ some .gradeRise)
    (law : grade.isSome = true ↔ before = .qualified) : (batteryGrade p r none now v grade).1 =
      if now ≠ .qualified then none
      else if before = .qualified then (if batteryCritical p r then some .critical else grade)
      else if batteryCritical p r then some .critical else some .low := by
  have qualified := fits.qualified
  have cleared := fits.cleared
  rcases v with _ | _ | _ | _
  · by_cases was : before = .qualified
    · have stays : now = .qualified := by simpa [was] using cleared
      obtain ⟨g, hg⟩ := Option.isSome_iff_exists.1 (law.2 was)
      cases g <;> cases critical : batteryCritical p r <;> simp [batteryGrade, stays, was, hg, critical]
    · have off : now ≠ .qualified := by simpa [was] using qualified
      have none : grade = none := by rwa [← law, Option.not_isSome_iff_eq_none] at was
      simp [batteryGrade, off, none]
  · obtain ⟨was, is⟩ := qualified.1 rfl
    simp only [batteryGrade, is, was, ne_eq, not_true_eq_false, if_false]
    split <;> rfl
  · exact absurd rfl moves
  · obtain ⟨-, is⟩ := cleared.1 rfl
    simp [batteryGrade, is]

/-- A grade that rises hands a grade rise on (R66, R85). -/
theorem batteryGrade_rise {p : Params} {r : SeatRecord} {held : Option Bool} {now : QState} {v : Option Verdict}
    (v_ne : v ≠ some .qualified) (critical : (batteryGrade p r held now v (some .low)).1 = some .critical) :
    (batteryGrade p r held now v (some .low)).2 = some .gradeRise := by
  rcases v with _ | _ | _ | _
  · simp only [batteryGrade] at critical ⊢
    split at critical <;> simp_all
  · exact absurd rfl v_ne
  · simp only [batteryGrade] at critical ⊢
    split at critical <;> simp_all
  · simp [batteryGrade] at critical

/-- The state that a judgement of BATTERY_SHORTFALL leaves (R55). -/
def shortfallState (required hyst : Nat) (minutes : Option Nat) (was : QState) : QState :=
  match minutes with
  | none => .quiet
  | some r => if r < required then .qualified else if required + hyst ≤ r then .quiet else was

section
variable {u : State} {n : Seat} {m : SeatMonitor}

theorem State.judgeShortfall_state (tick : Bool) : (u.judgeKind tick n .batteryShortfall m).1.state.batteryShortfall
    = shortfallState u.required u.params.shortfallHystMin (u.seat n).est.minutes m.state.batteryShortfall := by
  simp only [State.judgeKind, State.judgeShortfall, shortfallState]
  cases (u.seat n).est.minutes with
  | none => cases state : m.state.batteryShortfall <;> simp [shortfallJudgement]
  | some r =>
    by_cases short : r < u.required
    · cases state : m.state.batteryShortfall <;> simp [shortfallJudgement, short, state]
    · by_cases ample : u.required + u.params.shortfallHystMin ≤ r
      · cases state : m.state.batteryShortfall <;> simp [shortfallJudgement, short, ample]
      · cases state : m.state.batteryShortfall <;> simp [shortfallJudgement, short, ample, state]

theorem State.judgeMutedSpeech_event (sitting : u.sitting = .sitting) :
    (u.judgeKind false n .mutedSpeech m).1.figure .mutedSpeech = eventMove u.params.mutedSpeechQualify
      (u.mutedSpeechHolds n) (!u.mutedSpeechHolds n) m.state.mutedSpeech m.mutedPv := by
  simp only [State.judgeKind, if_pos sitting, ← resettingEvent_eq]
  rfl

theorem State.judgeMutedSpeech_apart (apart : u.sitting ≠ .sitting) (tick : Bool) :
    (u.judgeKind tick n .mutedSpeech m).1 = m := by
  simp only [State.judgeKind, if_neg apart]

theorem State.judgeOpenNoFloor_apart (apart : u.sitting ≠ .sitting) (tick : Bool) :
    (u.judgeKind tick n .openNoFloor m).1 = m := by
  simp only [State.judgeKind, if_neg apart]

/-- An event leaves the present value of OPEN_NO_FLOOR (R62). -/
theorem State.judgeOpenNoFloor_event_pv : (u.judgeKind false n .openNoFloor m).1.openPv = m.openPv := by
  simp only [State.judgeKind]
  split <;> rfl

/-- An OPEN_NO_FLOOR whose condition does not hold is QUIET after an event. -/
theorem State.judgeOpenNoFloor_event_off (sitting : u.sitting = .sitting) (off : u.openNoFloorHolds n = false) :
    (u.judgeKind false n .openNoFloor m).1.state.openNoFloor = .quiet := by
  simp only [State.judgeKind, if_pos sitting, State.judgeOpenNoFloor, off]
  cases m.state.openNoFloor <;> rfl

/-- A QUIET OPEN_NO_FLOOR whose condition holds counts on from its present value, or is QUALIFIED at once (R62). -/
theorem State.judgeOpenNoFloor_event_on (sitting : u.sitting = .sitting) (holds : u.openNoFloorHolds n = true)
    (quiet : m.state.openNoFloor = .quiet) : (u.judgeKind false n .openNoFloor m).1.state.openNoFloor
      = if 4 * u.params.openNoFloorLimit ≤ m.openPv then .qualified else .qualifying := by
  simp only [State.judgeKind, if_pos sitting, State.judgeOpenNoFloor, holds, quiet, accumulatingEvent, Params.openLimit,
    Bool.false_eq_true, if_false]
  exact apply_ite Prod.fst ..

section
variable (heard : (u.seat n).signal = .heard)
include heard

theorem State.judgeBattery_event : (u.judgeKind false n .battery m).1.figure .battery
    = eventMove u.params.batteryQualify ((u.seat n).est.percent.any (· ≤ u.params.batteryLowPct))
      ((u.seat n).est.percent.all (u.params.batteryLowPct + u.params.batteryHystPct ≤ ·)) m.state.battery m.batteryPv := by
  rw [← resettingEvent_eq, ← batteryLow_eq_any, ← batteryClear_eq_all]
  simp only [State.judgeKind, State.judgeBattery, heard, heldCondition, reduceCtorEq, if_false, Option.getD_none]
  rfl

/-- BATTERY's grade after an event (R66). -/
theorem State.judgeBattery_grade (law : m.grade.isSome = true ↔ m.state.battery = .qualified) :
    (u.judgeKind false n .battery m).1.grade =
      if (u.judgeKind false n .battery m).1.state.battery ≠ .qualified then none
      else if m.state.battery = .qualified then (if batteryCritical u.params (u.seat n) then some .critical else m.grade)
      else if batteryCritical u.params (u.seat n) then some .critical else some .low := by
  simp only [State.judgeKind, State.judgeBattery, heard, heldCondition, reduceCtorEq, if_false, Option.getD_none]
  exact batteryGrade_eq (Verdict.fits_of_resetting .battery) resetting_never_rises law

theorem State.judgeWeak_event : (u.judgeKind false n .signalWeak m).1.figure .signalWeak
    = eventMove u.params.weakQualify (((u.seat n).levelStore.map (· / 4)).any (· < u.params.weakLevel))
      (((u.seat n).levelStore.map (· / 4)).any (u.params.weakLevel + u.params.weakHyst ≤ ·)) m.state.signalWeak m.weakPv := by
  have near : (u.seat n).heardOrFading = true := by simp [SeatRecord.heardOrFading, heard]
  have holds : weakHolds u.params (u.seat n) = ((u.seat n).levelStore.map (· / 4)).any (· < u.params.weakLevel) := by
    rw [weakHolds, near, SeatRecord.levelAverage]
    cases (u.seat n).levelStore <;> simp
  have clears : weakClear u.params (u.seat n)
      = ((u.seat n).levelStore.map (· / 4)).any (u.params.weakLevel + u.params.weakHyst ≤ ·) := by
    rw [weakClear, near, SeatRecord.levelAverage]
    cases (u.seat n).levelStore <;> simp
  rw [← resettingEvent_eq, ← holds, ← clears]
  rfl

theorem State.judgeSignalLost_heard (tick : Bool) : (u.judgeKind tick n .signalLost m).1.state.signalLost = .quiet := by
  simp [State.judgeKind, State.judgeSignalLost, heard]

end

/-- A judgement that raises LOW to CRITICAL where BATTERY is QUALIFIED hands a grade rise on (R66, R85). -/
theorem State.judgeBattery_rise {tick : Bool} (qualified : m.state.battery = .qualified) (low : m.grade = some .low)
    (critical : (u.judgeKind tick n .battery m).1.grade = some .critical) :
    (u.judgeKind tick n .battery m).2 = some .gradeRise := by
  simp only [State.judgeKind, State.judgeBattery, low] at critical ⊢
  refine batteryGrade_rise (fun raised => ?_) critical
  exact ((resetting_verdict (q' := _) (pv' := _) rfl).1.1 raised).1 qualified

end

end Sys2Proof.Machine
end

section
/-! What a taken report makes of the qualifiers and of the list (R4, R57, R59 to R69, R75, R83 to R86). -/

namespace Sys2Proof.Machine

/-- A state that has the record of one seat written, with a HEARD one, and has still to judge it. -/
structure State.written (s u : State) (n : Seat) : Prop where
  agrees : u.agrees
  params : u.params = s.params
  sitting : u.sitting = s.sitting
  required : u.required = s.required
  floor : u.onFloor n = s.onFloor n
  clock : u.clock = s.clock
  monitor : u.monitor n = s.monitor n
  record : ∀ k, u.record n k = s.record n k
  pack : (u.seat n).pack = (s.seat n).pack
  heard : (u.seat n).signal = .heard
  evaluates : u.evaluates n = true

/-- The state that the change of a seat's record leaves (R4). -/
def State.judged (s u : State) (n : Seat) : State := u.evaluate false (oneSeat n (changedKinds (s.seat n) (u.seat n)))

section
variable {s u : State} {n : Seat} {k : Kind}

theorem State.seat_judged (m : Seat) : (s.judged u n).seat m = u.seat m :=
  State.onlyMonitorAndList_seat (u.onlyMonitorAndList_evaluate ..) m

/-! ## The kinds that a change feeds -/

section
variable {old new : SeatRecord} (pack : new.pack = old.pack)
include pack

theorem changed_battery : (changedKinds old new).get .battery = true ↔ old.signal ≠ new.signal
    ∨ old.est.percent ≠ new.est.percent ∨ old.est.drain ≠ new.est.drain ∨ old.est.minutes ≠ new.est.minutes := by
  simp [changedKinds, PerKind.get, pack, or_assoc]

theorem changed_shortfall : (changedKinds old new).get .batteryShortfall = true ↔
    old.est.percent ≠ new.est.percent ∨ old.est.drain ≠ new.est.drain ∨ old.est.minutes ≠ new.est.minutes := by
  simp [changedKinds, PerKind.get, pack, or_assoc]

theorem changed_muted : (changedKinds old new).get .mutedSpeech = true ↔ old.mute ≠ new.mute ∨ old.voice ≠ new.voice := by
  simp [changedKinds, PerKind.get, pack]

theorem changed_open : (changedKinds old new).get .openNoFloor = true ↔ old.mute ≠ new.mute := by
  simp [changedKinds, PerKind.get, pack]

theorem changed_weak : (changedKinds old new).get .signalWeak = true ↔
    old.signal ≠ new.signal ∨ old.levelStore ≠ new.levelStore := by
  simp [changedKinds, PerKind.get, pack]

theorem changed_dropouts : (changedKinds old new).get .dropouts = true ↔ old.dropouts ≠ new.dropouts := by
  simp [changedKinds, PerKind.get, pack]

theorem changed_lost : (changedKinds old new).get .signalLost = true ↔ old.signal ≠ new.signal := by
  simp [changedKinds, PerKind.get, pack]

end

section
variable (h : s.written u n)
include h

/-! ## The part of a kind after the event -/

theorem State.written.verdict : u.verdict false (oneSeat n (changedKinds (s.seat n) (u.seat n))) n k
    = if (changedKinds (s.seat n) (u.seat n)).get k then (u.judgeKind false n k (s.monitor n)).2 else none := by
  simp [State.verdict, State.judges, h.evaluates, h.monitor, oneSeat]

/-- A kind that the change feeds is judged, the others stay. -/
theorem State.written.core_evaluateAll :
    ((u.evaluateAll false (oneSeat n (changedKinds (s.seat n) (u.seat n)))).monitor n).core k =
      if (changedKinds (s.seat n) (u.seat n)).get k then (u.judgeKind false n k (s.monitor n)).1.core k
      else (s.monitor n).core k := by
  simp [State.core_evaluateAll, h.evaluates, h.monitor, oneSeat]

theorem State.written.core (closed : k ≠ .openNoFloor) : ((s.judged u n).monitor n).core k =
    if (changedKinds (s.seat n) (u.seat n)).get k then (u.judgeKind false n k (s.monitor n)).1.core k
    else (s.monitor n).core k := by
  rw [State.judged, h.agrees.core_evaluate, if_neg fun here => closed here.1, h.core_evaluateAll]

theorem State.written.state : ((s.judged u n).monitor n).state.get k =
    if (changedKinds (s.seat n) (u.seat n)).get k then (u.judgeKind false n k (s.monitor n)).1.state.get k
    else (s.monitor n).state.get k := by
  have core := congrArg KindPart.state (h.core_evaluateAll (k := k))
  rw [State.judged, h.agrees.state_evaluate]
  exact core.trans (apply_ite KindPart.state ..)

theorem State.written.figure (closed : k ≠ .openNoFloor) : ((s.judged u n).monitor n).figure k =
    if (changedKinds (s.seat n) (u.seat n)).get k then (u.judgeKind false n k (s.monitor n)).1.figure k
    else (s.monitor n).figure k := by
  have core := h.core closed
  split at core
  · next fed => rw [SeatMonitor.figure_of_core core, if_pos fed]
  · next off => rw [SeatMonitor.figure_of_core core, if_neg off]

/-! ## Kind by kind -/

theorem State.written.battery : ((s.judged u n).monitor n).figure .battery =
    if (changedKinds (s.seat n) (u.seat n)).get .battery then
      eventMove s.params.batteryQualify ((u.seat n).est.percent.any (· ≤ s.params.batteryLowPct))
        ((u.seat n).est.percent.all (s.params.batteryLowPct + s.params.batteryHystPct ≤ ·)) (s.monitor n).state.battery
        (s.monitor n).batteryPv
    else (s.monitor n).figure .battery := by
  rw [h.figure (by simp), State.judgeBattery_event h.heard, h.params]

theorem State.written.weak : ((s.judged u n).monitor n).figure .signalWeak =
    if (changedKinds (s.seat n) (u.seat n)).get .signalWeak then
      eventMove s.params.weakQualify (((u.seat n).levelStore.map (· / 4)).any (· < s.params.weakLevel))
        (((u.seat n).levelStore.map (· / 4)).any (s.params.weakLevel + s.params.weakHyst ≤ ·))
        (s.monitor n).state.signalWeak (s.monitor n).weakPv
    else (s.monitor n).figure .signalWeak := by
  rw [h.figure (by simp), State.judgeWeak_event h.heard, h.params]

theorem State.written.shortfall : ((s.judged u n).monitor n).state.batteryShortfall =
    if (changedKinds (s.seat n) (u.seat n)).get .batteryShortfall then
      shortfallState s.required s.params.shortfallHystMin (u.seat n).est.minutes (s.monitor n).state.batteryShortfall
    else (s.monitor n).state.batteryShortfall := by
  have state := h.state (k := .batteryShortfall)
  have judged := u.judgeShortfall_state (n := n) (m := s.monitor n) false
  rw [h.required, h.params] at judged
  rw [← judged]
  exact state

/-- The grade that the event leaves (R66). -/
theorem State.written.grade (law : (s.monitor n).grade.isSome = true ↔ (s.monitor n).state.battery = .qualified) :
    ((s.judged u n).monitor n).grade =
      if ((s.judged u n).monitor n).state.battery ≠ .qualified then none
      else if (s.monitor n).state.battery = .qualified then
        (if (changedKinds (s.seat n) (u.seat n)).get .battery ∧ batteryCritical s.params (u.seat n) then some .critical
          else (s.monitor n).grade)
      else if batteryCritical s.params (u.seat n) then some .critical else some .low := by
  have core := h.core (k := .battery) (by simp)
  have judged := State.judgeBattery_grade (n := n) (m := s.monitor n) h.heard law
  rw [h.params] at judged
  split at core
  · next fed =>
    have grade : ((s.judged u n).monitor n).grade = (u.judgeKind false n .battery (s.monitor n)).1.grade :=
      SeatMonitor.grade_of_core core
    have state : ((s.judged u n).monitor n).state.battery
        = (u.judgeKind false n .battery (s.monitor n)).1.state.battery := SeatMonitor.state_of_core core
    rw [grade, state, judged]
    simp only [fed, true_and]
  · next off =>
    have grade : ((s.judged u n).monitor n).grade = (s.monitor n).grade := SeatMonitor.grade_of_core core
    have state : ((s.judged u n).monitor n).state.battery = (s.monitor n).state.battery := SeatMonitor.state_of_core core
    rw [grade, state]
    by_cases was : (s.monitor n).state.battery = .qualified
    · simp [was, off]
    · have none : (s.monitor n).grade = none := by rwa [← law, Option.not_isSome_iff_eq_none] at was
      simp [was, none]

end

end

end Sys2Proof.Machine
end

section
/-! What a taken report makes of DROPOUTS, the FLOOR-class kinds, SIGNAL_LOST and the warnings of its seat. -/

namespace Sys2Proof.Machine

theorem SeatMonitor.core_opened (m : SeatMonitor) :
    (m.core .openNoFloor).state = m.state.openNoFloor ∧ (m.core .openNoFloor).pv = m.openPv := ⟨rfl, rfl⟩

section
variable {s u : State} {n : Seat} {k : Kind} (h : s.written u n)
include h

/-- A changed dropout count at the limit sets the window mark and leaves DROPOUTS QUALIFIED (R36, R63). -/
theorem State.written.dropouts (calm : (s.monitor n).state.dropouts ≠ .qualifying) :
    (((s.judged u n).monitor n).state.dropouts, ((s.judged u n).monitor n).windowMark) =
      if (changedKinds (s.seat n) (u.seat n)).get .dropouts ∧ s.params.dropoutLimit ≤ (u.seat n).dropouts then
        (.qualified, true)
      else ((s.monitor n).state.dropouts, (s.monitor n).windowMark) := by
  have core := h.core (k := .dropouts) (by simp)
  have unmoved : ((s.judged u n).monitor n).core .dropouts = (s.monitor n).core .dropouts →
      (((s.judged u n).monitor n).state.dropouts, ((s.judged u n).monitor n).windowMark)
        = ((s.monitor n).state.dropouts, (s.monitor n).windowMark) := fun same =>
    Prod.ext (SeatMonitor.state_of_core same) (SeatMonitor.mark_of_core same)
  split at core
  · next fed =>
    by_cases limit : s.params.dropoutLimit ≤ (u.seat n).dropouts
    · obtain ⟨state, mark⟩ := State.judgeDropouts_of_limit (u := u) (n := n) (by rwa [h.params]) (s.monitor n) calm false
      rw [if_pos ⟨fed, limit⟩]
      exact Prod.ext ((SeatMonitor.state_of_core core).trans state) ((SeatMonitor.mark_of_core core).trans mark)
    · rw [if_neg fun here => limit here.2]
      refine unmoved (core.trans ?_)
      rw [State.judgeDropouts_below (by rw [h.params]; exact Nat.not_le.1 limit)]
  · next off =>
    rw [if_neg fun here => off here.1]
    exact unmoved core

/-- MUTED_SPEECH moves by its condition in SITTING alone (R60, R67). -/
theorem State.written.muted : ((s.judged u n).monitor n).figure .mutedSpeech =
    if s.sitting = .sitting ∧ (changedKinds (s.seat n) (u.seat n)).get .mutedSpeech then
      eventMove s.params.mutedSpeechQualify (s.onFloor n && (u.seat n).mute == .muted && (u.seat n).voice)
        (!(s.onFloor n && (u.seat n).mute == .muted && (u.seat n).voice)) (s.monitor n).state.mutedSpeech
        (s.monitor n).mutedPv
    else (s.monitor n).figure .mutedSpeech := by
  have speaks : u.mutedSpeechHolds n = (s.onFloor n && (u.seat n).mute == .muted && (u.seat n).voice) := by
    rw [State.mutedSpeechHolds, h.floor]
  rw [h.figure (by simp), ← speaks]
  by_cases sitting : s.sitting = .sitting
  · simp only [sitting, true_and, State.judgeMutedSpeech_event (h.sitting.trans sitting), h.params]
  · have apart : u.sitting ≠ .sitting := by rwa [h.sitting]
    rw [State.judgeMutedSpeech_apart apart, ite_self, if_neg fun here => sitting here.1]

/-- OPEN_NO_FLOOR follows its condition in SITTING, where mute has changed (R62, R68). -/
theorem State.written.opened (law : (s.monitor n).state.openNoFloor ≠ .quiet ↔ s.sitting = .sitting ∧ s.openNoFloorHolds n = true) :
    ((s.judged u n).monitor n).state.openNoFloor =
      if s.sitting ≠ .sitting ∨ (s.seat n).mute = (u.seat n).mute then (s.monitor n).state.openNoFloor
      else if (u.seat n).mute = .opened ∧ s.onFloor n = false then
        (if 4 * s.params.openNoFloorLimit ≤ (s.monitor n).openPv then .qualified else .qualifying)
      else .quiet := by
  have state : ((s.judged u n).monitor n).state.openNoFloor =
      if (changedKinds (s.seat n) (u.seat n)).get .openNoFloor then
        (u.judgeKind false n .openNoFloor (s.monitor n)).1.state.openNoFloor
      else (s.monitor n).state.openNoFloor := h.state (k := .openNoFloor)
  have fed := changed_open (old := s.seat n) (new := u.seat n) h.pack
  rw [state]
  by_cases sitting : s.sitting = .sitting
  · by_cases mute : (s.seat n).mute = (u.seat n).mute
    · rw [if_neg (fun here => fed.1 here mute), if_pos (.inr mute)]
    · have judges : ¬(s.sitting ≠ .sitting ∨ (s.seat n).mute = (u.seat n).mute) := by simp [sitting, mute]
      have holds := u.openNoFloorHolds_iff n
      rw [h.floor] at holds
      rw [if_pos (fed.2 mute), if_neg judges]
      by_cases condition : (u.seat n).mute = .opened ∧ s.onFloor n = false
      · have quiet : (s.monitor n).state.openNoFloor = .quiet := by
          by_contra active
          exact mute (((s.openNoFloorHolds_iff n).1 (law.1 active).2).1.trans condition.1.symm)
        rw [if_pos condition, State.judgeOpenNoFloor_event_on (h.sitting.trans sitting) (holds.2 condition) quiet, h.params]
      · rw [if_neg condition, State.judgeOpenNoFloor_event_off (h.sitting.trans sitting)
          (Bool.eq_false_iff.2 fun on => condition (holds.1 on))]
  · have apart : u.sitting ≠ .sitting := by rwa [h.sitting]
    rw [State.judgeOpenNoFloor_apart apart, ite_self, if_pos (.inl sitting)]

/-- The present value of OPEN_NO_FLOOR returns to 0 with its record alone (R62, R74). -/
theorem State.written.openPv : ((s.judged u n).monitor n).openPv =
    if (s.monitor n).state.openNoFloor = .qualified ∧ ((s.judged u n).monitor n).state.openNoFloor = .quiet
      ∧ (s.record n .openNoFloor).any (fun r => r.state == .activeAcked) = true then 0
    else (s.monitor n).openPv := by
  have pv : (((u.evaluateAll false (oneSeat n (changedKinds (s.seat n) (u.seat n)))).monitor n).core .openNoFloor).pv
      = (s.monitor n).openPv := by
    rw [h.core_evaluateAll]
    split
    · exact State.judgeOpenNoFloor_event_pv
    · rfl
  have cleared : u.verdict false (oneSeat n (changedKinds (s.seat n) (u.seat n))) n .openNoFloor = some .cleared ↔
      (s.monitor n).state.openNoFloor = .qualified ∧ ((s.judged u n).monitor n).state.openNoFloor = .quiet := by
    have fits := (u.verdict_fits false (oneSeat n (changedKinds (s.seat n) (u.seat n))) n .openNoFloor).cleared
    have same : ((s.judged u n).monitor n).state.openNoFloor = ((u.evaluateAll false (oneSeat n (changedKinds (s.seat n)
      (u.seat n)))).monitor n).state.openNoFloor := h.agrees.state_evaluate (k := .openNoFloor) false _
    rw [h.monitor] at fits
    rw [same]
    refine ⟨fun verdict => ⟨(fits.1 verdict).1, ?_⟩, fun ⟨was, now⟩ => fits.2 ⟨was, fun qualified => ?_⟩⟩
    · rw [← (SeatMonitor.core_opened _).1]
      exact (State.openRestart_of_cleared false _ verdict).2
    · cases now.symm.trans qualified
  have core := congrArg KindPart.pv (h.agrees.core_evaluate (n := n) (k := .openNoFloor) false
    (oneSeat n (changedKinds (s.seat n) (u.seat n))))
  rw [h.record] at core
  simp only [true_and, cleared, and_assoc] at core
  rw [apply_ite KindPart.pv, pv, (SeatMonitor.core_opened _).2] at core
  exact core

/-- SIGNAL_LOST is QUIET in a seat that is HEARD (R65). -/
theorem State.written.lost (calm : (s.monitor n).state.signalLost ≠ .qualifying)
    (law : (s.monitor n).state.signalLost = .qualified ↔ s.sitting ≠ .setup ∧ (s.seat n).signal = .lost) :
    ((s.judged u n).monitor n).state.signalLost = .quiet := by
  have state : ((s.judged u n).monitor n).state.signalLost =
      if (changedKinds (s.seat n) (u.seat n)).get .signalLost then
        (u.judgeKind false n .signalLost (s.monitor n)).1.state.signalLost
      else (s.monitor n).state.signalLost := h.state (k := .signalLost)
  rw [state]
  split
  · exact State.judgeSignalLost_heard h.heard false
  · next off =>
    have same : (s.seat n).signal = (u.seat n).signal := by
      by_contra changed
      exact off ((changed_lost h.pack).2 changed)
    cases was : (s.monitor n).state.signalLost with
    | quiet => rfl
    | qualifying => exact absurd was calm
    | qualified =>
      have lost := (law.1 was).2
      rw [same, h.heard] at lost
      cases lost

/-! ## The warnings -/

theorem State.written.warned (was : (s.monitor n).state.get k ≠ .qualified)
    (now : ((s.judged u n).monitor n).state.get k = .qualified) : (s.judged u n).warned n k
      (detailOf k ((s.judged u n).seat n) ((s.judged u n).monitor n)) :=
  h.agrees.warned_evaluate false _ (by rwa [h.monitor]) now

theorem State.written.clearedReaches (was : (s.monitor n).state.get k = .qualified)
    (now : ((s.judged u n).monitor n).state.get k ≠ .qualified) : s.clearedReaches (s.judged u n) n k := by
  obtain ⟨undue, record⟩ := h.agrees.clearedReaches_evaluate false _ (by rwa [h.monitor]) now
  rw [h.record, h.clock] at record
  exact ⟨undue, record⟩

/-- A LOW that becomes CRITICAL reaches its record (R85). -/
theorem State.written.risen {r : Record} (record : s.record n .battery = some r)
    (was : (s.monitor n).state.battery = .qualified) (low : (s.monitor n).grade = some .low)
    (critical : ((s.judged u n).monitor n).grade = some .critical) : (s.judged u n).record n .battery
      = some (r.gradeRise s.params s.clock (u.seat n).est.percent) := by
  have core := h.core (k := .battery) (by simp)
  have verdict := h.verdict (k := .battery)
  split at core
  · next fed =>
    have grade : ((s.judged u n).monitor n).grade = (u.judgeKind false n .battery (s.monitor n)).1.grade :=
      SeatMonitor.grade_of_core core
    rw [if_pos fed, State.judgeBattery_rise was low (grade.symm.trans critical)] at verdict
    have risen := h.agrees.risen_evaluate false _ verdict ((h.record .battery).trans record)
    rw [h.params, h.clock] at risen
    exact risen
  · have grade : ((s.judged u n).monitor n).grade = (s.monitor n).grade := SeatMonitor.grade_of_core core
    rw [grade, low] at critical
    cases critical

end

end Sys2Proof.Machine
end

section
/-! INTAKE_PICK of a report of a bound pack (O10). -/

namespace Sys2Proof.Machine

section
variable {s : State} {p : Port} {rep : Report} {rest : List Report} {n : Seat} {r : SeatRecord}

/-- A report that closes an OPEN sequence folds its sample into A (R35). -/
theorem SeatRecord.levelStore_closeSequence (r : SeatRecord) : r.closeSequence.levelStore =
    match r.seq, r.levelStore with
    | .opened _ level _, none => some (4 * level)
    | .opened _ level _, some a => some (a - a / 4 + level)
    | _, a => a := by
  cases seq : r.seq with
  | opened number level receiver => cases store : r.levelStore <;> simp [SeatRecord.closeSequence, seq, store, foldLevel]
  | closed number => simp [SeatRecord.closeSequence, seq]
  | absent => simp [SeatRecord.closeSequence, seq]

theorem SeqState.dropouts_missed (q : SeqState) (seq : Byte) (dropouts : Nat) : min 255 (dropouts + q.missed seq) =
    match q.current with
    | some current =>
      if (seq - current).toNat ≤ 127 then min 255 (dropouts + ((seq - current).toNat - 1)) else min 255 dropouts
    | none => min 255 dropouts := by
  cases current : q.current with
  | none => simp only [SeqState.missed, current, Nat.add_zero]
  | some c =>
    simp only [SeqState.missed, current]
    split <;> rfl

theorem matchMute_eq (mute : Mute) (raw : Option Switch) (switch : Switch) : matchMute mute raw switch =
    if raw = some switch then (match switch with | .muted => .muted | .opened => .opened) else mute := by
  cases switch <;> rfl

/-- The writes of a taken report, field by field (R8, R33, R35 to R38). -/
theorem SeatRecord.take_eq (curve : Vector Breakpoint 8) (w : Nat) (r : SeatRecord) (rep : Report) (missed : Nat) :
    r.take curve w rep missed = { r with
      signal := .heard
      silence := 0
      seq := .opened rep.seq rep.level rep.receiver
      levelStore := r.closeSequence.levelStore
      dropouts := min 255 (r.dropouts + missed)
      mute := matchMute r.mute r.rawMute rep.switch
      rawMute := some rep.switch
      voice := rep.voice
      est := if rep.voltage = 0 then r.est else r.est.reading curve w rep.voltage } := by
  cases seq : r.seq <;> simp [SeatRecord.take, SeatRecord.closeSequence, seq]

/-- The state with the record of the seat written is ready to be judged. -/
theorem State.lawful.written (lawful : s.lawful) (setup : s.sitting ≠ .setup) (bound : s.bound n = true)
    (heard : r.signal = .heard) (pack : r.pack = (s.seat n).pack) :
    s.written ((s.pickedFrom p rest).putSeat n r) n := by
  have seat : ((s.pickedFrom p rest).putSeat n r).seat n = r := by rw [State.seat_putSeat, if_pos rfl]
  refine ⟨lawful.warningLaws.agrees.of_sameWarnings (State.sameWarnings_of_eq rfl rfl), rfl, rfl, rfl, rfl, rfl, rfl,
    fun _ => rfl, by rw [seat, pack], by rw [seat, heard], ?_⟩
  have bound' : ((s.pickedFrom p rest).putSeat n r).bound n = true := by rwa [State.bound, seat, pack]
  rw [State.evaluates, bound', Bool.and_true, bne_iff_ne]
  exact setup


/-- A report that feeds no kind is picked, and writes its seat's record (R32, R34). -/
theorem exec_intakePick_unfed (next : s.nextPort = some p) (fifo : (s.port p).fifo = rep :: rest)
    (held : s.seatOfPack rep.pack = some n) (written : (s.seat n).report s.curve s.params.estimatorWindow rep = r)
    (unfed : changedKinds (s.seat n) r = .nothing) :
    exec .intakePick s = .next ((s.pickedFrom p rest).putSeat n r) := by
  have unfed' : changedKinds ((s.pickedFrom p rest).seat n) r = .nothing := unfed
  rw [exec_intakePick_bound next fifo held, written, State.changeSeat_of_nothing unfed']

/-- A report that writes nothing is picked and no more (R34). -/
theorem exec_intakePick_idle (next : s.nextPort = some p) (fifo : (s.port p).fifo = rep :: rest)
    (held : s.seatOfPack rep.pack = some n) (idle : (s.seat n).report s.curve s.params.estimatorWindow rep = s.seat n) :
    exec .intakePick s = .next (s.pickedFrom p rest) :=
  (exec_intakePick_unfed next fifo held idle (changedKinds_self _)).trans
    (congrArg Host.Outcome.next ((s.pickedFrom p rest).putSeat_self n))

end

/-- What a taken report writes and leaves (R32). -/
theorem State.taken_frame (s : State) (p : Port) (rest : List Report) (n : Seat) (r : SeatRecord) {t : State}
    (h : t = (s.pickedFrom p rest).changeSeat n r) : t.seat n = r ∧ (∀ m, m ≠ n → t.seat m = s.seat m)
      ∧ t.ports = s.ports.set p { s.port p with fifo := rest } ∧ t.lastServed = p
      ∧ t = { s with
          ports := t.ports, lastServed := t.lastServed, seats := t.seats, monitors := t.monitors, records := t.records
          links := t.links }
      ∧ ∀ x : LinkId, t.link x = { s.link x with notice := (t.link x).notice } := by
  obtain ⟨core, links⟩ := (s.pickedFrom p rest).changeSeat_spec n r
  have seat := fun m => (s.pickedFrom p rest).seat_changeSeat n m r
  rw [← h] at core links seat
  refine ⟨(seat n).trans (if_pos rfl), fun m other => (seat m).trans (if_neg other), ?_, ?_, ?_, links⟩
  · rw [core]
    rfl
  · rw [core]
    rfl
  · rw [core]
    rfl

section
variable {s t : State} {p : Port} {rep : Report} {rest : List Report} {n : Seat} (next : s.nextPort = some p)
  (fifo : (s.port p).fifo = rep :: rest) (held : s.seatOfPack rep.pack = some n)
  (taken : ∀ current, (s.seat n).seq.current = some current →
    (rep.seq - current).toNat ≠ 0 ∧ (rep.seq - current).toNat < 240)
  (ran : exec .intakePick s = .next t)
include next fifo held taken ran

/-- A taken report of a bound pack is judged as the change of its seat (R4, R32). -/
theorem State.judged_of_taken : s.judged ((s.pickedFrom p rest).putSeat n
    ((s.seat n).take s.curve s.params.estimatorWindow rep ((s.seat n).seq.missed rep.seq))) n = t := by
  rw [exec_intakePick_bound next fifo held, SeatRecord.report_taken taken] at ran
  rw [← Host.Outcome.next.inj ran, State.judged, State.seat_putSeat, if_pos rfl]
  rfl

/-- In SETUP a taken report moves no qualifier and no record (R70). -/
theorem State.quiet_of_taken (setup : s.sitting = .setup) : t.monitors = s.monitors ∧ t.records = s.records := by
  have judged := State.judged_of_taken next fifo held taken ran
  rw [State.judged, State.evaluate_of_setup (by exact setup)] at judged
  rw [← judged]
  exact ⟨rfl, rfl⟩

/-- Outside SETUP the change of the seat is judged from a state that has it written (R4, R59). -/
theorem State.lawful.written_of_taken (lawful : s.lawful) (setup : s.sitting ≠ .setup) :
    ∃ u, s.written u n ∧ s.judged u n = t := by
  have bound : s.bound n = true := by
    rw [State.bound, State.pack_of_seatOfPack held]
    rfl
  exact ⟨_, lawful.written setup bound rfl (SeatRecord.pack_take ..), State.judged_of_taken next fifo held taken ran⟩

end

/-- Settles O10: what a report writes, and one judgement of its seat, with each outcome followed to its record. -/
theorem boundReportIsProcessed : Obligations.BoundReportIsProcessed := by
  unfold Obligations.BoundReportIsProcessed
  refine ⟨fun s p rep rest n current next fifo held seq => ?_, fun s p rep rest n next fifo held taken => ?_,
    fun s t p rep rest n lawful next fifo held taken ran => ?_⟩
  · refine ⟨fun level receiver same opened => ?_, fun same closed => ?_, fun late => ?_⟩
    · have echo := SeatRecord.report_echo (curve := s.curve) (w := s.params.estimatorWindow) (seq.trans (congrArg some same.symm))
      rw [opened] at echo
      exact exec_intakePick_unfed next fifo held echo (changedKinds_seq _ _)
    · have echo := SeatRecord.report_echo (curve := s.curve) (w := s.params.estimatorWindow) (seq.trans (congrArg some same.symm))
      refine exec_intakePick_idle next fifo held (echo.trans ?_)
      rw [closed, SeqState.echo, ← closed]
    · exact exec_intakePick_idle next fifo held (SeatRecord.report_late seq late)
  · have picked := exec_intakePick_bound next fifo held
    rw [SeatRecord.report_taken taken] at picked
    obtain ⟨seat, others, frame⟩ := s.taken_frame p rest n _ rfl
    refine ⟨_, picked, seat.trans ?_, others, frame⟩
    rw [SeatRecord.take_eq, SeatRecord.levelStore_closeSequence, SeqState.dropouts_missed, matchMute_eq] <;> rfl
  · intro old new was now figures estimate average speaks critical
    refine ⟨State.quiet_of_taken next fifo held taken ran, fun setup => ?_⟩
    obtain ⟨u, h, judged⟩ := lawful.written_of_taken next fifo held taken ran setup
    obtain ⟨-, -, -, -, gradeLaw, -, dropoutsCalm, lostCalm⟩ := lawful.monitor n
    obtain ⟨-, openLaw, lostLaw, -⟩ := lawful.condition n
    have seat := (State.seat_judged (s := s) (u := u) (n := n) n).symm
    have pack := h.pack
    have battery := h.battery
    have grade := h.grade gradeLaw
    have weak := h.weak
    have shortfall := h.shortfall
    have dropouts := h.dropouts dropoutsCalm
    have muted := h.muted
    have opened := h.opened openLaw
    have openPv := h.openPv
    have lost := h.lost lostCalm lostLaw
    have warned := fun k => h.warned (k := k)
    have cleared := fun k => h.clearedReaches (k := k)
    have risen := fun r => h.risen (r := r)
    rw [judged] at seat battery grade weak shortfall dropouts muted opened openPv lost warned cleared risen
    rw [seat] at pack battery grade weak shortfall dropouts muted opened
    rw [batteryCritical_eq_any] at grade
    have figures_iff := changed_battery (old := s.seat n) (new := t.seat n) pack
    refine ⟨battery.trans (if_congr figures_iff rfl rfl), ?_, weak.trans (if_congr (changed_weak pack) rfl rfl), ?_,
      dropouts.trans (if_congr (and_congr_left' (changed_dropouts pack)) rfl rfl),
      muted.trans (if_congr (and_congr_right' (changed_muted pack)) rfl rfl), opened, openPv, lost, fun k was now => ?_,
      fun k was now => cleared k was (fun qualified => by cases now.symm.trans qualified), fun r record was low critical => ?_⟩
    · exact grade.trans (if_congr Iff.rfl rfl (if_congr Iff.rfl (if_congr (and_congr_left' figures_iff) rfl rfl) rfl))
    · exact shortfall.trans (if_congr (changed_shortfall pack) (by cases new.est.minutes <;> rfl) rfl)
    · have warning := warned k was now
      cases k <;> exact warning
    · rw [risen r record was low critical, seat]
      rfl

end Sys2Proof.Machine
end

section
/-! The settled statement on the laws of the parameters, the clocks, the curve, the intake, the EEPROM, the links and
the profile controller (R23 to R25, R42, R77, R105, R119, R138, R144, R149). -/

namespace Sys2Proof.Machine

/-- Settles O55: each law holds through every move, the links' on the assumption that they are lawful before the
step. -/
theorem stepKeepsValuesInRange : Obligations.StepKeepsValuesInRange := by
  unfold Obligations.StepKeepsValuesInRange
  refine ⟨fun s t params time curve h => ?_, fun s t intake store h => ?_, fun s t links profile h => ?_⟩
  · obtain ⟨params, time⟩ := law_of_step h (fun _ _ => State.clockLaws_moves) ⟨params, time⟩
    exact ⟨params, time, law_of_step (law := fun u => curveValid u.curve = true) h (fun _ _ => State.curve_moves) curve⟩
  · exact ⟨law_of_step h (fun _ _ => State.intakeLaw_moves) intake,
      law_of_step (law := fun u => u.store.wf = true) h (fun _ _ => State.store_moves) store⟩
  · exact ⟨law_of_step h (fun _ _ move => State.linkLaw_moves move links) links,
      law_of_step h (fun _ _ => State.profileLaw_moves) profile⟩

end Sys2Proof.Machine
end

section
/-! The queue of commands through every command, and with it the settled statement that every command completes
(log 1, log 2, log 18, log 22). -/

namespace Sys2Proof.Machine

/-! ## The queue under the blocks' operations -/

section
variable (s : State)

@[simp] theorem State.pending_evaluate (tick : Bool) (kinds : Seat → PerKind Bool) :
    (s.evaluate tick kinds).pending = s.pending :=
  State.onlyMonitorAndList_pending (s.onlyMonitorAndList_evaluate ..)

@[simp] theorem State.pending_advanceSeats (who : Seat → Bool) : (s.advanceSeats who).pending = s.pending :=
  (State.onlyMonitorAndList_pending (s.changeSeats_spec _)).trans (s.mapSeats_pending _)

@[simp] theorem State.pending_countSeats : s.countSeats.pending = s.pending := s.pending_evaluate ..

@[simp] theorem State.pending_minuteSeats (who : Seat → Bool) : (s.minuteSeats who).pending = s.pending :=
  (State.onlyMonitorAndList_pending (s.minuteSeats_frame who)).trans (s.mapSeats_pending _)

@[simp] theorem State.pending_endDropoutWindow : s.endDropoutWindow.pending = s.pending :=
  (State.onlyMonitorAndList_pending s.endDropoutWindow_frame).trans
    (State.windowTables_law (P := fun u => u.pending = s.pending) (fun _ _ h => h) rfl)

@[simp] theorem State.pending_tickWindow : s.tickWindow.pending = s.pending := by
  simp only [State.tickWindow]
  split
  · exact s.pending_endDropoutWindow
  · rfl

@[simp] theorem State.pending_tickTimers : s.tickTimers.pending = s.pending := by
  simp only [State.tickTimers]
  split <;> rfl

@[simp] theorem State.pending_tickClock : s.tickClock.pending = s.pending := by
  simp only [State.tickClock]
  split <;> rfl

theorem State.pending_quarterWork (order : TickOrder) : (s.quarterWork order).pending = s.pending := by
  cases order <;> simp [State.quarterWork]

theorem State.pending_secondWork (order : SecondOrder) : (s.secondWork order).pending = s.pending := by
  cases order <;> simp [State.secondWork]

theorem State.pending_processReport (rep : Report) : (s.processReport rep).pending = s.pending := by
  obtain ⟨_, _, frame⟩ := s.processReport_frame rep
  exact (State.onlyMonitorAndList_pending frame).trans rfl

theorem State.pending_writeParameter (number v : Nat) : (s.writeParameter number v).pending = s.pending :=
  (State.onlyMonitorAndList_pending (s.writeParameter_frame number v)).trans rfl

theorem State.pending_applyImage (img : List Byte) : (s.applyImage img).pending = s.pending :=
  State.applyImage_law (P := fun u => u.pending = s.pending) img
    (fun u number v _ h => (u.pending_writeParameter number v).trans h) (fun _ _ _ _ _ _ _ _ h => h) rfl

end

/-! ## The queue under requests and characters -/

/-- Carrying out a request leaves the queue as it is. -/
theorem State.Requested.pending {s t : State} (h : s.Requested t) : t.pending = s.pending := by
  have work : ∀ {u v : State}, u.onlyMonitorAndList v → u.pending = s.pending → v.pending = s.pending :=
    fun frame hu => (State.onlyMonitorAndList_pending frame).trans hu
  cases h with
  | apart core intake links profile lines => rw [core]
  | bound n pack valid new => exact work (s.bindSeat_frame ..) (by rw [s.bindTables_eq])
  | released n => exact work (s.releaseSeat_frame n) rfl
  | grouped f group => exact s.mapSeats_pending f
  | restarted setup =>
    exact work s.restartBound_frame
      (State.restartTables_law (P := fun u => u.pending = s.pending) (fun _ _ _ _ h => h) rfl)
  | curved c valid setup => exact State.mapSeats_pending ..
  | written number v range => exact s.pending_writeParameter number v
  | seen x picked enabled => rfl
  | acked x picked held enabled => exact work (s.listWork_acknowledgeAll ..).frame rfl
  | started length range setup idle => exact work (State.onlyMonitorAndList_startMonitors _) rfl
  | scheduled length range => exact State.pending_evaluate ..
  | recessed sitting => exact work (State.onlyMonitorAndList_recessMonitors _) rfl
  | resumed recess => exact State.pending_evaluate ..
  | ended => exact State.mapMonitors_pending ..
  | granted n sitting bound off room => exact work (State.onlyMonitorAndList_granted ..) rfl
  | replaced n oldest rest sitting bound off floor => exact work (State.onlyMonitorAndList_replaced ..) rfl
  | withdrawn n sitting => exact work (State.onlyMonitorAndList_withdrawn ..) rfl
  | cleared sitting => exact work (State.onlyMonitorAndList_withdrawn ..) rfl

section
variable (s : State) (x : LinkId)

theorem State.pending_takeRequest (r : HeldRequest) : (s.takeRequest x r).pending = s.pending :=
  (s.judgeRequest_requested x r).pending

theorem State.pending_goodRequest (r : HeldRequest) : (s.goodRequest x r).pending = s.pending := by
  simp only [State.goodRequest]
  split
  · exact s.pending_takeRequest x r
  · rfl
  · rfl

theorem State.pending_requestReaches (code : Byte) (payload : List Byte) :
    (s.requestReaches x code payload).pending = s.pending := by
  simp only [State.requestReaches]
  split
  · exact State.pending_goodRequest ..
  · rfl

theorem State.pending_judgeFrame (len : Nat) (frame : List Byte) : (s.judgeFrame x len frame).pending = s.pending := by
  simp only [State.judgeFrame]
  split
  · rfl
  · split
    · exact State.pending_goodRequest ..
    · rfl

theorem State.pending_receiveCharacter (ch : Byte) (stop : Bool) :
    (s.receiveCharacter x ch stop).pending = s.pending := by
  simp only [State.receiveCharacter]
  split
  · rfl
  · split
    · split <;> rfl
    · split
      · rfl
      · split <;> rfl
    · split
      · exact State.pending_judgeFrame ..
      · rfl

end

/-! ## Every command -/

theorem State.pending_ite {c : Prop} [Decidable c] {s t u : State} (ht : t.pending = s.pending)
    (hu : u.pending = s.pending) : (if c then t else u).pending = s.pending := by
  split
  · exact ht
  · exact hu

theorem execIntakePick_pending (s : State) : ∃ t, execIntakePick s = .next t ∧ t.pending = s.pending := by
  refine ⟨_, rfl, ?_⟩
  split
  · rfl
  · split
    · rfl
    · exact State.pending_processReport ..

theorem execReplyEnd_pending (x : LinkId) (protect : Bool) (s : State) :
    ∃ t, execReplyEnd x protect s = .next t ∧ t.pending = s.pending := by
  refine ⟨_, rfl, ?_⟩
  split
  · rfl
  · rfl
  · exact State.pending_takeRequest ..

theorem execLoadComplete_pending (s : State) : ∃ t, execLoadComplete s = .next t ∧ t.pending = s.pending := by
  refine ⟨_, rfl, State.pending_ite ?_ rfl⟩
  dsimp only
  split
  · rfl
  · split
    · rfl
    · rw [State.endProfile_pending, State.pending_applyImage]

/-- Settles O2: the part has no fault and refuses no command, and no event of a block reads or writes the queue. -/
theorem everyCommandCompletes : Obligations.EveryCommandCompletes := by
  unfold Obligations.EveryCommandCompletes
  intro c s
  cases hc : asRequest c with
  | some r => exact ⟨_, exec_request hc s, State.pending_requestReaches ..⟩
  | none =>
    cases c <;> simp only [asRequest, reduceCtorEq] at hc
    case resetPin => exact ⟨_, rfl, rfl⟩
    case portCharacter => exact ⟨_, rfl, rfl⟩
    case intakePick => exact execIntakePick_pending s
    case quarterTick order => exact ⟨_, rfl, (State.pending_quarterWork _ order).trans s.takeSetValues_pending⟩
    case enterFading => exact ⟨_, rfl, State.pending_ite (State.pending_advanceSeats ..) rfl⟩
    case enterLost => exact ⟨_, rfl, State.pending_ite (State.pending_advanceSeats ..) rfl⟩
    case qualifierExpiry => exact ⟨_, rfl, State.pending_ite (State.pending_evaluate ..) rfl⟩
    case accumulationLimit => exact ⟨_, rfl, State.pending_ite (State.pending_evaluate ..) rfl⟩
    case secondTick order => exact ⟨_, rfl, s.pending_secondWork order⟩
    case dropoutWindowEnd => exact ⟨_, rfl, State.pending_ite s.pending_endDropoutWindow rfl⟩
    case escalationExpiry =>
      refine ⟨_, rfl, ?_⟩
      split
      · rfl
      · exact State.pending_ite rfl rfl
    case minuteTick => exact ⟨_, rfl, s.pending_minuteSeats _⟩
    case drainWindowComplete => exact ⟨_, rfl, State.pending_ite (State.pending_minuteSeats ..) rfl⟩
    case linkCharacter => exact ⟨_, rfl, State.pending_ite (State.pending_receiveCharacter ..) rfl⟩
    case replyEnd x protect => exact execReplyEnd_pending x protect s
    case linkBreak => exact ⟨_, rfl, State.pending_ite rfl rfl⟩
    case saveComplete => exact ⟨_, rfl, State.pending_ite rfl rfl⟩
    case loadComplete => exact execLoadComplete_pending s
    case compareComplete =>
      exact ⟨_, rfl, State.pending_ite (State.pending_ite rfl (State.pending_ite rfl rfl)) rfl⟩
    case storeFault =>
      refine ⟨_, rfl, ?_⟩
      split <;> rfl
    case linkReturnToMark => exact ⟨_, rfl, rfl⟩

end Sys2Proof.Machine
end

section
/-! What a character makes of a receiver port, said once per case of R21, and with it the settled statements on port
characters and complete frames (R21 to R26). -/

namespace Sys2Proof.Machine

/-! ## Flags and the test of a frame -/

section
variable (p : Port) (t : PortState) (frame : List Byte)

/-- FRAMING becomes set on a STARTED port alone (R21, R25). -/
theorem PortState.flag_framing : t.flag (fun f => { f with framing := true })
    = { t with flags := { t.flags with framing := t.flags.framing || t.started } } := by
  obtain ⟨started, assembly, fifo, flags⟩ := t
  cases started <;> simp [PortState.flag]

/-- FORMAT becomes set on a STARTED port alone (R21, R25). -/
theorem PortState.flag_format : t.flag (fun f => { f with format := true })
    = { t with flags := { t.flags with format := t.flags.format || t.started } } := by
  obtain ⟨started, assembly, fifo, flags⟩ := t
  cases started <;> simp [PortState.flag]

/-- On a STARTED port a flag is set (R26). -/
theorem PortState.flag_of_started {t : PortState} (started : t.started = true) (f : LineFlags → LineFlags) :
    t.flag f = { t with flags := f t.flags } := if_pos started

/-- A STOPPED port discards a complete frame without a test or a flag (R25). -/
theorem PortState.judge_of_stopped {t : PortState} (stopped : t.started = false) : t.judge p frame = t := by
  simp [PortState.judge, stopped]

end

/-! ## A character (R21) -/

section
variable (p : Port) {t : PortState} (ch : Byte)

theorem PortState.receive_of_stopAtSpace (t : PortState) : t.receive p ch true
    = { t with assembly := .hunt, flags := { t.flags with framing := t.flags.framing || t.started } } := by
  rw [PortState.receive, if_pos rfl, PortState.flag_framing]

theorem PortState.receive_of_hunt (hunt : t.assembly = .hunt) :
    t.receive p ch false = { t with assembly := if ch = 0x5A then .length else .hunt } := by
  simp only [PortState.receive, hunt, Bool.false_eq_true, if_false]
  split
  · rfl
  · rw [← hunt]

theorem PortState.receive_of_length (length : t.assembly = .length) : t.receive p ch false
    = if ch = 0x09 then { t with assembly := .body [] }
      else if ch = 0x5A then { t with assembly := .length }
      else { t with assembly := .hunt, flags := { t.flags with format := t.flags.format || t.started } } := by
  simp only [PortState.receive, length, Bool.false_eq_true, if_false]
  split
  · rfl
  · split
    · rw [← length]
    · rw [PortState.flag_format]

theorem PortState.receive_of_short {got : List Byte} (body : t.assembly = .body got) (short : got.length < 9) :
    t.receive p ch false = { t with assembly := .body (got ++ [ch]) } := by
  have grows : ¬10 ≤ (got ++ [ch]).length := by
    rw [List.length_append, List.length_singleton]
    omega
  simp only [PortState.receive, body, Bool.false_eq_true, if_false, grows]

/-- The tenth character of a body completes the frame, which is judged with the port back in HUNT. -/
theorem PortState.receive_of_complete {got : List Byte} (body : t.assembly = .body got) (nine : got.length = 9) :
    t.receive p ch false = { t with assembly := .hunt }.judge p (got ++ [ch]) := by
  have complete : 10 ≤ (got ++ [ch]).length := by
    rw [List.length_append, List.length_singleton]
    omega
  simp only [PortState.receive, body, Bool.false_eq_true, if_false, complete, if_true]

end

/-- PORT_CHARACTER writes its port alone. -/
theorem exec_portCharacter {p : Port} {ch : Byte} {stop : Bool} {s : State} {t : PortState}
    (h : (s.port p).receive p ch stop = t) : exec (.portCharacter p ch stop) s = .next (s.putPort p t) :=
  h ▸ rfl

/-- Settles O7: the cases of the assembly, one lemma each. -/
theorem portCharacterMovesAssembly : Obligations.PortCharacterMovesAssembly := by
  unfold Obligations.PortCharacterMovesAssembly
  refine ⟨fun s p ch => ⟨?_, fun hunt => ?_, fun length => ?_, fun got body short => ?_⟩,
    fun s p got ch stopped body nine => ?_⟩
  · exact exec_portCharacter (PortState.receive_of_stopAtSpace ..)
  · exact exec_portCharacter (PortState.receive_of_hunt p ch hunt)
  · exact exec_portCharacter (PortState.receive_of_length p ch length)
  · exact exec_portCharacter (PortState.receive_of_short p ch body short)
  · exact exec_portCharacter
      ((PortState.receive_of_complete p ch body nine).trans (PortState.judge_of_stopped p _ stopped))

/-! ## A complete frame (R22, R23) -/

theorem validPack_eq_false_iff {pack : Nat} (range : pack < 2 ^ 24) :
    validPack (BitVec.ofNat 24 pack) = false ↔ pack = 0 ∨ pack = 0xFFFFFF := by
  simp only [validPack, Bool.and_eq_false_iff, bne_eq_false_iff_eq, ← BitVec.toNat_inj, BitVec.toNat_ofNat,
    Nat.mod_eq_of_lt range]
  rfl

/-- A signal strength below -120 dBm is level 0, one above -20 dBm level 100 (R23). -/
theorem levelOf_eq (dbm : Byte) : levelOf dbm
    = if dbm.toInt < -120 then 0 else if -20 < dbm.toInt then 100 else (dbm.toInt + 120).toNat := by
  simp only [levelOf]
  split
  · omega
  · split <;> omega

/-- The report of a frame, its pack and voltage as the numbers of their bytes (R23). -/
theorem reportOf_eq (p : Port) (hi mid lo seq level vhi vlo flags : Byte) {pack mv : Nat}
    (hpack : pack = 65536 * hi.toNat + 256 * mid.toNat + lo.toNat) (hmv : mv = 256 * vhi.toNat + vlo.toNat) :
    reportOf p hi mid lo seq level vhi vlo flags = {
      receiver := p, pack := BitVec.ofNat 24 pack, seq := seq
      level := if level.toInt < -120 then 0 else if -20 < level.toInt then 100 else (level.toInt + 120).toNat
      voltage := if 4095 < mv then 4095 else mv
      switch := if flags.getLsbD 0 then .muted else .opened, voice := flags.getLsbD 1 } := by
  have voltage : min 4095 (number2 vhi vlo) = if 4095 < mv then 4095 else mv := by
    simp only [number2]
    split <;> omega
  simp only [reportOf, packOf, levelOf_eq, voltage, hpack, Nat.mul_comm]

/-- Settles O8: on a STARTED port the tests of a complete frame, each in the figures of its bytes. -/
theorem completeFrameIsJudged : Obligations.CompleteFrameIsJudged := by
  unfold Obligations.CompleteFrameIsJudged
  intro s p type hi mid lo seq level vhi vlo flags check started body q sum pack mv
  refine exec_portCharacter ((PortState.receive_of_complete p check body rfl).trans ?_)
  have check_iff : (9 + byteSum [type, hi, mid, lo, seq, level, vhi, vlo, flags, check]) % 256 ≠ 0 ↔ sum % 256 ≠ 0 := by
    simp [sum, byteSum, Nat.add_assoc]
  have range : pack < 2 ^ 24 := by
    simp only [pack]
    omega
  have packed : packOf hi mid lo = BitVec.ofNat 24 pack := by simp only [packOf, pack, Nat.mul_comm]
  have form_iff : (type ≠ 0x01 ∨ validPack (packOf hi mid lo) = false) ↔ type ≠ 0x01 ∨ pack = 0 ∨ pack = 0xFFFFFF :=
    or_congr Iff.rfl (packed ▸ validPack_eq_false_iff range)
  have flagged : ∀ f, q.flag f = { q with flags := f q.flags } := PortState.flag_of_started started
  change q.judge p _ = _
  simp only [List.cons_append, List.nil_append, PortState.judge, flagged, show q.started = true from started,
    Bool.not_true, Bool.false_eq_true, if_false, check_iff, form_iff, reportOf_eq p hi mid lo seq level vhi vlo flags
    (pack := pack) (mv := mv) rfl rfl, Config.fifoCapacity]

end Sys2Proof.Machine
end

section
/-! PORT START, PORT STOP, CLEAR PORT FLAGS and READ PORTS (R27 to R29). -/

namespace Sys2Proof.Machine

/-! ## Sets as bits (10.3) -/

/-- The number of a set has a bit set exactly for each member. -/
theorem testBit_bits (bs : List Bool) (i : Nat) : (bits bs).testBit i = bs.getD i false := by
  induction bs generalizing i with
  | nil => simp [bits]
  | cons b bs ih =>
    have number : bits (b :: bs) = Nat.bit b (bits bs) := by
      cases b <;> simp [bits, boolCode, Nat.bit_val, Nat.add_comm]
    rw [number]
    cases i with
    | zero => simp
    | succ i => simpa [Nat.testBit_bit_succ] using ih i

/-- The statuses of a reply have the bit of each STARTED port set (R27). -/
theorem getLsbD_startedSet (s : State) (p : Port) : (byte (startedSet s.ports)).getLsbD p.val = (s.port p).started := by
  have within : p.val < (s.ports.toList.map PortState.started).length := by simp
  rw [byte, BitVec.getLsbD_ofNat, startedSet, testBit_bits, List.getD_eq_getElem _ _ within]
  simp [State.port]

/-! ## Each request on a ready link -/

/-- What PORT START makes of one port (R27). -/
def startedBy (set : Byte) (p : Port) (t : PortState) : PortState :=
  if set.getLsbD p.val then { t with started := true } else t

/-- What PORT STOP makes of one port (R27). -/
def stoppedBy (set : Byte) (p : Port) (t : PortState) : PortState :=
  if set.getLsbD p.val then { t with started := false, fifo := [] } else t

theorem startedBy_eq (set : Byte) (p : Port) (t : PortState) :
    startedBy set p t = { t with started := set.getLsbD p.val || t.started } := by
  rw [startedBy]
  split
  · next named => rw [named, Bool.true_or]
  · next other => rw [Bool.eq_false_of_not_eq_true other, Bool.false_or]

section
variable {s : State} {x : LinkId} {set : Byte} (ready : s.ready x) (rest : List Byte)
include ready

theorem exec_portStart (role : (s.link x).role = .technical) (named : set ≠ 0) :
    exec (.portStart x (set :: rest)) s = .next ((s.mapPorts (startedBy set)).replied x 0x0B .ok
      [byte (startedSet (s.mapPorts (startedBy set)).ports)]) := by
  refine congrArg Host.Outcome.next (State.requestReaches_of_answer ready (q := .portStart) ?_)
  simp only [serve, servePortStart, State.technical_listening, State.technical_of_role role, named, Bool.not_true,
    Bool.false_eq_true, if_false, ← State.mapPorts_listening]
  rfl

theorem exec_portStop (role : (s.link x).role = .technical) (named : set ≠ 0) :
    exec (.portStop x (set :: rest)) s = .next ((s.mapPorts (stoppedBy set)).replied x 0x0C .ok
      [byte (startedSet (s.mapPorts (stoppedBy set)).ports)]) := by
  refine congrArg Host.Outcome.next (State.requestReaches_of_answer ready (q := .portStop) ?_)
  simp only [serve, servePortStop, State.technical_listening, State.technical_of_role role, named, Bool.not_true,
    Bool.false_eq_true, if_false, ← State.mapPorts_listening]
  rfl

theorem exec_clearPortFlags {port : Byte} {p : Port} (role : (s.link x).role = .technical) (names : port.toNat = p.val) :
    exec (.clearPortFlags x (port :: set :: rest)) s = .next
      ((s.putPort p { s.port p with flags := (s.port p).flags.clearNamed set }).replied x 0x0D .ok
        [byte ((s.port p).flags.clearNamed set).code]) := by
  refine congrArg Host.Outcome.next (State.requestReaches_of_answer ready (q := .clearPortFlags) ?_)
  have named : portOf port = some p := by simp [portOf, names]
  simp only [serve, serveClearPortFlags, State.technical_listening, State.technical_of_role role, named, Bool.not_true,
    Bool.false_eq_true, if_false]
  rfl

theorem exec_readPorts : exec (.readPorts x rest) s = .next (s.replied x 0x0A .ok
    ((s.ports.toList.flatMap fun q => [byte (boolCode q.started), byte q.fifo.length, byte q.flags.code])
      ++ [byte s.lastServed.val])) := by
  refine congrArg Host.Outcome.next (State.requestReaches_of_answer ready (q := .readPorts) ?_)
  simp only [serve, serveReadPorts, State.anyRole_listening, State.anyRole_of_ready ready, Bool.not_true,
    Bool.false_eq_true, if_false]
  rfl

end

/-- The ports in order. -/
theorem State.ports_toList (s : State) : s.ports.toList = (List.finRange 8).map s.port := by
  refine List.ext_getElem (by simp) fun i _ _ => ?_
  simp [State.port]

/-- Settles O11: each request on its ready link, read port by port. -/
theorem portRequests : Obligations.PortRequests := by
  unfold Obligations.PortRequests
  refine ⟨fun s x set rest ready role named => ⟨?_, ?_⟩, fun s x rest ready => ⟨fun port set p role names => ?_, ?_⟩⟩
  · refine ⟨_, _, exec_portStart ready rest role named, by simp only [State.mapPorts], fun p => ⟨?_, getLsbD_startedSet ..⟩⟩
    rw [State.port_mapPorts, startedBy_eq]
  · exact ⟨_, _, exec_portStop ready rest role named, by simp only [State.mapPorts], fun p =>
      ⟨State.port_mapPorts .., getLsbD_startedSet ..⟩⟩
  · exact ⟨_, rfl, exec_clearPortFlags ready rest role names⟩
  · rw [exec_readPorts ready rest, State.ports_toList, List.flatMap_map]
    rfl

end Sys2Proof.Machine
end

section
/-! The requests that read the configuration, and SET CURVE (R41, R42, R44, R45, R79, R148). -/

namespace Sys2Proof.Machine

/-! ## READ PARAMETER, READ CURVE and READ PROFILE STATUS -/

section
variable {s : State} {x : LinkId} (ready : s.ready x) (rest : List Byte)
include ready

theorem exec_readParameter {number : Byte} (low : 1 ≤ number.toNat) (high : number.toNat ≤ 21) :
    exec (.readParameter x (number :: rest)) s
      = .next (s.replied x 0x11 .ok (number :: bytes2 (s.params.get number.toNat))) := by
  refine congrArg Host.Outcome.next (State.requestReaches_of_answer ready (q := .readParameter) ?_)
  have one : number ≠ 0 := by
    rintro rfl
    exact absurd low (by decide)
  simp only [serve, serveReadParameter, State.anyRole_listening, State.anyRole_of_ready ready, Nat.not_lt.2 high, one,
    Bool.not_true, Bool.false_eq_true, if_false]
  rfl

theorem exec_readParameter_all : exec (.readParameter x (0 :: rest)) s = .next (s.replied x 0x11 .ok
    (0 :: (List.range 21).flatMap fun i => bytes2 (s.params.get (i + 1)))) := by
  have read : serve .readParameter x (0 :: rest) (s.listening x) = (s.listening x).answer .ok
      (0 :: parameterNumbers.flatMap fun n => bytes2 (s.params.get n)) := by
    have role := State.anyRole_of_ready ready
    simp [serve, serveReadParameter, role]
  refine congrArg Host.Outcome.next ((State.requestReaches_of_answer ready read).trans ?_)
  rw [parameterNumbers, List.flatMap_map]
  rfl

theorem exec_readParameter_range {number : Byte} (above : 21 < number.toNat) :
    exec (.readParameter x (number :: rest)) s = .next (s.replied x 0x11 .range []) := by
  refine congrArg Host.Outcome.next (State.requestReaches_of_refused ready (q := .readParameter) ?_)
  simp only [serve, serveReadParameter, State.anyRole_listening, State.anyRole_of_ready ready, above, Bool.not_true,
    Bool.false_eq_true, if_false, if_true]

theorem exec_readCurve : exec (.readCurve x rest) s = .next (s.replied x 0x0F .ok (curveBytes s.curve)) := by
  refine congrArg Host.Outcome.next (State.requestReaches_of_answer ready (q := .readCurve) ?_)
  simp only [serve, serveReadCurve, State.anyRole_listening, State.anyRole_of_ready ready, Bool.not_true,
    Bool.false_eq_true, if_false]
  rfl

end

/-- READ PROFILE STATUS is judged by its rule during the start-up load too (R140 step 1). -/
theorem State.judgeRequest_readProfileStatus (s : State) (x : LinkId) (payload : List Byte) :
    s.judgeRequest x ⟨Request.readProfileStatus.code, payload⟩ = serveReadProfileStatus x payload s := by
  simp only [State.judgeRequest, requestOf_code, Request.duringStartUp, Bool.not_true, Bool.and_false,
    Bool.false_eq_true, if_false, serve]

theorem exec_readProfileStatus {s : State} {x : LinkId} (hears : (s.link x).hears = true)
    (idle : (s.link x).reply = none) (rest : List Byte) (protect : Bool) :
    exec (.readProfileStatus x rest protect) s = .next ((s.samplePin protect).replied x 0x25 .ok
      [byte s.profile.slotCount, byte (boolCode protect), byte s.profile.op.code, byte s.profile.lastOp.code,
        orFF s.profile.lastSlot, byte s.profile.lastResult.code]) := by
  have enabled : (s.link x).enabled = true := by
    simp only [LinkState.hears, Bool.and_eq_true] at hears
    exact hears.1
  have role : ((s.samplePin protect).listening x).anyRole x = true := by
    rw [State.anyRole_listening]
    exact enabled
  refine congrArg Host.Outcome.next
    ((State.requestReaches_of_idle (s := s.samplePin protect) hears idle 0x25 rest).trans ?_)
  refine State.takeRequest_of_refused ((State.judgeRequest_readProfileStatus ..).trans ((if_neg ?_).trans rfl))
  exact fun off => absurd role (by simpa [State.listening] using off)

/-- Settles O28: the rules' answers in the state as it stands. -/
theorem configurationReadsReport : Obligations.ConfigurationReadsReport := by
  unfold Obligations.ConfigurationReadsReport
  exact ⟨fun s x rest ready => ⟨fun _ low high => exec_readParameter ready rest low high,
      exec_readParameter_all ready rest, fun _ above => exec_readParameter_range ready rest above,
      exec_readCurve ready rest⟩,
    fun s x rest protect hears idle => exec_readProfileStatus hears idle rest protect⟩

/-! ## SET CURVE -/

/-- The three bytes of a breakpoint (10.5). -/
def breakpointBytes (b : Breakpoint) : List Byte := bytes2 b.mv ++ [byte b.percent]

/-- A breakpoint is read back from its place among its like, where its figures fit their bytes. -/
theorem breakpointAt_bytes (rest : List Byte) : ∀ (bs : List Breakpoint) (i : Nat) (h : i < bs.length),
    (∀ b ∈ bs, b.mv < 65536 ∧ b.percent < 256) → breakpointAt (bs.flatMap breakpointBytes ++ rest) i = bs[i]
  | b :: bs, 0, _, range => by
    obtain ⟨mv, percent⟩ := range b List.mem_cons_self
    have voltage := number2_bytes2 mv
    have charge : (byte b.percent).toNat = b.percent := by
      simp only [byte, BitVec.toNat_ofNat]
      omega
    simp [breakpointAt, breakpointBytes, bytes2, voltage, charge]
  | b :: bs, i + 1, h, range => by
    have next := breakpointAt_bytes rest bs i (Nat.lt_of_succ_lt_succ h) fun c hc =>
      range c (List.mem_cons_of_mem _ hc)
    simp only [List.getElem_cons_succ, ← next]
    have ahead : 3 * (i + 1) = 3 * i + 3 := by omega
    simp [breakpointAt, breakpointBytes, bytes2, ahead]

/-- A curve is read back from its bytes (10.5). -/
theorem curveOfBytes_curveBytes {curve : Vector Breakpoint 8}
    (range : ∀ b ∈ curve.toList, b.mv < 65536 ∧ b.percent < 256) (rest : List Byte) :
    curveOfBytes (curveBytes curve ++ rest) = curve := by
  refine Vector.ext fun i h => ?_
  have read := breakpointAt_bytes rest curve.toList i (by simpa using h) range
  rw [curveOfBytes, Vector.getElem_ofFn]
  exact read.trans (by simp)

theorem length_curveBytes (curve : Vector Breakpoint 8) : (curveBytes curve).length = 24 := by
  simp [curveBytes, List.length_flatMap]

theorem State.restartEstimators_listening (s : State) (x : LinkId) :
    (s.listening x).restartEstimators = s.restartEstimators.listening x := s.mapSeats_listening x _

section
variable {s : State} {x : LinkId} {curve : Vector Breakpoint 8} (ready : s.ready x)
  (role : (s.link x).role = .technical) (idle : s.loading = false) (setup : s.sitting = .setup)
  (range : ∀ b ∈ curve.toList, b.mv < 65536 ∧ b.percent < 256) (rest : List Byte)
include ready role idle setup range

theorem exec_setCurve_valid (valid : curveValid curve = true) :
    exec (.setCurve x (curveBytes curve ++ rest)) s
      = .next ({ s with curve := curve }.restartEstimators.replied x 0x0E .ok (curveBytes curve)) := by
  refine congrArg Host.Outcome.next (State.requestReaches_of_answer ready (q := .setCurve) ?_)
  have whole : ¬((curveBytes curve ++ rest).length < 24 ∨ curveValid curve = false) := by
    simp [length_curveBytes, valid]
  have admitted : ¬(s.listening x).sitting ≠ .setup := not_not_intro setup
  simp only [serve, serveSetCurve, State.technical_listening, State.technical_of_role role, State.loading_listening, idle,
    admitted, curveOfBytes_curveBytes range, whole, Bool.not_true, Bool.false_eq_true, if_false]
  exact congrArg (State.answer · _ _) (State.restartEstimators_listening { s with curve := curve } x)

theorem exec_setCurve_invalid (invalid : curveValid curve = false) :
    exec (.setCurve x (curveBytes curve ++ rest)) s = .next (s.replied x 0x0E .range []) := by
  refine congrArg Host.Outcome.next (State.requestReaches_of_refused ready (q := .setCurve) ?_)
  simp only [serve, serveSetCurve, State.technical_listening, State.technical_of_role role, State.loading_listening, idle,
    State.sitting_listening, setup, curveOfBytes_curveBytes range, invalid, or_true, ne_eq, not_true_eq_false,
    Bool.not_true, Bool.false_eq_true, if_false, if_true]

end

/-- Settles O15: the curve's bytes read back as the curve, which the rule takes or refuses. -/
theorem setCurveReplacesAndRestarts : Obligations.SetCurveReplacesAndRestarts := by
  unfold Obligations.SetCurveReplacesAndRestarts
  intro s x curve rest ready role idle setup range
  refine ⟨fun valid => ⟨_, exec_setCurve_valid ready role idle setup range rest valid, ?_, fun n => ?_⟩,
    fun invalid => exec_setCurve_invalid ready role idle setup range rest invalid⟩
  · simp only [State.restartEstimators, State.mapSeats]
  · simp only [State.restartEstimators, State.seat_mapSeats]
    rfl

end Sys2Proof.Machine
end

section
/-! The curve function, one voltage reading, and a constant voltage that settles a record (R43, R46 to R48, R53). -/

namespace Sys2Proof.Machine

/-! ## The curve function (R43) -/

theorem curveOrdered_cons {b c : Breakpoint} {bs : List Breakpoint} (h : curveOrdered (b :: c :: bs) = true) :
    b.mv < c.mv ∧ b.percent ≤ c.percent ∧ curveOrdered (c :: bs) = true := by
  simpa [curveOrdered, and_assoc] using h

/-- The first breakpoint of an ordered stretch has the lowest voltage. -/
theorem mv_le_of_curveOrdered {b : Breakpoint} : ∀ {bs : List Breakpoint}, curveOrdered (b :: bs) = true →
    ∀ c ∈ b :: bs, b.mv ≤ c.mv
  | [], _, c, hc => by
    rw [List.mem_singleton.1 hc]
  | d :: ds, ordered, c, hc => by
    obtain ⟨rising, -, rest⟩ := curveOrdered_cons ordered
    rcases List.mem_cons.1 hc with rfl | later
    · exact Nat.le_refl _
    · exact Nat.le_trans (Nat.le_of_lt rising) (mv_le_of_curveOrdered rest c later)

section
variable {b c : Breakpoint} {bs : List Breakpoint} {x : Nat}

theorem curveSegment_below (h : x < c.mv) :
    curveSegment (b :: c :: bs) x = b.percent + (x - b.mv) * (c.percent - b.percent) / (c.mv - b.mv) := if_pos h

theorem curveSegment_above (h : c.mv ≤ x) : curveSegment (b :: c :: bs) x = curveSegment (c :: bs) x :=
  if_neg (Nat.not_lt.2 h)

/-- Up to the first voltage the line of the first segment stands at its first percent. -/
theorem curveSegment_first (ordered : curveOrdered (b :: bs) = true) (h : x ≤ b.mv) :
    curveSegment (b :: bs) x = b.percent := by
  cases bs with
  | nil => rfl
  | cons c cs =>
    obtain ⟨rising, -⟩ := curveOrdered_cons ordered
    rw [curveSegment_below (Nat.lt_of_le_of_lt h rising), Nat.sub_eq_zero_of_le h]
    simp

/-- Within a segment the line stands below the next percent, unless the segment is flat. -/
theorem segment_lt (rising : x < c.mv) (climbs : b.percent < c.percent) :
    b.percent + (x - b.mv) * (c.percent - b.percent) / (c.mv - b.mv) < c.percent := by
  by_cases h : b.mv ≤ x
  · have part : (x - b.mv) * (c.percent - b.percent) / (c.mv - b.mv) < c.percent - b.percent := by
      rw [Nat.div_lt_iff_lt_mul (by omega), Nat.mul_comm]
      exact Nat.mul_lt_mul_of_pos_left (by omega) (by omega)
    omega
  · rw [Nat.sub_eq_zero_of_le (by omega)]
    simpa using climbs

/-- The percent within a segment is below the next percent or the segment's own. -/
theorem segment_lt_or_eq (rising : x < c.mv) (ordered : b.percent ≤ c.percent) :
    b.percent + (x - b.mv) * (c.percent - b.percent) / (c.mv - b.mv) < c.percent
      ∨ b.percent + (x - b.mv) * (c.percent - b.percent) / (c.mv - b.mv) = b.percent := by
  rcases Nat.lt_or_eq_of_le ordered with climbs | flat
  · exact .inl (segment_lt rising climbs)
  · exact .inr (by simp [flat])

end

/-- An ordered stretch starts at its first percent. -/
theorem le_curveSegment {b : Breakpoint} : ∀ {bs : List Breakpoint}, curveOrdered (b :: bs) = true → ∀ x,
    b.percent ≤ curveSegment (b :: bs) x
  | [], _, _ => Nat.le_refl _
  | c :: cs, ordered, x => by
    obtain ⟨-, climbs, rest⟩ := curveOrdered_cons ordered
    rcases Nat.lt_or_ge x c.mv with below | above
    · rw [curveSegment_below below]
      exact Nat.le_add_right ..
    · rw [curveSegment_above above]
      exact Nat.le_trans climbs (le_curveSegment rest x)

/-- An ordered stretch never falls as the voltage rises. -/
theorem curveSegment_mono : ∀ {bs : List Breakpoint}, curveOrdered bs = true → ∀ {x y}, x ≤ y →
    curveSegment bs x ≤ curveSegment bs y
  | [], _, _, _, _ => Nat.le_refl _
  | [_], _, _, _, _ => Nat.le_refl _
  | b :: c :: cs, ordered, x, y, h => by
    obtain ⟨rising, climbs, rest⟩ := curveOrdered_cons ordered
    rcases Nat.lt_or_ge y c.mv with below | above
    · rw [curveSegment_below below, curveSegment_below (Nat.lt_of_le_of_lt h below)]
      exact Nat.add_le_add_left (Nat.div_le_div_right (Nat.mul_le_mul_right _ (Nat.sub_le_sub_right h _))) _
    · rw [curveSegment_above above]
      rcases Nat.lt_or_ge x c.mv with below | above
      · rw [curveSegment_below below]
        refine Nat.le_trans ?_ (le_curveSegment rest y)
        rcases segment_lt_or_eq below climbs with lt | eq
        · exact Nat.le_of_lt lt
        · rw [eq]
          exact climbs
      · rw [curveSegment_above above]
        exact curveSegment_mono rest h

/-- From the last voltage on an ordered stretch stands at its last percent. -/
theorem curveSegment_last : ∀ {bs : List Breakpoint} {x : Nat} (some : bs ≠ []), curveOrdered bs = true →
    (bs.getLast some).mv ≤ x → curveSegment bs x = (bs.getLast some).percent
  | [_], _, _, _, _ => rfl
  | b :: c :: cs, x, _, ordered, h => by
    obtain ⟨-, -, rest⟩ := curveOrdered_cons ordered
    rw [List.getLast_cons (List.cons_ne_nil c cs)] at h ⊢
    rw [curveSegment_above (Nat.le_trans (mv_le_of_curveOrdered rest _ (List.getLast_mem _)) h)]
    exact curveSegment_last (List.cons_ne_nil c cs) rest h

/-- Between two breakpoints of an ordered stretch runs the line of their segment. -/
theorem curveSegment_between : ∀ {bs : List Breakpoint} {x : Nat} (i : Nat) (h : i + 1 < bs.length),
    curveOrdered bs = true → bs[i].mv ≤ x → x < bs[i + 1].mv → bs[i].percent ≤ bs[i + 1].percent
      ∧ curveSegment bs x = bs[i].percent + (x - bs[i].mv) * (bs[i + 1].percent - bs[i].percent) / (bs[i + 1].mv - bs[i].mv)
  | b :: c :: cs, x, 0, _, ordered, _, below => ⟨(curveOrdered_cons ordered).2.1, curveSegment_below below⟩
  | b :: c :: cs, x, i + 1, h, ordered, above, below => by
    obtain ⟨-, -, rest⟩ := curveOrdered_cons ordered
    have past : c.mv ≤ x := Nat.le_trans (mv_le_of_curveOrdered rest _ (List.getElem_mem _)) above
    rw [curveSegment_above past]
    exact curveSegment_between i (Nat.lt_of_succ_lt_succ h) rest above below

theorem curveOrdered_of_valid {curve : Vector Breakpoint 8} (valid : curveValid curve = true) :
    curveOrdered curve.toList = true := (Bool.and_eq_true_iff.1 valid).2

/-- On a valid curve the case below the first voltage is that of the first segment. -/
theorem curvePercent_eq {curve : Vector Breakpoint 8} (valid : curveValid curve = true) (x : Nat) :
    curvePercent curve x = curveSegment curve.toList x := by
  rw [curvePercent]
  split
  · next low =>
    obtain ⟨b, bs, split⟩ := List.exists_cons_of_length_pos (l := curve.toList) (by simp)
    have first : curve[0] = b := by
      rw [← Vector.getElem_toList (by simp)]
      simp only [split, List.getElem_cons_zero]
    have ordered := curveOrdered_of_valid valid
    rw [split] at ordered ⊢
    rw [first] at low ⊢
    exact (curveSegment_first ordered low).symm
  · rfl

/-- Settles O12: the segments of the curve in turn. -/
theorem curveFunctionFollowsTheBreakpoints : Obligations.CurveFunctionFollowsTheBreakpoints := by
  unfold Obligations.CurveFunctionFollowsTheBreakpoints
  intro curve valid
  have ordered := curveOrdered_of_valid valid
  have last : curve.toList.getLast (List.ne_nil_of_length_pos (by simp)) = curve[7] := by
    simp [List.getLast_eq_getElem]
  refine ⟨fun v low => if_pos low, fun v high => ?_, fun i v above below => ?_, fun v w h => ?_, curvePercent_le valid⟩
  · rw [curvePercent_eq valid, ← last]
    exact curveSegment_last _ ordered (by rwa [last])
  · obtain ⟨climbs, line⟩ := curveSegment_between (bs := curve.toList) i.val (by simp; omega) ordered (by simpa using above)
      (by simpa using below)
    simp only [Vector.getElem_toList] at climbs line
    rw [curvePercent_eq valid]
    refine ⟨line, ?_⟩
    rw [line]
    exact segment_lt_or_eq below climbs
  · rw [curvePercent_eq valid, curvePercent_eq valid]
    exact curveSegment_mono ordered h

/-! ## One reading (R46 to R48, R53) -/

theorem minutesLeft_eq (p : Nat) (drain : Option Nat) (w : Nat) : minutesLeft p drain w = match drain with
    | none => none
    | some d => if d = 0 then some 600 else some (min 600 (p * w / d)) := by
  rcases drain with _ | _ | d <;> rfl

section
variable {curve : Vector Breakpoint 8} {w v : Nat} {e : EstRecord}

theorem EstRecord.reading_absent (store : e.store = none) : e.reading curve w v = .startFrom curve v := by
  simp only [EstRecord.reading, store]

theorem EstRecord.reading_held {store p : Nat} (hs : e.store = some store) (hp : e.percent = some p) :
    e.reading curve w v = if 2 ≤ (if p + 10 ≤ curvePercent curve v then e.rise + 1 else 0) then .startFrom curve v
      else { e with rise := if p + 10 ≤ curvePercent curve v then e.rise + 1 else 0 }.fold curve w store v := by
  simp only [EstRecord.reading, hs, hp]

end

/-- Settles O13: the reading's three cases. -/
theorem readingStartsRestartsOrFolds : Obligations.ReadingStartsRestartsOrFolds := by
  unfold Obligations.ReadingStartsRestartsOrFolds
  refine fun curve w v e => ⟨EstRecord.reading_absent, fun store p hs hp => ?_⟩
  rw [EstRecord.reading_held hs hp]
  refine ⟨fun ⟨high, risen⟩ => ?_, fun once => ?_⟩
  · rw [if_pos high, if_pos (Nat.succ_le_succ risen)]
    rfl
  · have rise : (if p + 10 ≤ curvePercent curve v then e.rise + 1 else 0)
        = if p + 10 ≤ curvePercent curve v then 1 else 0 := by
      split
      · next high => rw [Nat.eq_zero_of_not_pos fun risen => once ⟨high, risen⟩]
      · rfl
    have low : ¬2 ≤ if p + 10 ≤ curvePercent curve v then 1 else 0 := by
      split <;> omega
    simp only [rise, if_neg low, EstRecord.fold]
    exact congrArg (EstRecord.mk _ _ _ _ _ _) (minutesLeft_eq ..)

/-! ## A constant voltage (R47, R48) -/

/-- A record with its store, and its percent read from the curve. -/
structure EstRecord.holds (curve : Vector Breakpoint 8) (e : EstRecord) (value : Nat) : Prop where
  store : e.store = some value
  percent : e.percent = some (curvePercent curve (value / 8))

/-- How far a store is from a smoothed voltage of `v`. -/
def storeDistance (v store : Nat) : Nat := (store - (8 * v + 7)) + (8 * v - store)

theorem storeDistance_eq_zero {v store : Nat} (h : storeDistance v store = 0) : store / 8 = v := by
  simp only [storeDistance] at h
  omega

section
variable {curve : Vector Breakpoint 8} {w v : Nat} {e : EstRecord}

theorem EstRecord.holds_startFrom : (EstRecord.startFrom curve v).holds curve (8 * v) := by
  refine ⟨rfl, ?_⟩
  rw [Nat.mul_div_cancel_left v (by decide)]
  rfl

/-- A reading of `v` brings the store nearer to it, or leaves it there. -/
theorem EstRecord.holds.reading {store : Nat} (h : e.holds curve store) :
    ∃ store', (e.reading curve w v).holds curve store' ∧ storeDistance v store' ≤ storeDistance v store - 1 := by
  rw [EstRecord.reading_held h.store h.percent]
  generalize (if curvePercent curve (store / 8) + 10 ≤ curvePercent curve v then e.rise + 1 else 0) = rise
  split
  · exact ⟨_, EstRecord.holds_startFrom, by simp [storeDistance]⟩
  · refine ⟨store - store / 8 + v, ⟨rfl, rfl⟩, ?_⟩
    simp only [storeDistance]
    omega

theorem EstRecord.holds.readings {store : Nat} (h : e.holds curve store) (j : Nat) : ∃ store',
    ((fun r : EstRecord => r.reading curve w v)^[j] e).holds curve store'
      ∧ storeDistance v store' ≤ storeDistance v store - j := by
  induction j with
  | zero => exact ⟨store, h, Nat.le_refl _⟩
  | succ j ih =>
    obtain ⟨before, held, near⟩ := ih
    obtain ⟨after, held, nearer⟩ := held.reading (w := w) (v := v)
    rw [Function.iterate_succ_apply']
    exact ⟨after, held, by omega⟩

/-- As many readings as the store is away bring the record to the voltage. -/
theorem EstRecord.holds.settles {store : Nat} (h : e.holds curve store) {j : Nat} (enough : storeDistance v store ≤ j) :
    ((fun r : EstRecord => r.reading curve w v)^[j] e).smoothed = some v
      ∧ ((fun r : EstRecord => r.reading curve w v)^[j] e).percent = some (curvePercent curve v) := by
  obtain ⟨settled, held, near⟩ := h.readings (w := w) j
  have there := storeDistance_eq_zero (Nat.eq_zero_of_le_zero (Nat.sub_eq_zero_of_le enough ▸ near))
  refine ⟨?_, there ▸ held.percent⟩
  rw [EstRecord.smoothed, held.store, Option.map_some, there]

end

/-- Settles O14: a record that holds a charge comes nearer with every reading, and an absent one starts there. -/
theorem constantReadingSettles : Obligations.ConstantReadingSettles := by
  unfold Obligations.ConstantReadingSettles
  intro curve w v e lawful
  rcases (EstRecord.lawful_iff curve w e).1 lawful with rfl | ⟨store, start, charged⟩
  · refine ⟨1, fun j hj => ?_⟩
    obtain ⟨j, rfl⟩ := Nat.exists_eq_add_of_le' hj
    rw [Function.iterate_succ_apply, EstRecord.reading_absent rfl]
    exact EstRecord.holds_startFrom.settles (by simp [storeDistance])
  · exact ⟨storeDistance v store, fun j hj => EstRecord.holds.settles ⟨charged.store, charged.percent⟩ hj⟩

end Sys2Proof.Machine
end

section
/-! The minute tick's ageing, and the judgement of BATTERY_SHORTFALL at the minute tick and by SET SCHEDULE (R50, R51,
R54 to R56, R125). -/

namespace Sys2Proof.Machine

/-! ## Ageing (R50, R51, R53) -/

theorem agedRecord_eq (w : Nat) (e : EstRecord) : agedRecord w e = e.ageOnce w := by
  simp only [agedRecord, EstRecord.ageOnce]
  cases percent : e.percent with
  | none => rfl
  | some p =>
    by_cases more : e.age + 1 < w
    · simp only [if_pos more, if_neg (Nat.not_le.2 more)]
    · have minutes := minutesLeft_eq p (some (e.windowStart.getD p - p)) w
      simp only [← apply_ite some] at minutes
      simp only [if_neg more, if_pos (Nat.not_lt.1 more), EstRecord.completeWindow, minutes, percent]

theorem SeatRecord.ageMinute_eq (w : Nat) (r : SeatRecord) :
    r.ageMinute w = { r with est := if r.signal = .lost then r.est else agedRecord w r.est } := by
  rw [SeatRecord.ageMinute, agedRecord_eq]
  split <;> rfl

/-- The seats that a minute tick picks, aged. -/
def State.aged (s : State) (who : Seat → Bool) : State :=
  s.mapSeats fun n r => if who n then r.ageMinute s.params.estimatorWindow else r

/-- The kinds that a minute tick judges (R56, R57). -/
def State.minuteKinds (s : State) (who : Seat → Bool) (n : Seat) : PerKind Bool :=
  if who n then (changedKinds (s.seat n) ((s.aged who).seat n)).union (.only .batteryShortfall) else .nothing

section
variable {s : State} {who : Seat → Bool} {n : Seat}

theorem State.seat_aged : (s.aged who).seat n
    = if who n then (s.seat n).ageMinute s.params.estimatorWindow else s.seat n := State.seat_mapSeats ..

theorem State.minuteSeats_eq : s.minuteSeats who = (s.aged who).evaluate false (s.minuteKinds who) := by
  have kinds : s.minuteKinds who = fun n => if who n then
      (changedKinds (s.seat n) (if who n then (s.seat n).ageMinute s.params.estimatorWindow else s.seat n)).union
        (.only .batteryShortfall) else .nothing := by
    funext n
    rw [State.minuteKinds, State.seat_aged]
  rw [kinds]
  rfl

theorem State.seat_minuteSeats : (s.minuteSeats who).seat n
    = if who n then (s.seat n).ageMinute s.params.estimatorWindow else s.seat n := by
  rw [State.onlyMonitorAndList_seat (s.minuteSeats_frame who), State.seat_mapSeats]

theorem State.minuteSeats_withSeats (s : State) (who : Seat → Bool) :
    State.onlyMonitorAndList { s with seats := (s.minuteSeats who).seats } (s.minuteSeats who) := by
  have frame := s.minuteSeats_frame who
  simp only [State.mapSeats] at frame
  exact frame.withSeats

end

/-- Settles O16: both commands age the seats they pick. -/
theorem minuteTickAgesRecords : Obligations.MinuteTickAgesRecords := by
  unfold Obligations.MinuteTickAgesRecords
  refine fun s => ⟨⟨_, rfl, fun n => ?_, s.minuteSeats_withSeats everyone⟩, fun n heard held due => ?_⟩
  · rw [State.seat_minuteSeats, ← SeatRecord.ageMinute_eq, everyone, if_pos rfl]
  · refine ⟨s.minuteSeats (· == n), congrArg Host.Outcome.next (if_pos ⟨heard, Option.isSome_iff_ne_none.2 held, due⟩),
      ?_, fun m other => ?_, s.minuteSeats_withSeats _⟩
    · rw [State.seat_minuteSeats, if_pos (beq_self_eq_true n), SeatRecord.ageMinute_eq, if_neg heard]
    · rw [State.seat_minuteSeats, if_neg (by simpa using other)]

/-! ## An evaluation on BATTERY_SHORTFALL (R55) -/

theorem State.shortfall_evaluate {u : State} {tick : Bool} {kinds : Seat → PerKind Bool} {n : Seat}
    (on : u.evaluates n = true) (asked : (kinds n).get .batteryShortfall = true) :
    ((u.evaluate tick kinds).monitor n).state.batteryShortfall = shortfallState u.required u.params.shortfallHystMin
      (u.seat n).est.minutes (u.monitor n).state.batteryShortfall := by
  have core := (u.stepped_evaluate tick kinds n .batteryShortfall).judged on asked (by simp)
  have state : ((u.evaluate tick kinds).monitor n).state.batteryShortfall
      = (u.judgeKind tick n .batteryShortfall (u.monitor n)).1.state.batteryShortfall := SeatMonitor.state_of_core core
  rw [state, State.judgeShortfall_state]

theorem State.evaluates_of_bound {s : State} {n : Seat} (bound : s.bound n = true) (running : s.sitting ≠ .setup) :
    s.evaluates n = true := by simp [State.evaluates, bound, running]

/-! ## The minute tick (R56) -/

/-- The minute tick judges BATTERY_SHORTFALL of every bound seat with the minutes that it leaves. -/
theorem State.shortfall_minuteTick {s : State} {n : Seat} (bound : s.bound n = true) (running : s.sitting ≠ .setup) :
    ((s.minuteSeats everyone).monitor n).state.batteryShortfall = shortfallState s.required s.params.shortfallHystMin
      ((s.minuteSeats everyone).seat n).est.minutes (s.monitor n).state.batteryShortfall := by
  have like : s.like (s.aged everyone) n :=
    State.like_mapSeats (fun _ r => by split <;> first | exact SeatRecord.pack_ageMinute .. | rfl) n
  have required : (s.aged everyone).required = s.required := by
    simp only [State.required, State.elapsedMinutes, State.aged, State.mapSeats]
  have monitor : (s.aged everyone).monitor n = s.monitor n := State.monitor_mapSeats ..
  have asked : (s.minuteKinds everyone n).get .batteryShortfall = true := by simp [State.minuteKinds, everyone]
  have state := State.shortfall_evaluate (tick := false) (like.evaluates.trans (State.evaluates_of_bound bound running))
    asked
  rw [required, like.params, monitor, State.seat_aged, ← State.seat_minuteSeats, ← State.minuteSeats_eq] at state
  exact state

/-! ## SET SCHEDULE (R125) -/

@[simp] theorem State.presiding_listening (s : State) (x : LinkId) : (s.listening x).presiding x = s.presiding x := by
  simp [State.presiding]

theorem State.presiding_of_role {s : State} {x : LinkId} (h : (s.link x).role = .presiding) : s.presiding x = true := by
  simp [State.presiding, h]

theorem number2_eq (hi lo : Byte) : number2 hi lo = 256 * hi.toNat + lo.toNat := by
  rw [number2, Nat.mul_comm]

/-- The state with a new schedule, BATTERY_SHORTFALL judged against it. -/
def State.rescheduled (s : State) (length : Nat) : State :=
  { s with scheduled := length }.evaluate false (everySeat (.only .batteryShortfall))

theorem State.rescheduled_frame (s : State) (length : Nat) :
    State.onlyMonitorAndList { s with scheduled := length } (s.rescheduled length) :=
  State.onlyMonitorAndList_evaluate ..

/-- The figures that SET SCHEDULE reports (R54, R125). -/
theorem State.rescheduled_figures (s : State) (length : Nat) : (s.rescheduled length).scheduled = length
    ∧ (s.rescheduled length).elapsedMinutes = s.clock / 60
    ∧ (s.rescheduled length).required = length - s.clock / 60 + s.params.reserveMin := by
  have frame := s.rescheduled_frame length
  have scheduled : (s.rescheduled length).scheduled = length := by rw [frame.1]
  have elapsed : (s.rescheduled length).elapsedMinutes = s.clock / 60 := by
    rw [State.elapsedMinutes, State.onlyMonitorAndList_clock frame]
  refine ⟨scheduled, elapsed, ?_⟩
  rw [State.required, scheduled, elapsed, State.onlyMonitorAndList_params frame]

theorem serve_setSchedule {s : State} {x : LinkId} (role : s.presiding x = true) (running : s.sitting ≠ .setup)
    (hi lo : Byte) (rest : List Byte) : serve .setSchedule x (hi :: lo :: rest) s =
      (s.rescheduled (min 1439 (number2 hi lo))).answer (if 1439 < number2 hi lo then .adjusted else .ok)
        (bytes2 (min 1439 (number2 hi lo)) ++ bytes2 (s.clock / 60)
          ++ bytes2 (min 1439 (number2 hi lo) - s.clock / 60 + s.params.reserveMin)) := by
  obtain ⟨scheduled, elapsed, required⟩ := s.rescheduled_figures (min Config.scheduleMax (number2 hi lo))
  rw [State.rescheduled] at scheduled elapsed required
  simp only [serve, serveSetSchedule, role, running, Bool.not_true, Bool.false_eq_true, if_false, scheduled, elapsed,
    required, okOr, decide_eq_true_eq]
  rfl

/-! ## The quarter tick (R59) -/

/-- The advance of seats judges no BATTERY_SHORTFALL (R59, log 8). -/
theorem State.shortfall_advanceSeats (s : State) (who : Seat → Bool) (n : Seat) :
    ((s.advanceSeats who).monitor n).state.batteryShortfall = (s.monitor n).state.batteryShortfall := by
  have step := s.stepped_advanceSeats who n .batteryShortfall
  have still : (changedKinds (s.seat n) ((s.advanced who).seat n)).get .batteryShortfall = false := by
    obtain ⟨est, -, pack⟩ := tickedSeat_fixed s.params (s.seat n)
    rw [State.seat_advanced]
    split
    · simp [changedKinds, PerKind.get, est, pack]
    · rw [changedKinds_self, PerKind.get_nothing]
  exact SeatMonitor.state_of_core (step.unasked still (by simp))

theorem State.shortfall_quarterTicked (s : State) (order : TickOrder) (n : Seat) :
    ((s.quarterTicked order).monitor n).state.batteryShortfall = (s.monitor n).state.batteryShortfall := by
  have counted (u : State) : (u.countSeats.monitor n).state.batteryShortfall = (u.monitor n).state.batteryShortfall :=
    SeatMonitor.state_of_core
      ((u.stepped_evaluate true (everySeat quarterKinds) n .batteryShortfall).unasked rfl (by simp))
  have ticked : ((s.quarterTicked order).monitor n).state.batteryShortfall
      = ((s.takeSetValues.quarterWork order).monitor n).state.batteryShortfall := rfl
  rw [ticked, State.quarterWork_eq, State.shortfall_advanceSeats, counted, State.shortfall_advanceSeats,
    State.monitor_takeSetValues]
  rfl

/-- Settles O17: the judgement of R55 at the minute tick and at SET SCHEDULE, and none at the quarter tick. -/
theorem shortfallIsJudged : Obligations.ShortfallIsJudged := by
  unfold Obligations.ShortfallIsJudged
  refine ⟨fun s running => ⟨s.minuteSeats everyone, rfl, fun n bound => ?_⟩, fun s x hi lo rest ready role running => ?_,
    fun s n c ticks => ?_⟩
  · have state := State.shortfall_minuteTick bound running
    rw [state]
    refine ⟨fun r minutes short => ?_, fun r minutes ample => ?_, fun absent => ?_, fun r minutes enough kept => ?_⟩
    · exact (congrArg (shortfallState _ _ · _) minutes).trans (if_pos short)
    · have enough : ¬r < s.required := Nat.not_lt.2 (Nat.le_trans (Nat.le_add_right ..) ample)
      exact (congrArg (shortfallState _ _ · _) minutes).trans ((if_neg enough).trans (if_pos ample))
    · exact congrArg (shortfallState _ _ · _) absent
    · exact (congrArg (shortfallState _ _ · _) minutes).trans
        ((if_neg (Nat.not_lt.2 enough)).trans (if_neg (Nat.not_le.2 kept)))
  · intro asked required
    let u : State := s.listening x
    have serves := serve_setSchedule (s := u) ((s.presiding_listening x).trans (State.presiding_of_role role)) running
      hi lo rest
    rw [number2_eq] at serves
    have frame := u.rescheduled_frame (min 1439 asked)
    refine ⟨_, congrArg Host.Outcome.next ((State.requestReaches_of_ready ready .setSchedule _).trans
      (congrArg (Served.onLink · x _) serves)), (u.rescheduled_figures _).1, fun n bound => ?_,
      State.repliesIn_onLink frame.2, ?_⟩
    · exact State.shortfall_evaluate (u := { u with scheduled := min 1439 asked })
        (State.evaluates_of_bound (s := u) bound running) rfl
    · obtain ⟨core, -⟩ := frame
      change Served.onLink (State.answer (u.rescheduled (min 1439 asked)) _ _) x _ = _
      generalize u.rescheduled (min 1439 asked) = v at core ⊢
      rw [core]
      rfl
  · rcases ticks with ⟨order, rfl⟩ | ⟨m, rfl | rfl⟩
    · exact ⟨_, exec_quarterTick s order, s.shortfall_quarterTicked order n⟩
    · refine ⟨_, rfl, ?_⟩
      split
      · exact s.shortfall_advanceSeats _ n
      · rfl
    · refine ⟨_, rfl, ?_⟩
      split
      · exact s.shortfall_advanceSeats _ n
      · rfl

end Sys2Proof.Machine
end

section
/-! SET PARAMETER: the value, its pair and its effects (R52, R63, R77, R78, R97, R132). -/

namespace Sys2Proof.Machine

/-! ## The value and its pair (R77) -/

/-- The value that a write leaves in its parameter, `own` being the value asked for in its own range. -/
def Params.takenValue (p : Params) (n own : Nat) : Nat :=
  if n = 2 then (if p.get 1 ≤ own then p.get 1 - 1 else own)
  else if n = 16 then (if own ≤ p.get 15 then p.get 15 + 1 else own) else own

/-- The value that a write leaves in the other parameter of its pair. -/
def Params.pairedValue (p : Params) (n own : Nat) : Nat :=
  if n = 1 then (if own ≤ p.get 2 then own - 1 else p.get 2)
  else if n = 15 then (if p.get 16 ≤ own then own + 1 else p.get 16) else p.get (pairOf n)

theorem pairOf_eq (n : Nat) :
    pairOf n = if n = 1 then 2 else if n = 2 then 1 else if n = 15 then 16 else if n = 16 then 15 else 0 := by
  simp only [pairOf]
  split <;> simp_all

/-- The ranges of R77 in number order. -/
theorem paramRange_eq {n : Nat} (low : 1 ≤ n) (high : n ≤ 21) : paramRange n =
    ([(1, 99), (0, 98), (1, 20), (0, 255), (5, 60), (0, 240), (1, 60), (0, 255), (10, 3600), (0, 100), (1, 20), (0, 255),
      (10, 600), (1, 255), (2, 40), (4, 240), (0, 3600), (0, 3600), (0, 3600), (1, 4), (0, 1)] :
        List (Nat × Nat)).getD (n - 1) (0, 0) := by
  interval_cases n <;> rfl

section
variable (p : Params) {n : Nat} (range : 1 ≤ n ∧ n ≤ 21) (v : Nat)
include range

theorem Params.get_write_self : (p.write n v).get n = p.takenValue n (ownRange n v) := by
  by_cases alone : n ≠ 1 ∧ n ≠ 2 ∧ n ≠ 15 ∧ n ≠ 16
  · rw [Params.write_of_alone p alone, Params.get_put p range, if_pos rfl, Params.takenValue, if_neg alone.2.1,
      if_neg alone.2.2.2]
  · have paired : n = 1 ∨ n = 2 ∨ n = 15 ∨ n = 16 := by omega
    rcases paired with rfl | rfl | rfl | rfl <;> rfl

theorem Params.get_write_pair : (p.write n v).get (pairOf n) = p.pairedValue n (ownRange n v) := by
  by_cases alone : n ≠ 1 ∧ n ≠ 2 ∧ n ≠ 15 ∧ n ≠ 16
  · obtain ⟨h1, h2, h15, h16⟩ := alone
    have unpaired : pairOf n = 0 := by simp only [pairOf_eq, h1, h2, h15, h16, if_false]
    rw [Params.pairedValue, if_neg h1, if_neg h15, unpaired]
    rfl
  · have paired : n = 1 ∨ n = 2 ∨ n = 15 ∨ n = 16 := by omega
    rcases paired with rfl | rfl | rfl | rfl <;> rfl

end

/-! ## What a write leaves (R52, R63, R97, R132) -/

section
variable (s : State) (number v : Nat)

theorem State.params_writeParameter : (s.writeParameter number v).params = s.params.write number v :=
  State.onlyMonitorAndList_params (s.writeParameter_frame number v)

theorem State.windowElapsed_writeParameter :
    (s.writeParameter number v).windowElapsed = if number = 13 then 0 else s.windowElapsed := by
  rw [(s.writeParameter_frame number v).1]
  rfl

theorem State.floor_writeParameter : (s.writeParameter number v).floor =
    if number = 20 then s.floor.drop (s.floor.length - (s.params.write number v).floorLimit) else s.floor :=
  State.onlyMonitorAndList_floor (s.writeParameter_frame number v)

theorem State.setChanged_writeParameter :
    (s.writeParameter number v).setChanged = s.setChanged.after s.params (s.params.write number v) := by
  rw [(s.writeParameter_frame number v).1]
  rfl

theorem SetChanged.after_eq (c : SetChanged) (old new : Params) : c.after old new =
    ⟨c.battery || new.batteryQualify != old.batteryQualify, c.mutedSpeech || new.mutedSpeechQualify != old.mutedSpeechQualify,
      c.signalWeak || new.weakQualify != old.weakQualify⟩ := by
  rw [SetChanged.after, bne_comm, bne_comm (a := old.mutedSpeechQualify), bne_comm (a := old.weakQualify)]

variable {number}

/-- FLOOR_LIMIT alone moves qualifiers. -/
theorem State.monitors_takeEffect (h : number ≠ 20) : (s.takeEffect number).monitors = s.monitors := by
  simp only [State.takeEffect]
  split
  · exact State.mapSeats_monitors ..
  · rfl
  · rfl
  · rfl
  · rfl
  · exact absurd rfl h
  · rfl

theorem State.monitors_writeParameter (h : number ≠ 20) : (s.writeParameter number v).monitors = s.monitors :=
  State.monitors_takeEffect _ h

/-- The escalation times and FLOOR_LIMIT alone reach the list. -/
theorem State.records_takeEffect (h : number < 17 ∨ number = 21) : (s.takeEffect number).records = s.records := by
  simp only [State.takeEffect]
  split
  · exact State.mapSeats_records ..
  · rfl
  · exact absurd h (by decide)
  · exact absurd h (by decide)
  · exact absurd h (by decide)
  · exact absurd h (by decide)
  · rfl

theorem State.records_writeParameter (h : number < 17 ∨ number = 21) : (s.writeParameter number v).records = s.records :=
  State.records_takeEffect _ h

theorem State.takeEffect_escalation (sev : Severity) : s.takeEffect (17 + sev.code) = s.retimeRecords sev := by
  cases sev <;> simp only [Severity.code, Nat.reduceAdd, Nat.add_zero, State.takeEffect]

theorem Params.get_escalation (p : Params) (sev : Severity) : p.get (17 + sev.code) = p.escTime sev := by
  cases sev <;> rfl

/-- A new escalation time lowers or stops the running timers at its severity (R97). -/
theorem State.records_writeEscalation (sev : Severity) : (s.writeParameter (17 + sev.code) v).records
    = s.records.map (Record.retime sev ((s.params.write (17 + sev.code) v).get (17 + sev.code))) := by
  rw [State.writeParameter, State.takeEffect_escalation, Params.get_escalation]
  rfl

theorem Record.retime_eq (sev : Severity) (time : Nat) (r : Record) : r.retime sev time =
    if r.severity = sev then { r with
      escalation := match r.escalation with
        | none => none
        | some left => if time = 0 then none else some (min time left) }
    else r := by
  simp only [Record.retime]
  cases r.escalation with
  | none => simp
  | some left => simp

end

/-! ## The request (R78) -/

section
variable {s : State} {x : LinkId} {number : Byte}

theorem serve_setParameter (role : s.technical x = true) (idle : s.loading = false) (low : 1 ≤ number.toNat)
    (high : number.toNat ≤ 21) (setup : number.toNat = 5 ∨ number.toNat = 15 ∨ number.toNat = 16 → s.sitting = .setup)
    (hi lo : Byte) (rest : List Byte) : serve .setParameter x (number :: hi :: lo :: rest) s =
      (s.writeParameter number.toNat (number2 hi lo)).answer
        (if s.params.takenValue number.toNat (ownRange number.toNat (number2 hi lo)) = number2 hi lo
            ∧ s.params.pairedValue number.toNat (ownRange number.toNat (number2 hi lo)) = s.params.get (pairOf number.toNat)
          then .ok else .adjusted)
        ([number] ++ bytes2 (s.params.takenValue number.toNat (ownRange number.toNat (number2 hi lo)))
          ++ if s.params.pairedValue number.toNat (ownRange number.toNat (number2 hi lo)) = s.params.get (pairOf number.toNat)
            then [0, 0, 0]
            else byte (pairOf number.toNat)
              :: bytes2 (s.params.pairedValue number.toNat (ownRange number.toNat (number2 hi lo)))) := by
  have inside : ¬(number.toNat = 0 ∨ 21 < number.toNat) := by omega
  have admitted : ¬((number.toNat = 5 ∨ number.toNat = 15 ∨ number.toNat = 16) ∧ s.sitting ≠ .setup) :=
    fun ⟨alone, off⟩ => off (setup alone)
  simp only [serve, serveSetParameter, role, idle, inside, admitted, Bool.not_true, Bool.false_eq_true, if_false,
    State.params_writeParameter, Params.get_write_self s.params ⟨low, high⟩, Params.get_write_pair s.params ⟨low, high⟩]
  generalize s.params.takenValue number.toNat (ownRange number.toNat (number2 hi lo)) = taken
  generalize s.params.pairedValue number.toNat (ownRange number.toNat (number2 hi lo)) = paired
  by_cases same : taken = number2 hi lo <;> by_cases stays : paired = s.params.get (pairOf number.toNat) <;>
    simp [same, stays, okOr]

/-- The state that SET PARAMETER leaves, its reply in progress. -/
def State.setParameter (s : State) (x : LinkId) (number : Byte) (v : Nat) : State :=
  (((s.listening x).writeParameter number.toNat v).answer
    (if s.params.takenValue number.toNat (ownRange number.toNat v) = v
        ∧ s.params.pairedValue number.toNat (ownRange number.toNat v) = s.params.get (pairOf number.toNat)
      then .ok else .adjusted)
    ([number] ++ bytes2 (s.params.takenValue number.toNat (ownRange number.toNat v))
      ++ if s.params.pairedValue number.toNat (ownRange number.toNat v) = s.params.get (pairOf number.toNat)
        then [0, 0, 0]
        else byte (pairOf number.toNat) :: bytes2 (s.params.pairedValue number.toNat (ownRange number.toNat v)))).onLink x 0x10

theorem State.params_setParameter (s : State) (x : LinkId) (number : Byte) (v : Nat) :
    (s.setParameter x number v).params = s.params.write number.toNat v := (s.listening x).params_writeParameter ..

theorem exec_setParameter (ready : s.ready x) (role : (s.link x).role = .technical) (idle : s.loading = false)
    (low : 1 ≤ number.toNat) (high : number.toNat ≤ 21)
    (setup : number.toNat = 5 ∨ number.toNat = 15 ∨ number.toNat = 16 → s.sitting = .setup) (hi lo : Byte) (rest : List Byte) :
    exec (.setParameter x (number :: hi :: lo :: rest)) s = .next (s.setParameter x number (number2 hi lo)) := by
  have technical := (s.technical_listening x).trans (State.technical_of_role role)
  exact congrArg Host.Outcome.next ((State.requestReaches_of_ready ready .setParameter _).trans
    (congrArg (Served.onLink · x _) (serve_setParameter (s := s.listening x) technical idle low high setup hi lo rest)))

end

/-! ## A withdrawal of the floor (R73, R132) -/

theorem SeatMonitor.ext_core {m m' : SeatMonitor} (h : ∀ k, m.core k = m'.core k) : m = { m' with due := m.due } := by
  refine SeatMonitor.ext_part fun k => ?_
  have core := (h k).trans (m'.core_due m.due k).symm
  exact KindPart.ext (SeatMonitor.state_of_core core) rfl (SeatMonitor.pv_of_core core)
    (SeatMonitor.grade_of_core core) (SeatMonitor.held_of_core core) (SeatMonitor.mark_of_core core)

/-- State and present value are all that a FLOOR-class kind holds but for its due mark. -/
theorem SeatMonitor.core_of_figure {m m' : SeatMonitor} {k : Kind} (floor : floorKinds.get k = true)
    (h : m.figure k = m'.figure k) : m.core k = m'.core k := by
  obtain ⟨state, pv⟩ := Prod.mk.inj h
  cases k <;> try cases floor
  all_goals rw [SeatMonitor.core_eq, SeatMonitor.core_eq, state, pv]; rfl

/-- What a withdrawal makes of a seat's qualifiers but for due marks (R73). -/
def State.withdrawnMonitor (u : State) (n : Seat) : SeatMonitor :=
  { u.monitor n with
    state := { (u.monitor n).state with
      mutedSpeech := .quiet
      openNoFloor := if (u.seat n).mute = .opened then
          (if 4 * u.params.openNoFloorLimit ≤ (u.monitor n).openPv then .qualified else .qualifying)
        else .quiet }
    mutedPv := if (u.monitor n).state.mutedSpeech = .quiet then (u.monitor n).mutedPv else u.params.mutedSpeechQualify }

section
variable {u : State} {n : Seat} {who : Seat → Bool}

/-- A withdrawal leaves the qualifiers of the seats that keep the floor. -/
theorem State.agrees.monitor_withdrawn_of_other (agrees : u.agrees) (other : who n = false) :
    (u.withdrawn who).monitor n = { u.monitor n with due := ((u.withdrawn who).monitor n).due } := by
  have unasked (k : Kind) : u.judges (fun m => if who m then floorKinds else .nothing) n k = false := by
    simp [State.judges, other]
  refine SeatMonitor.ext_core fun k => (agrees.core_evaluate false _).trans ?_
  have none : u.verdict false (fun m => if who m then floorKinds else .nothing) n k = none := by
    simp [State.verdict, unasked]
  rw [none, if_neg (by simp)]
  exact SeatMonitor.core_of_part ((u.part_evaluateAll false _ n k).trans (if_neg (by simp [unasked])))

section
variable (left : who n = true) (quiet : (u.monitor n).state.openNoFloor = .quiet)
include left quiet

/-- A withdrawal judges the FLOOR-class kinds of a seat that leaves the floor, and no other. -/
theorem State.core_withdrawn (on : u.evaluates n = true) (k : Kind) : ((u.withdrawn who).monitor n).core k =
    if floorKinds.get k then (u.judgeKind false n k (u.monitor n)).1.core k else (u.monitor n).core k := by
  have step := u.stepped_evaluate false (fun m => if who m then floorKinds else .nothing) n k
  simp only [left, if_true] at step
  refine (step fun opened cleared => ?_).trans (by rw [on, Bool.true_and])
  subst opened
  have was := ((u.judgeKind_fits false n .openNoFloor (u.monitor n)).cleared.1 cleared).1
  cases quiet.symm.trans was

theorem State.monitor_withdrawn (sitting : u.sitting = .sitting) (bound : u.bound n = true) (off : u.onFloor n = false) :
    (u.withdrawn who).monitor n = { u.withdrawnMonitor n with due := ((u.withdrawn who).monitor n).due } := by
  have silent : u.mutedSpeechHolds n = false := by simp [State.mutedSpeechHolds, off]
  refine SeatMonitor.ext_core fun k => (State.core_withdrawn left quiet (State.evaluates_of_bound bound (by simp [sitting]))
    k).trans ?_
  cases k with
  | battery | batteryShortfall | signalWeak | dropouts | signalLost => rfl
  | mutedSpeech =>
    refine SeatMonitor.core_of_figure rfl ((State.judgeMutedSpeech_event sitting).trans ?_)
    rw [silent]
    cases state : (u.monitor n).state.mutedSpeech <;> simp [eventMove, SeatMonitor.figure, PerKind.get, SeatMonitor.pvOf,
      State.withdrawnMonitor, state]
  | openNoFloor =>
    refine SeatMonitor.core_of_figure rfl (Prod.ext ?_ State.judgeOpenNoFloor_event_pv)
    have holds := u.openNoFloorHolds_iff n
    by_cases opened : (u.seat n).mute = .opened
    · have state := State.judgeOpenNoFloor_event_on sitting (holds.2 ⟨opened, off⟩) quiet
      simp only [State.withdrawnMonitor, SeatMonitor.figure, PerKind.get, if_pos opened]
      exact state
    · have state := State.judgeOpenNoFloor_event_off sitting (m := u.monitor n)
        (Bool.eq_false_iff.2 fun on => opened (holds.1 on).1)
      simp only [State.withdrawnMonitor, SeatMonitor.figure, PerKind.get, if_neg opened]
      exact state

/-- A withdrawal from a seat that has left the floor (R73). -/
theorem State.agrees.withdrawnFrom (agrees : u.agrees) (sitting : u.sitting = .sitting) (bound : u.bound n = true)
    (off : u.onFloor n = false) : u.withdrawnFrom (u.withdrawn who) n := by
  have monitor := State.monitor_withdrawn left quiet sitting bound off
  refine ⟨monitor, fun was => ?_, fun now => ?_⟩
  · refine agrees.clearedReaches_evaluate false _ (k := .mutedSpeech) was ?_
    have state : ((u.withdrawn who).monitor n).state.mutedSpeech = .quiet :=
      congrArg (fun m : SeatMonitor => m.state.mutedSpeech) monitor
    exact fun qualified => QState.noConfusion (state.symm.trans qualified)
  · have warned := agrees.warned_evaluate false (fun m => if who m then floorKinds else .nothing) (n := n)
      (k := .openNoFloor) (fun was => QState.noConfusion (quiet.symm.trans was)) now
    have pv : ((u.withdrawn who).monitor n).openPv = (u.monitor n).openPv :=
      (congrArg SeatMonitor.openPv monitor).trans rfl
    rw [← pv]
    exact warned

end

end

/-! ## FLOOR_LIMIT (R132) -/

/-- The state with a value of FLOOR_LIMIT written and the floor as it was. -/
def State.relimited (s : State) (v : Nat) : State :=
  { s with params := s.params.write 20 v, setChanged := s.setChanged.after s.params (s.params.write 20 v) }

/-- A FLOOR_LIMIT that the floor list fits takes nobody off it, as a lower one takes the oldest. -/
theorem State.writeParameter_floorLimit (s : State) (v : Nat) : s.writeParameter 20 v = (s.relimited v).trimFloor := by
  have written : s.writeParameter 20 v = if (s.relimited v).params.floorLimit < (s.relimited v).floor.length
      then (s.relimited v).trimFloor else s.relimited v := rfl
  rw [written]
  split
  · rfl
  · next room =>
    have whole : (s.relimited v).floor.length - (s.relimited v).params.floorLimit = 0 :=
      Nat.sub_eq_zero_of_le (Nat.not_lt.1 room)
    simp only [State.trimFloor, whole, List.take_zero, List.drop_zero, List.any_nil, State.withdrawn,
      Bool.false_eq_true, if_false]
    exact (State.evaluate_of_nothing false fun _ => rfl).symm

/-- A seat that leaves the floor list has no other entry. -/
theorem State.floorLaw.off_of_taken {s : State} (law : s.floorLaw) {k : Nat} {e : FloorEntry} (taken : e ∈ s.floor.take k) :
    (s.floor.drop k).any (fun d => d.seat == e.seat) = false := by
  obtain ⟨-, nodup, -⟩ := law
  rw [← List.take_append_drop k s.floor, List.map_append, List.nodup_append] at nodup
  obtain ⟨-, -, apart⟩ := nodup
  rw [List.any_eq_false]
  intro d hd same
  exact apart _ (List.mem_map_of_mem taken) _ (List.mem_map_of_mem hd) (by simpa using (beq_iff_eq.1 same).symm)

/-- A seat on the floor has OPEN_NO_FLOOR QUIET (R68). -/
theorem State.conditionLaw.quiet_of_onFloor {s : State} (law : s.conditionLaw) {n : Seat} (floor : s.onFloor n = true) :
    (s.monitor n).state.openNoFloor = .quiet := by
  obtain ⟨-, opened, -⟩ := law n
  by_contra active
  have off := ((s.openNoFloorHolds_iff n).1 (opened.1 active).2).2
  rw [floor] at off
  cases off

/-- The seats that a lower FLOOR_LIMIT takes off the floor are withdrawn, and no other qualifier moves (R73, R132). -/
theorem State.agrees.withdrawn_of_floorLimit {s : State} (agrees : s.agrees) (law : s.floorLaw)
    (condition : s.conditionLaw) (v : Nat) (n : Seat) :
    ((∀ e ∈ s.floor.take (s.floor.length - (s.params.write 20 v).floorLimit), e.seat ≠ n) →
        (s.writeParameter 20 v).monitor n = { s.monitor n with due := ((s.writeParameter 20 v).monitor n).due })
      ∧ ((∃ e ∈ s.floor.take (s.floor.length - (s.params.write 20 v).floorLimit), e.seat = n) →
        s.withdrawnFrom (s.writeParameter 20 v) n) := by
  let excess := s.floor.length - (s.params.write 20 v).floorLimit
  let u : State := { s.relimited v with floor := s.floor.drop excess }
  have agrees : u.agrees := agrees.of_sameWarnings (State.sameWarnings_of_eq rfl rfl)
  rw [State.writeParameter_floorLimit]
  refine ⟨fun stay => ?_, fun ⟨e, taken, seat⟩ => ?_⟩
  · refine agrees.monitor_withdrawn_of_other (who := fun m => (s.floor.take excess).any fun e => e.seat == m) ?_
    rw [List.any_eq_false]
    exact fun e he same => stay e he (beq_iff_eq.1 same)
  · subst seat
    have member := List.mem_of_mem_take taken
    have off := law.off_of_taken taken
    obtain ⟨-, -, empty, held⟩ := law
    have sitting : s.sitting = .sitting := by
      by_contra other
      rw [empty other] at member
      cases member
    have floor : s.onFloor e.seat = true := List.any_eq_true.2 ⟨e, member, beq_self_eq_true _⟩
    have left : ((s.floor.take excess).any fun d => d.seat == e.seat) = true :=
      List.any_eq_true.2 ⟨e, taken, beq_self_eq_true _⟩
    exact State.agrees.withdrawnFrom (u := u) (who := fun m => (s.floor.take excess).any fun d => d.seat == m) left
      (condition.quiet_of_onFloor floor) agrees sitting (held e member).1 off

/-- Settles O27: the value and its pair, the effects by number, and the withdrawals of a lower FLOOR_LIMIT. -/
theorem setParameterWritesAndTakesEffect : Obligations.SetParameterWritesAndTakesEffect := by
  unfold Obligations.SetParameterWritesAndTakesEffect
  refine ⟨fun s x number hi lo rest ready role idle low high setup => ?_,
    fun s x number hi lo rest t ready role idle low high setup ran => ?_,
    fun s x hi lo rest t lawful ready role idle ran => ?_⟩
  · intro n asked range own taken pair paired
    have named : number2 hi lo = asked := number2_eq hi lo
    have ranged : range = paramRange n := (paramRange_eq low high).symm
    have inRange : own = ownRange n asked := by
      rw [ownRange, clampTo, ← ranged]
    have takes : taken = s.params.takenValue n (ownRange n asked) := by
      rw [← inRange]
      rfl
    have pairs : pair = pairOf n := (pairOf_eq n).symm
    have follows : paired = s.params.pairedValue n (ownRange n asked) := by
      rw [← inRange, Params.pairedValue, ← pairs]
    refine ⟨_, exec_setParameter ready role idle low high setup hi lo rest, ?_⟩
    rw [named, takes, follows, pairs]
    have frame := (s.listening x).writeParameter_frame n asked
    have params := s.params_setParameter x number asked
    refine ⟨?_, ?_, fun m other unpaired => ?_, State.repliesIn_onLink frame.2, ?_, ?_⟩
    · rw [params, Params.get_write_self _ ⟨low, high⟩]
    · rw [params, Params.get_write_pair _ ⟨low, high⟩]
    · rw [params, Params.get_write _ ⟨low, high⟩ _ other unpaired]
    · rw [params]
      exact ((s.listening x).setChanged_writeParameter n asked).trans (SetChanged.after_eq ..)
    · obtain ⟨core, -⟩ := frame
      rw [State.setParameter]
      generalize (s.listening x).writeParameter n asked = v at core ⊢
      rw [core]
      rfl
  · obtain rfl : s.setParameter x number (number2 hi lo) = t :=
      Host.Outcome.next.inj ((exec_setParameter ready role idle low high setup hi lo rest).symm.trans ran)
    have params := s.params_setParameter x number (number2 hi lo)
    refine ⟨fun n => ?_, ?_, fun other => ⟨?_, ?_⟩, fun limit => ?_, fun plain => ?_, fun sev escalates => ?_⟩
    · exact (s.listening x).seat_writeParameter ..
    · exact (s.listening x).windowElapsed_writeParameter ..
    · exact ((s.listening x).floor_writeParameter ..).trans (if_neg other)
    · exact (s.listening x).monitors_writeParameter _ other
    · rw [params]
      exact ((s.listening x).floor_writeParameter ..).trans (if_pos limit)
    · exact (s.listening x).records_writeParameter _ plain
    · rw [params]
      have records := (s.listening x).records_writeEscalation (number2 hi lo) sev
      rw [← escalates] at records
      exact records.trans (List.map_congr_left fun r _ => r.retime_eq ..)
  · have low : 1 ≤ (20 : Byte).toNat := by decide
    have high : (20 : Byte).toNat ≤ 21 := by decide
    have alone : (20 : Byte).toNat = 5 ∨ (20 : Byte).toNat = 15 ∨ (20 : Byte).toNat = 16 → s.sitting = .setup :=
      fun h => absurd h (by decide)
    obtain rfl : s.setParameter x 20 (number2 hi lo) = t :=
      Host.Outcome.next.inj ((exec_setParameter ready role idle low high alone hi lo rest).symm.trans ran)
    have agrees : (s.listening x).agrees :=
      lawful.warningLaws.agrees.of_sameWarnings (State.sameWarnings_of_eq rfl rfl)
    rw [State.params_setParameter]
    exact fun n => agrees.withdrawn_of_floorLimit lawful.floor lawful.condition (number2 hi lo) n

end Sys2Proof.Machine
end

section
/-! Qualified outcomes that find no record: raises while there is a place, and due marks from then on (R75, R83, R91,
R109). -/

namespace Sys2Proof.Machine

/-- The record that an outcome is raised as (R83). -/
def HandedOutcome.raisedIn (s : State) (o : HandedOutcome) : Record :=
  newRecord s.params s.clock o.seat o.kind o.grade o.detail

/-- The records of several outcomes at the end of the list. -/
def State.withRaised (s : State) (os : List HandedOutcome) : State :=
  { s with records := s.records ++ os.map (HandedOutcome.raisedIn s) }

/-- The due marks of several outcomes set in turn. -/
def State.setDues (s : State) (os : List HandedOutcome) : State := os.foldl (fun t o => t.setDue o.seat o.kind) s

/-- Qualified outcomes of which none finds a record. -/
structure State.admitsNew (s : State) (os : List HandedOutcome) : Prop where
  qualified : ∀ o ∈ os, o.verdict = .qualified
  new : ∀ o ∈ os, s.record o.seat o.kind = none
  single : os.Pairwise fun a b => ¬(a.seat = b.seat ∧ a.kind = b.kind)

section
variable {s : State} {o : HandedOutcome} {os ps : List HandedOutcome}

theorem State.admitsNew.applyOutcome_head (h : s.admitsNew (o :: os)) : s.applyOutcome o = s.raise o :=
  State.applyOutcome_raise (h.qualified o List.mem_cons_self) (h.new o List.mem_cons_self)

theorem State.admitsNew.applyOutcomes_cons (h : s.admitsNew (o :: os)) :
    s.applyOutcomes (o :: os) = (s.raise o).applyOutcomes os := by
  have stays : s.removes o = false := by simp [State.removes, h.qualified o List.mem_cons_self]
  rw [State.applyOutcomes_cons_of_not_removes stays, h.applyOutcome_head]

/-- The outcomes that follow find no record either. -/
theorem State.admitsNew.raise (h : s.admitsNew (o :: os)) : (s.raise o).admitsNew os := by
  obtain ⟨qualified, new, single⟩ := h
  obtain ⟨alone, single⟩ := List.pairwise_cons.1 single
  refine ⟨fun p hp => qualified p (List.mem_cons_of_mem _ hp), fun p hp => ?_, single⟩
  have none := new p (List.mem_cons_of_mem _ hp)
  rw [State.raise]
  split
  · rw [State.record_appendRecord, none, Option.none_or, if_neg]
    rw [Record.isFor_iff]
    exact alone p hp
  · rw [State.record_setDue, none]

/-- While there is a place each outcome is a record at the end of the list. -/
theorem State.admitsNew.applyOutcomes_append (h : s.admitsNew (os ++ ps)) (room : s.records.length + os.length ≤ 48) :
    s.applyOutcomes (os ++ ps) = (s.withRaised os).applyOutcomes ps ∧ (s.withRaised os).admitsNew ps := by
  induction os generalizing s with
  | nil => simpa [State.withRaised] using h
  | cons o os ih =>
    rw [List.length_cons] at room
    have first : s.raise o = s.appendRecord (o.raisedIn s) := (s.raise_spec o).1 (by omega)
    have rest := h.raise
    rw [first] at rest
    obtain ⟨applied, admits⟩ := ih rest (by simp; omega)
    have same : (s.appendRecord (o.raisedIn s)).withRaised os = s.withRaised (o :: os) := by
      simp only [State.withRaised, State.appendRecord, List.map_cons, List.append_assoc, List.singleton_append]
      rfl
    rw [same] at applied admits
    exact ⟨h.applyOutcomes_cons.trans (first ▸ applied), admits⟩

/-- On a full list each outcome is a due mark. -/
theorem State.admitsNew.applyOutcomes_full (h : s.admitsNew os) (full : 48 ≤ s.records.length) :
    s.applyOutcomes os = s.setDues os := by
  induction os generalizing s with
  | nil => rfl
  | cons o os ih =>
    have first : s.raise o = s.setDue o.seat o.kind := (s.raise_spec o).2 full
    have rest := h.raise
    rw [first] at rest
    rw [h.applyOutcomes_cons, first, ih rest (by simpa using full)]
    rfl

/-! ## Due marks set in turn -/

theorem State.records_setDues (s : State) (os : List HandedOutcome) : (s.setDues os).records = s.records := by
  induction os generalizing s with
  | nil => rfl
  | cons o os ih => exact (ih _).trans (s.setDue_records ..)

theorem State.isDue_setDues (s : State) (os : List HandedOutcome) (n : Seat) (k : Kind) :
    (s.setDues os).isDue n k = (s.isDue n k || os.any fun o => o.seat == n && o.kind == k) := by
  induction os generalizing s with
  | nil => simp [State.setDues]
  | cons o os ih =>
    refine (ih _).trans ?_
    rw [State.isDue_setDue, List.any_cons]
    by_cases here : n = o.seat ∧ k = o.kind
    · simp [here]
    · have apart : (o.seat == n && o.kind == k) = false := by
        rw [Bool.eq_false_iff, ne_eq, Bool.and_eq_true, beq_iff_eq, beq_iff_eq]
        exact fun same => here ⟨same.1.symm, same.2.symm⟩
      rw [if_neg here, apart, Bool.false_or]

theorem State.overflow_setDue (s : State) (n : Seat) (k : Kind) : (s.setDue n k).overflow = true :=
  (State.overflow_iff _).2 ⟨n, k, by simp⟩

theorem State.notice_setDue (s : State) (n : Seat) (k : Kind) (y : LinkId) : ((s.setDue n k).link y).notice
    = ((s.link y).notice || ((s.link y).enabled && !s.overflow)) := by
  rw [State.setDue]
  cases s.overflow
  · exact (congrArg LinkState.notice ((s.putDue n k true).link_noticeOverflow y)).trans (by simp; rfl)
  · simp
    rfl

/-- The first due mark makes the notice of every enabled link pending, and the others find it so (R91, R109). -/
theorem State.notice_setDues (s : State) (os : List HandedOutcome) (y : LinkId) : ((s.setDues os).link y).notice
    = ((s.link y).notice || ((s.link y).enabled && (!s.overflow && !os.isEmpty))) := by
  induction os generalizing s with
  | nil => simp [State.setDues]
  | cons o os ih =>
    refine (ih _).trans ?_
    rw [State.overflow_setDue, State.notice_setDue]
    simp

/-! ## From an empty list -/

/-- What new outcomes make of an empty list without due marks. -/
theorem State.admitsNew.of_empty (h : s.admitsNew os) (records : s.records = []) (undue : ∀ n k, s.isDue n k = false) :
    (s.applyOutcomes os).records = (os.take 48).map (HandedOutcome.raisedIn s)
      ∧ (∀ n k, (s.applyOutcomes os).isDue n k = (os.drop 48).any fun o => o.seat == n && o.kind == k)
      ∧ ∀ y, ((s.applyOutcomes os).link y).notice
        = ((s.link y).notice || ((s.link y).enabled && decide (48 < os.length))) := by
  rw [← List.take_append_drop 48 os] at h
  obtain ⟨applied, admits⟩ := h.applyOutcomes_append (by simp [records])
  rw [List.take_append_drop] at applied
  rw [applied]
  have calm : s.overflow = false := by
    rw [Bool.eq_false_iff, ne_eq, State.overflow_iff]
    rintro ⟨n, k, due⟩
    cases (undue n k).symm.trans due
  have raised : (s.withRaised (os.take 48)).records = (os.take 48).map (HandedOutcome.raisedIn s) := by
    rw [State.withRaised, records, List.nil_append]
  by_cases beyond : 48 < os.length
  · rw [admits.applyOutcomes_full (by simp [raised]; omega)]
    refine ⟨(State.records_setDues ..).trans raised, fun n k => ?_, fun y => ?_⟩
    · rw [State.isDue_setDues]
      exact (congrArg (· || _) (undue n k)).trans (Bool.false_or _)
    · have left : (os.drop 48).isEmpty = false := by simpa using beyond
      have still : (s.withRaised (os.take 48)).overflow = false := calm
      rw [State.notice_setDues, left, still]
      simp only [beyond, decide_true, Bool.not_false, Bool.and_true]
      rfl
  · have none : os.drop 48 = [] := List.drop_eq_nil_of_le (Nat.not_lt.1 beyond)
    rw [none]
    refine ⟨raised, undue, fun y => ?_⟩
    simp only [beyond, decide_false, Bool.and_false, Bool.or_false]
    rfl

end

end Sys2Proof.Machine
end

section
/-! START SITTING: every bound seat evaluated from QUIET qualifiers, and the list filled in seat and kind order (R70,
R124). -/

namespace Sys2Proof.Machine

/-! ## The qualifiers as START SITTING evaluates them -/

/-- What the qualifiers of a bound seat hold before the evaluation (R66, R70). -/
structure State.opensSeat (u : State) (n : Seat) (m : SeatMonitor) : Prop where
  quiet : ∀ k, m.state.get k = .quiet
  batteryPv : m.batteryPv = u.params.batteryQualify
  weakPv : m.weakPv = u.params.weakQualify
  grade : m.grade = none
  held : m.held = if (u.seat n).signal = .lost then some (batteryLow u.params (u.seat n)) else none

/-- A chamber in SITTING as its first evaluation finds it: an empty floor, an empty list and QUIET qualifiers. -/
structure State.opening (u : State) : Prop where
  sitting : u.sitting = .sitting
  floor : u.floor = []
  records : u.records = []
  undue : ∀ n k, u.isDue n k = false
  quiet : ∀ n k, (u.monitor n).state.get k = .quiet
  openPv : ∀ n, (u.monitor n).openPv = 0
  limit : 0 < u.params.openNoFloorLimit
  seats : ∀ n, u.bound n = true → u.opensSeat n (u.monitor n)

section
variable {u : State} {n : Seat} {m : SeatMonitor}

/-- A BATTERY that was not QUALIFIED has a grade if it enters (R66). -/
theorem batteryGrade_enters {p : Params} {r : SeatRecord} {held : Option Bool} {before now : QState}
    {v : Option Verdict} (fits : Verdict.fits .battery v before now) (off : before ≠ .qualified) :
    (batteryGrade p r held now v none).1
      = if now ≠ .qualified then none else if batteryCritical p r then some .critical else some .low := by
  by_cases enters : now = .qualified
  · obtain rfl := fits.qualified.2 ⟨off, enters⟩
    simp only [batteryGrade, enters, ne_eq, not_true_eq_false, if_false]
    split <;> rfl
  · rw [if_pos enters]
    rcases v with _ | _ | _ | _
    · simp [batteryGrade]
    · exact absurd (fits.qualified.1 rfl).2 enters
    · simp [batteryGrade]
    · rfl

section
variable (h : u.opensSeat n m)
include h

/-- The held condition of a LOST seat was taken from p, so that BATTERY is judged by p in every signal state (R66). -/
theorem State.opensSeat.battery_holds :
    (heldCondition (u.seat n).signal m.state.battery m.held).getD (batteryLow u.params (u.seat n))
      = batteryLow u.params (u.seat n) := by
  rw [h.held, heldCondition]
  split <;> rfl

theorem State.opensSeat.judgeBattery : (u.judgeKind false n .battery m).1.figure .battery = eventMove
    u.params.batteryQualify ((u.seat n).est.percent.any (· ≤ u.params.batteryLowPct)) false .quiet
      u.params.batteryQualify := by
  have quiet : m.state.battery = .quiet := h.quiet .battery
  have holds := h.battery_holds
  rw [quiet] at holds
  rw [← resettingEvent_eq, ← batteryLow_eq_any]
  simp only [State.judgeKind, State.judgeBattery, quiet, h.batteryPv, holds]
  rfl

/-- BATTERY enters with the grade of its p (R66). -/
theorem State.opensSeat.judgeBattery_grade : (u.judgeKind false n .battery m).1.grade =
    if (u.judgeKind false n .battery m).1.state.battery ≠ .qualified then none
    else if (u.seat n).est.percent.any (· ≤ u.params.batteryCritPct) then some .critical else some .low := by
  rw [← batteryCritical_eq_any]
  simp only [State.judgeKind, State.judgeBattery, h.grade]
  exact batteryGrade_enters (Verdict.fits_of_resetting .battery) fun was => by
    cases (h.quiet .battery).symm.trans was

theorem State.opensSeat.judgeWeak : (u.judgeKind false n .signalWeak m).1.figure .signalWeak = eventMove
    u.params.weakQualify
      (((u.seat n).signal == .heard || (u.seat n).signal == .fading)
        && ((u.seat n).levelStore.map (· / 4)).any (· < u.params.weakLevel)) false .quiet u.params.weakQualify := by
  have quiet : m.state.signalWeak = .quiet := h.quiet .signalWeak
  have holds : weakHolds u.params (u.seat n) = (((u.seat n).signal == .heard || (u.seat n).signal == .fading)
      && ((u.seat n).levelStore.map (· / 4)).any (· < u.params.weakLevel)) := by
    rw [weakHolds, SeatRecord.levelAverage, SeatRecord.heardOrFading, Bool.and_comm]
    cases (u.seat n).levelStore <;> simp
  rw [← resettingEvent_eq, ← holds]
  simp only [State.judgeKind, State.judgeSignalWeak, quiet, h.weakPv]
  rfl

theorem State.opensSeat.judgeLost : (u.judgeKind false n .signalLost m).1.state.signalLost = .qualified
    ↔ (u.seat n).signal = .lost := by
  have quiet : m.state.signalLost = .quiet := h.quiet .signalLost
  simp only [State.judgeKind, State.judgeSignalLost, quiet]
  split <;> simp_all

theorem State.opensSeat.judgeDropouts : ((u.judgeKind false n .dropouts m).1.state.dropouts = .qualified
      ↔ u.params.dropoutLimit ≤ (u.seat n).dropouts)
    ∧ ((u.judgeKind false n .dropouts m).1.state.dropouts = .qualified →
      (u.judgeKind false n .dropouts m).1.windowMark = true) := by
  have quiet : m.state.dropouts = .quiet := h.quiet .dropouts
  by_cases limit : u.params.dropoutLimit ≤ (u.seat n).dropouts
  · obtain ⟨qualified, mark⟩ := State.judgeDropouts_of_limit limit m (by simp [quiet]) false
    exact ⟨iff_of_true qualified limit, fun _ => mark⟩
  · rw [State.judgeDropouts_below (Nat.not_le.1 limit), quiet]
    simp [limit]

theorem State.opensSeat.judgeShortfall : (u.judgeKind false n .batteryShortfall m).1.state.batteryShortfall = .qualified
    ↔ ∃ r, (u.seat n).est.minutes = some r ∧ r < u.required := by
  have quiet : m.state.batteryShortfall = .quiet := h.quiet .batteryShortfall
  rw [State.judgeShortfall_state, quiet]
  cases (u.seat n).est.minutes with
  | none => simp [shortfallState]
  | some r => by_cases short : r < u.required <;> simp [shortfallState, short]

end

end

/-! ## The evaluation -/

section
variable {u : State} (h : u.opening)
include h

/-- Every bound seat is evaluated. -/
theorem State.opening.evaluates (n : Seat) : u.evaluates n = u.bound n := by simp [State.evaluates, h.sitting]

theorem State.opening.judges (n : Seat) (k : Kind) : u.judges (everySeat .every) n k = u.bound n := by
  rw [State.judges, h.evaluates, everySeat, PerKind.get_every, Bool.and_true]

/-- Nobody is on the floor, so MUTED_SPEECH does not hold (R67). -/
theorem State.opening.judgeMuted (n : Seat) :
    (u.judgeKind false n .mutedSpeech (u.monitor n)).1.state.mutedSpeech = .quiet := by
  have quiet : (u.monitor n).state.mutedSpeech = .quiet := h.quiet n .mutedSpeech
  have off : u.mutedSpeechHolds n = false := by simp [State.mutedSpeechHolds, State.onFloor, h.floor]
  have figure := State.judgeMutedSpeech_event (n := n) (m := u.monitor n) h.sitting
  rw [quiet, off] at figure
  exact congrArg Prod.fst figure

/-- Nobody is on the floor, so OPEN_NO_FLOOR counts exactly where mute is OPEN (R68). -/
theorem State.opening.judgeOpen (n : Seat) : (u.judgeKind false n .openNoFloor (u.monitor n)).1.state.openNoFloor
    = if (u.seat n).mute = .opened then .qualifying else .quiet := by
  have off : u.onFloor n = false := by simp [State.onFloor, h.floor]
  have limit := h.limit
  split
  · next opened =>
    rw [State.judgeOpenNoFloor_event_on h.sitting ((u.openNoFloorHolds_iff n).2 ⟨opened, off⟩) (h.quiet n .openNoFloor),
      h.openPv, if_neg (by omega)]
  · next muted => exact State.judgeOpenNoFloor_event_off h.sitting (State.openNoFloorHolds_of_mute muted)

/-- No judgement clears or raises what is QUIET. -/
theorem State.opening.verdict (n : Seat) (k : Kind) : (u.judgeKind false n k (u.monitor n)).2
    = if (u.judgeKind false n k (u.monitor n)).1.state.get k = .qualified then some .qualified else none := by
  have fits := u.judgeKind_fits false n k (u.monitor n)
  rw [h.quiet] at fits
  obtain ⟨qualified, cleared, rise⟩ := fits
  generalize (u.judgeKind false n k (u.monitor n)).2 = v at *
  rcases v with _ | _ | _ | _ <;> simp_all

/-- Each kind of each bound seat is as its judgement leaves it. -/
theorem State.opening.core (n : Seat) (k : Kind) : ((u.evaluate false (everySeat .every)).monitor n).core k
    = if u.bound n then (u.judgeKind false n k (u.monitor n)).1.core k else (u.monitor n).core k := by
  have stepped := u.stepped_evaluate false (everySeat .every) n k fun _ cleared => by
    rw [h.verdict] at cleared
    split at cleared <;> cases cleared
  rw [stepped, h.evaluates, everySeat, PerKind.get_every, Bool.and_true]

/-- An event counts nothing (R62). -/
theorem State.opening.openPv_evaluate (n : Seat) : ((u.evaluate false (everySeat .every)).monitor n).openPv = 0 := by
  have core := h.core n .openNoFloor
  split at core
  · exact (SeatMonitor.pv_of_core core).trans (State.judgeOpenNoFloor_event_pv.trans (h.openPv n))
  · exact (SeatMonitor.pv_of_core core).trans (h.openPv n)

end

/-! ## The outcomes (R59, R83) -/

/-- The (seat, kind)s that are QUALIFIED, in ascending seat order, each seat's in kind order. -/
def State.qualifiedMarks (t : State) : List (Seat × Kind) :=
  (List.finRange 128).flatMap fun n =>
    (allKinds.filter fun k => (t.monitor n).state.get k == .qualified).map fun k => (n, k)

/-- The qualified outcome of a (seat, kind), with the grade and the detail that it has. -/
def State.qualifiedOutcome (t : State) (m : Seat × Kind) : HandedOutcome :=
  ⟨m.1, m.2, .qualified, gradeOf m.2 (t.monitor m.1), detailOf m.2 (t.seat m.1) (t.monitor m.1)⟩

theorem flatMap_ite_singleton {α β : Type} (l : List α) (p : α → Bool) (f : α → β) :
    (l.flatMap fun a => if p a then [f a] else []) = (l.filter p).map f := by
  induction l with
  | nil => rfl
  | cons a l ih => cases here : p a <;> simp [here, ih]

section
variable {u : State} (h : u.opening)
include h

/-- One (seat, kind) hands its qualified outcome on where it is QUALIFIED. -/
theorem State.opening.outcome (n : Seat) (k : Kind) :
    (if u.judges (everySeat .every) n k then (u.evaluateKind false n k (u.monitor n)).2 else [])
      = if ((u.evaluate false (everySeat .every)).monitor n).state.get k == .qualified
        then [(u.evaluate false (everySeat .every)).qualifiedOutcome (n, k)] else [] := by
  have core := h.core n k
  rw [h.judges]
  cases bound : u.bound n
  · rw [bound, if_neg Bool.false_ne_true] at core
    have quiet := (SeatMonitor.state_of_core core).trans (h.quiet n k)
    simp [quiet]
  · rw [bound, if_pos rfl] at core
    rw [State.qualifiedOutcome, State.onlyMonitorAndList_seat (u.onlyMonitorAndList_evaluate ..),
      SeatMonitor.grade_of_core core, detailOf_of_core core, SeatMonitor.state_of_core core]
    simp only [State.evaluateKind, h.verdict]
    by_cases qualified : (u.judgeKind false n k (u.monitor n)).1.state.get k = .qualified <;>
      simp [qualified, State.outcomeFor]

theorem State.opening.outcomes : u.outcomes false (everySeat .every)
    = (u.evaluate false (everySeat .every)).qualifiedMarks.map (u.evaluate false (everySeat .every)).qualifiedOutcome := by
  rw [State.outcomes_eq, State.qualifiedMarks, List.map_flatMap]
  refine List.flatMap_congr fun n _ => ?_
  simp only [h.outcome, List.map_map]
  exact flatMap_ite_singleton ..

/-! ## The list (R75, R83, R91, R109) -/

theorem State.opening.admitsNew :
    (u.evaluateAll false (everySeat .every)).admitsNew (u.outcomes false (everySeat .every)) := by
  refine ⟨fun o mem => ?_, fun o _ => ?_, u.outcomes_pairwise false _⟩
  · rw [h.outcomes] at mem
    obtain ⟨m, -, rfl⟩ := List.mem_map.1 mem
    rfl
  · rw [State.record, u.records_evaluateAll false, h.records]
    rfl

/-- The first 48 outcomes are the records, and the others wait as due marks. -/
theorem State.opening.list (t : State) (ht : t = u.evaluate false (everySeat .every)) :
    t.records = (t.qualifiedMarks.take 48).map (fun m =>
        newRecord u.params u.clock m.1 m.2 (gradeOf m.2 (t.monitor m.1)) (detailOf m.2 (u.seat m.1) (t.monitor m.1)))
      ∧ (∀ n k, t.isDue n k = (t.qualifiedMarks.drop 48).contains (n, k))
      ∧ ∀ y, (t.link y).notice = ((u.link y).notice || ((u.link y).enabled && decide (48 < t.qualifiedMarks.length))) := by
  have undue (n : Seat) (k : Kind) : (u.evaluateAll false (everySeat .every)).isDue n k = false := by
    rw [State.isDue_evaluateAll, h.undue, Bool.false_and]
  have handed : u.outcomes false (everySeat .every) = t.qualifiedMarks.map t.qualifiedOutcome := by rw [h.outcomes, ht]
  have applied : (u.evaluateAll false (everySeat .every)).applyOutcomes (t.qualifiedMarks.map t.qualifiedOutcome) = t := by
    rw [← handed, ht]
    rfl
  obtain ⟨records, due, notice⟩ := h.admitsNew.of_empty ((u.records_evaluateAll false _).trans h.records) undue
  rw [handed, applied] at records due notice
  have seat (n : Seat) : t.seat n = u.seat n := by
    rw [ht, State.onlyMonitorAndList_seat (u.onlyMonitorAndList_evaluate ..)]
  have judged : u.onlyMonitorAndList (u.evaluateAll false (everySeat .every)) := u.evaluateAll_frame _
  have params := State.onlyMonitorAndList_params judged
  have clock := State.onlyMonitorAndList_clock judged
  have link (y : LinkId) : (u.evaluateAll false (everySeat .every)).link y = u.link y := by
    simp only [State.link, State.evaluateAll, State.mapMonitors_links]
  refine ⟨?_, fun n k => ?_, fun y => ?_⟩
  · rw [records, ← List.map_take, List.map_map]
    refine List.map_congr_left fun m _ => ?_
    simp only [Function.comp_apply, HandedOutcome.raisedIn, State.qualifiedOutcome, params, clock, seat]
  · rw [due, ← List.map_drop, List.any_map, Bool.eq_iff_iff, List.any_eq_true, List.contains_iff_mem]
    simp [State.qualifiedOutcome]
  · rw [notice, List.length_map, link]

/-! ## The qualifiers of a bound seat -/

/-- Every kind of a bound seat judged from QUIET (R56, R60, R63, R65 to R69). -/
theorem State.opening.seat (t : State) (ht : t = u.evaluate false (everySeat .every)) {n : Seat}
    (bound : u.bound n = true) : ((t.monitor n).state.signalLost = .qualified ↔ (u.seat n).signal = .lost)
      ∧ (t.monitor n).state.openNoFloor = (if (u.seat n).mute = .opened then .qualifying else .quiet)
      ∧ (t.monitor n).openPv = 0 ∧ (t.monitor n).state.mutedSpeech = .quiet
      ∧ ((t.monitor n).state.dropouts = .qualified ↔ u.params.dropoutLimit ≤ (u.seat n).dropouts)
      ∧ ((t.monitor n).state.dropouts = .qualified → (t.monitor n).windowMark = true)
      ∧ ((t.monitor n).state.battery, (t.monitor n).batteryPv) =
          eventMove u.params.batteryQualify ((u.seat n).est.percent.any (· ≤ u.params.batteryLowPct)) false
            .quiet u.params.batteryQualify
      ∧ (t.monitor n).grade = (if (t.monitor n).state.battery ≠ .qualified then none
          else if (u.seat n).est.percent.any (· ≤ u.params.batteryCritPct) then some .critical else some .low)
      ∧ ((t.monitor n).state.signalWeak, (t.monitor n).weakPv) =
          eventMove u.params.weakQualify
            (((u.seat n).signal == .heard || (u.seat n).signal == .fading)
              && ((u.seat n).levelStore.map (· / 4)).any (· < u.params.weakLevel))
            false .quiet u.params.weakQualify
      ∧ ((t.monitor n).state.batteryShortfall = .qualified ↔
          ∃ r, (u.seat n).est.minutes = some r ∧ r < u.required) := by
  have core (k : Kind) : (t.monitor n).core k = (u.judgeKind false n k (u.monitor n)).1.core k := by
    rw [ht, h.core, if_pos bound]
  have seat := h.seats n bound
  have state (k : Kind) := SeatMonitor.state_of_core (core k)
  have battery : (t.monitor n).state.battery = _ := state .battery
  have shortfall : (t.monitor n).state.batteryShortfall = _ := state .batteryShortfall
  have muted : (t.monitor n).state.mutedSpeech = _ := state .mutedSpeech
  have opened : (t.monitor n).state.openNoFloor = _ := state .openNoFloor
  have dropouts : (t.monitor n).state.dropouts = _ := state .dropouts
  have lost : (t.monitor n).state.signalLost = _ := state .signalLost
  have mark : (t.monitor n).windowMark = _ := SeatMonitor.mark_of_core (core .dropouts)
  have grade : (t.monitor n).grade = _ := SeatMonitor.grade_of_core (core .battery)
  refine ⟨lost ▸ seat.judgeLost, opened.trans (h.judgeOpen n), ht ▸ h.openPv_evaluate n, muted.trans (h.judgeMuted n),
    dropouts ▸ seat.judgeDropouts.1, fun q => mark.trans (seat.judgeDropouts.2 (dropouts.symm.trans q)),
    (SeatMonitor.figure_of_core (core .battery)).trans seat.judgeBattery, ?_,
    (SeatMonitor.figure_of_core (core .signalWeak)).trans seat.judgeWeak, shortfall ▸ seat.judgeShortfall⟩
  rw [grade, battery]
  exact seat.judgeBattery_grade

end

/-! ## START SITTING (R124) -/

/-- The chamber as START SITTING evaluates it. -/
def State.opened (s : State) (length : Nat) : State :=
  { s with sitting := .sitting, clock := 0, scheduled := length }.mapMonitors fun n m =>
    if s.bound n then s.startMonitor n m else m

section
variable {s : State} (length : Nat)

theorem State.startSitting_eq : s.startSitting length = (s.opened length).evaluate false (everySeat .every) := rfl

theorem State.startSitting_frame : State.onlyMonitorAndList
    { s with sitting := .sitting, clock := 0, scheduled := length } (s.startSitting length) :=
  State.onlyMonitorAndList_startMonitors _

theorem State.monitor_opened (n : Seat) : (s.opened length).monitor n
    = if s.bound n then s.startMonitor n (s.monitor n) else s.monitor n := State.monitor_mapMonitors ..

/-- What SETUP leaves of the list, the floor and the qualifiers (R70, R72). -/
theorem State.opening_opened (setup : s.sitting = .setup) (params : s.params.lawful) (floor : s.floorLaw)
    (list : s.setupLaw) (monitors : s.monitorLaw) (values : s.openLaw) : (s.opened length).opening := by
  obtain ⟨records, idle⟩ := list setup
  obtain ⟨-, -, empty, -⟩ := floor
  have undue (n : Seat) (k : Kind) : s.isDue n k = false := (idle n k (mem_allKinds k)).1
  have quiet (n : Seat) (k : Kind) : (s.monitor n).state.get k = .quiet := (idle n k (mem_allKinds k)).2
  have off (n : Seat) : (s.monitor n).openPv = 0 := values n (.inl (by simp [setup]))
  refine ⟨rfl, empty (by simp [setup]), records, fun n k => ?_, fun n k => ?_, fun n => ?_, ?_, fun n bound => ?_⟩
  · rw [State.isDue, State.monitor_opened]
    split <;> exact undue n k
  · rw [State.monitor_opened]
    split <;> exact quiet n k
  · rw [State.monitor_opened]
    split <;> exact off n
  · have low : 10 ≤ s.params.openNoFloorLimit := (params.1 9 (by decide)).1
    exact Nat.lt_of_lt_of_le (by decide) low
  · have bound : s.bound n = true := bound
    obtain ⟨-, -, -, -, graded, -⟩ := monitors n
    have grade : (s.monitor n).grade = none := by
      have battery : (s.monitor n).state.battery = .quiet := quiet n .battery
      simpa [battery] using graded
    rw [State.monitor_opened, if_pos bound]
    exact ⟨quiet n, rfl, rfl, grade, rfl⟩

theorem State.required_opened : (s.opened length).required = length + s.params.reserveMin := by
  simp [State.required, State.elapsedMinutes, State.opened]

/-- A reply leaves every notice. -/
theorem State.notice_onLink (v : State) (x y : LinkId) (code : Byte) (st : ReplyStatus) (payload : List Byte) :
    (((v.answer st payload).onLink x code).link y).notice = (v.link y).notice := by
  simp only [Served.onLink, State.answer, State.link_putLink]
  split
  · next own => rw [own]
  · rfl

theorem serve_startSitting {x : LinkId} (role : s.presiding x = true) (idle : s.loading = false)
    (setup : s.sitting = .setup) (hi lo : Byte) (rest : List Byte) : serve .startSitting x (hi :: lo :: rest) s =
      (s.startSitting (min 1439 (number2 hi lo))).answer (if 1439 < number2 hi lo then .adjusted else .ok)
        ([0x01] ++ bytes2 (min 1439 (number2 hi lo)) ++ [0, 0, 0]
          ++ [byte (s.startSitting (min 1439 (number2 hi lo))).records.length,
            byte (if (s.startSitting (min 1439 (number2 hi lo))).overflow then 1 else 0)]) := by
  have frame := s.startSitting_frame (min Config.scheduleMax (number2 hi lo))
  have sitting : (s.startSitting (min Config.scheduleMax (number2 hi lo))).sitting = .sitting :=
    State.onlyMonitorAndList_sitting frame
  have clock : (s.startSitting (min Config.scheduleMax (number2 hi lo))).clock = 0 :=
    State.onlyMonitorAndList_clock frame
  have scheduled : (s.startSitting (min Config.scheduleMax (number2 hi lo))).scheduled
      = min Config.scheduleMax (number2 hi lo) := congrArg State.scheduled frame.1
  simp only [serve, serveStartSitting, role, idle, setup, Bool.not_true, Bool.false_eq_true, if_false, ne_eq,
    not_true_eq_false, sitting, clock, scheduled, okOr, decide_eq_true_eq]
  rfl

end

/-- Settles O39: the judgements from QUIET, and the list that their outcomes make. -/
theorem startSittingEvaluatesTheChamber : Obligations.StartSittingEvaluatesTheChamber := by
  unfold Obligations.StartSittingEvaluatesTheChamber
  intro s x hi lo rest lawful ready role idle setup asked
  let u : State := s.listening x
  let v : State := u.opened (min 1439 asked)
  have serves := serve_startSitting (s := u) ((s.presiding_listening x).trans (State.presiding_of_role role)) idle setup
    hi lo rest
  rw [number2_eq] at serves
  have opening : v.opening := State.opening_opened (s := u) _ setup lawful.params lawful.floor lawful.setup
    lawful.monitor lawful.openValues
  have required : v.required = min 1439 asked + s.params.reserveMin := u.required_opened _
  have frame := u.startSitting_frame (min 1439 asked)
  obtain ⟨records, due, notice⟩ := opening.list _ (u.startSitting_eq _)
  refine ⟨_, congrArg Host.Outcome.next ((State.requestReaches_of_ready ready .startSitting _).trans
    (congrArg (Served.onLink · x _) serves)), State.onlyMonitorAndList_sitting frame,
    State.onlyMonitorAndList_clock frame, congrArg State.scheduled frame.1, fun n bound => ?_,
    ⟨?_, due, fun y => ?_⟩, State.repliesIn_onLink frame.2, ?_⟩
  · have seat := opening.seat _ (u.startSitting_eq _) bound
    rw [required] at seat
    exact seat
  · refine records.trans (List.map_congr_left fun ⟨n, k⟩ _ => ?_)
    cases k with
    | openNoFloor =>
      have opened : ((u.startSitting (min 1439 asked)).monitor n).openPv = 0 := opening.openPv_evaluate n
      simp only [detailOf, opened]
      rfl
    | battery | batteryShortfall | mutedSpeech | signalWeak | dropouts | signalLost => rfl
  · refine (State.notice_onLink ..).trans ((notice y).trans ?_)
    have link : v.link y = u.link y := rfl
    rw [link, State.link_listening]
    split
    · next own =>
      rw [own]
      rfl
    · rfl
  · obtain ⟨core, -⟩ := frame
    change Served.onLink (State.answer (u.startSitting (min 1439 asked)) _ _) x _ = _
    generalize u.startSitting (min 1439 asked) = c at core ⊢
    rw [core]
    rfl

end Sys2Proof.Machine
end

section
/-! The settled statement on the laws of the Warning List (R58, R75, R76, R80, R86, R91, R93). -/

namespace Sys2Proof.Machine

/-- Settles O57: a step is a run of moves, and every move keeps the laws of the list together. -/
theorem stepKeepsTheWarningList : Obligations.StepKeepsTheWarningList := by
  unfold Obligations.StepKeepsTheWarningList
  intro s t list due setup qualified step
  rw [← State.warningLaws_iff]
  exact law_of_step step (fun _ _ => State.warningLaws_moves) (s.warningLaws_iff.2 ⟨list, due, setup, qualified⟩)

end Sys2Proof.Machine
end

section
/-! Admission takes the due marks in their order, and with it a full list's part (R75, R83, R88 to R91). -/

namespace Sys2Proof.Machine

section
variable (s : State) (n : Seat) (k : Kind)

/-! ## The due marks in admission order -/

theorem State.mem_dueMarks (m : Seat × Kind) : m ∈ s.dueMarks ↔ s.isDue m.1 m.2 = true := by
  obtain ⟨n, k⟩ := m
  simp [State.dueMarks, List.mem_flatMap]

theorem State.nodup_dueMarks : s.dueMarks.Nodup := by
  rw [State.dueMarks, List.nodup_flatMap]
  refine ⟨fun n _ => (allKinds_nodup.filter _).map fun _ _ => congrArg Prod.snd, ?_⟩
  refine (List.nodup_finRange 128).imp fun {n m} ne => ?_
  rw [Function.onFun, List.disjoint_left]
  rintro ⟨j, k⟩ hn hm
  simp only [List.mem_map, Prod.mk.injEq] at hn hm
  obtain ⟨-, -, rfl, -⟩ := hn
  obtain ⟨-, -, rfl, -⟩ := hm
  exact ne rfl

/-- The mark that admission takes first is the first of the order (R89). -/
theorem State.firstDue_eq_head : s.firstDue = s.dueMarks.head? := by
  have one (n : Seat) : ((allKinds.find? (s.isDue n)).map fun k => (n, k))
      = ((allKinds.filter (s.isDue n)).map fun k => (n, k)).head? := by
    rw [List.head?_map, List.head?_filter]
  simp only [State.firstDue, State.dueMarks, one, allSeats]
  induction List.finRange 128 with
  | nil => rfl
  | cons n ns ih =>
    rw [List.findSome?_cons, List.flatMap_cons, List.head?_append, ih]
    cases ((allKinds.filter (s.isDue n)).map fun k => (n, k)).head? <;> rfl

/-- A mark that is dropped leaves the order as it is otherwise. -/
theorem State.dueMarks_putDue_false : (s.putDue n k false).dueMarks = s.dueMarks.filter (· != (n, k)) := by
  rw [State.dueMarks, State.dueMarks, List.filter_flatMap]
  refine List.flatMap_congr fun m _ => ?_
  rw [List.filter_map, List.filter_filter]
  refine congrArg _ (List.filter_congr fun j _ => ?_)
  rw [State.isDue_putDue]
  by_cases here : m = n ∧ j = k
  · simp [here]
  · rw [if_neg here]
    have other : ((m, j) != (n, k)) = true := by
      rw [bne_iff_ne, ne_eq, Prod.mk.injEq]
      exact here
    simp [other]

end

/-! ## Admission (R89, R90) -/

/-- The figures of a record do not read the due marks. -/
theorem admittedFigures_putDue (s : State) (n m : Seat) (k j : Kind) :
    gradeOf j ((s.putDue n k false).monitor m) = gradeOf j (s.monitor m)
      ∧ detailOf j (s.seat m) ((s.putDue n k false).monitor m) = detailOf j (s.seat m) (s.monitor m) :=
  ⟨SeatMonitor.grade_of_core (s.core_putDue n m k j false), detailOf_of_core (s.core_putDue n m k j false) _⟩

/-- Admission depends on the seats, the qualifiers but for due marks, the parameters and the clock. -/
theorem State.admitted_admitMark (s : State) (n : Seat) (k : Kind) (marks : List (Seat × Kind)) :
    (s.admitMark n k).admitted marks = s.admitted marks := by
  refine List.map_congr_left fun m _ => ?_
  obtain ⟨grade, detail⟩ := admittedFigures_putDue s n m.1 k m.2
  exact congrArg₂ (newRecord s.params s.clock m.1 m.2) grade detail

/-- Admission into a number of places takes as many marks in their order (R89). -/
theorem State.fillPlaces_spec (places : Nat) (s : State) :
    (State.fillPlaces places s).records = s.records ++ s.admitted (s.dueMarks.take places)
      ∧ ∀ n k, (State.fillPlaces places s).isDue n k = (s.isDue n k && !(s.dueMarks.take places).contains (n, k)) := by
  induction places generalizing s with
  | zero => simp [State.fillPlaces, State.admitted]
  | succ places ih =>
    rw [State.fillPlaces, State.firstDue_eq_head]
    cases marks : s.dueMarks with
    | nil => simp [State.admitted]
    | cons first rest =>
      obtain ⟨n, k⟩ := first
      have left : (s.admitMark n k).dueMarks = rest := by
        have nodup := s.nodup_dueMarks
        rw [marks, List.nodup_cons] at nodup
        have drops : (s.admitMark n k).dueMarks = s.dueMarks.filter (· != (n, k)) := s.dueMarks_putDue_false n k
        rw [drops, marks, List.filter_cons_of_neg (by simp), List.filter_eq_self]
        exact fun m hm => bne_iff_ne.2 fun same => nodup.1 (same ▸ hm)
      obtain ⟨records, due⟩ := ih (s.admitMark n k)
      rw [left] at records due
      refine ⟨?_, fun m j => ?_⟩
      · refine records.trans ?_
        rw [State.admitted_admitMark, List.take_succ_cons]
        exact List.append_assoc ..
      · refine (due m j).trans ?_
        rw [List.take_succ_cons, List.contains_cons]
        have dropped : (s.admitMark n k).isDue m j = if m = n ∧ j = k then false else s.isDue m j :=
          s.isDue_putDue n m k j false
        rw [dropped]
        by_cases here : m = n ∧ j = k
        · simp [here]
        · have other : ((m, j) == (n, k)) = false := by
            rw [beq_eq_false_iff_ne, ne_eq, Prod.mk.injEq]
            exact here
          rw [if_neg here, other, Bool.false_or]

/-- Admission fills the free places with the first due marks, behind the records there are (R88, R89). -/
theorem State.fillFreed_spec (s : State) :
    s.fillFreed.records = s.records ++ s.admitted (s.dueMarks.take (48 - s.records.length))
      ∧ ∀ n k, s.fillFreed.isDue n k
        = (s.isDue n k && !(s.dueMarks.take (48 - s.records.length)).contains (n, k)) := State.fillPlaces_spec _ s

/-- Settles O30: a raise that finds no place is a due mark, and admission takes the marks in their order. -/
theorem dueMarksWaitAndAreAdmitted : Obligations.DueMarksWaitAndAreAdmitted := by
  unfold Obligations.DueMarksWaitAndAreAdmitted
  intro s
  refine ⟨fun o verdict new full => ?_, s.fillFreed_spec⟩
  rw [State.applyOutcome_raise verdict new, (s.raise_spec o).2 full]
  exact ⟨State.setDue_records .., by simp, s.notice_setDue o.seat o.kind⟩

end Sys2Proof.Machine
end

section
/-! What outcomes write, field by field, and the clearings of one event (R74, R82 to R86, R88, R90). -/

namespace Sys2Proof.Machine

/-! ## Records (R82 to R86) -/

theorem Record.isFor_eq_decide (n : Seat) (k : Kind) (r : Record) : r.isFor n k = decide (r.seat = n ∧ r.kind = k) := by
  rw [Bool.eq_iff_iff, Record.isFor_iff, decide_eq_true_iff]

/-- A change of one record in the words of the spec. -/
theorem State.updateRecord_eq (s : State) (n : Seat) (k : Kind) (f : Record → Record) : s.updateRecord n k f
    = { s with records := s.records.map fun r => if r.seat = n ∧ r.kind = k then f r else r } := by
  simp only [State.updateRecord, Record.isFor_eq_decide, decide_eq_true_eq]

/-- The records that are not for a (seat, kind). -/
def recordsBut (n : Seat) (k : Kind) (rs : List Record) : List Record := rs.filter fun r => !r.isFor n k

theorem recordsBut_eq (n : Seat) (k : Kind) (rs : List Record) :
    recordsBut n k rs = rs.filter fun r => r.seat ≠ n ∨ r.kind ≠ k := by
  refine List.filter_congr fun r _ => ?_
  rw [Record.isFor_eq_decide, ← decide_not, decide_eq_decide, not_and_or]

/-- A record of another kind than OPEN_NO_FLOOR leaves the list alone (R74). -/
theorem State.removeRecord_of_ne (s : State) (n : Seat) {k : Kind} (h : k ≠ .openNoFloor) :
    s.removeRecord n k = { s with records := recordsBut n k s.records } := if_neg h

/-- An OPEN_NO_FLOOR record takes its present value with it (R74). -/
theorem State.removeRecord_openNoFloor (s : State) (n : Seat) : s.removeRecord n .openNoFloor
    = ({ s with records := recordsBut n .openNoFloor s.records } : State).putMonitor n (s.openRemoved n) := rfl

/-- A re-raise in the words of the spec (R84). -/
theorem Record.reRaise_eq (p : Params) (clock : Nat) (grade : Option Grade) (detail : Option Nat) (r : Record) :
    r.reRaise p clock grade detail =
      if r.kind = .battery ∧ r.grade = some .low ∧ grade = some .critical then
        { r with
          state := .activeUnacked, repeats := min 255 (r.repeats + 1), detail := detail
          seenBy := ⟨false, false, false⟩, changedAt := clock, grade := some .critical, severity := .urgent
          escalation := p.escStart .urgent }
      else
        { r with
          state := .activeUnacked, repeats := min 255 (r.repeats + 1), detail := detail
          seenBy := ⟨false, false, false⟩, changedAt := clock, escalation := p.escStart r.severity } := by
  have rises : (r.kind == .battery && r.grade == some .low && grade == some .critical) = true
      ↔ r.kind = .battery ∧ r.grade = some .low ∧ grade = some .critical := by
    simp [and_assoc]
  simp only [Record.reRaise, rises]
  split <;> rfl

theorem newRecord_eq (p : Params) (clock : Nat) (n : Seat) (k : Kind) (grade : Option Grade) (detail : Option Nat) :
    newRecord p clock n k grade detail = {
      seat := n, kind := k, grade := grade, severity := initialSeverity k grade, state := .activeUnacked
      raisedAt := clock, changedAt := clock, repeats := 0, escalations := 0, detail := detail
      roles := if k = .mutedSpeech ∨ k = .openNoFloor then ⟨true, false⟩ else ⟨false, true⟩
      ackedBy := ⟨false, false, false⟩, seenBy := ⟨false, false, false⟩
      escalation := p.escStart (initialSeverity k grade) } := by
  cases k <;> rfl

/-! ## Clearings of ACTIVE_ACKED records -/

section
variable {s : State} {o p : HandedOutcome}

/-- The list without the record of an outcome's (seat, kind). -/
def State.without (s : State) (o : HandedOutcome) : State := { s with records := recordsBut o.seat o.kind s.records }

theorem State.record_without (off : ¬(p.seat = o.seat ∧ p.kind = o.kind)) :
    (s.without o).record p.seat p.kind = s.record p.seat p.kind := by
  have removed := s.record_removeRecord o.seat p.seat p.kind o.kind
  rw [if_neg off, State.record, State.removeRecord_records] at removed
  exact removed

theorem State.clearsAcked.removes (h : s.clearsAcked o) : s.removes o = true := by
  obtain ⟨verdict, -, r, hr, acked⟩ := h
  simp [State.removes, verdict, Option.mem_def.1 hr, acked]

theorem State.clearsAcked.applyOutcome (h : s.clearsAcked o) : s.applyOutcome o = s.without o := by
  obtain ⟨verdict, other, r, hr, acked⟩ := h
  rw [State.applyOutcome_cleared_acked verdict hr acked, State.removeRecord_of_ne _ _ other]
  rfl

theorem State.clearsAcked.without (h : s.clearsAcked p) (off : ¬(p.seat = o.seat ∧ p.kind = o.kind)) :
    (s.without o).clearsAcked p := by
  obtain ⟨verdict, other, held⟩ := h
  exact ⟨verdict, other, by rwa [State.record_without off]⟩

/-- Clearings of ACTIVE_ACKED records make all the removals, and then marks are admitted (R88). -/
theorem State.applyHanded_clearsAcked (os : List HandedOutcome) : ∀ {freed : Bool} {s : State}, os ≠ [] →
    os.Pairwise (fun a b => a.seat ≠ b.seat ∨ a.kind ≠ b.kind) → (∀ o ∈ os, s.clearsAcked o) →
      s.applyHanded freed os = (os.foldl State.without s).fillFreed := by
  induction os with
  | nil => exact fun none => absurd rfl none
  | cons o os ih =>
    intro freed s _ apart clears
    obtain ⟨first, rest⟩ := List.forall_mem_cons.1 clears
    obtain ⟨alone, apart⟩ := List.pairwise_cons.1 apart
    have later : ∀ p ∈ os, (s.without o).clearsAcked p := fun p hp =>
      (rest p hp).without fun same => (alone p hp).elim (fun ne => ne same.1.symm) fun ne => ne same.2.symm
    simp only [State.applyHanded, first.removes, Bool.or_true, if_true, first.applyOutcome, List.foldl_cons]
    cases os with
    | nil => rfl
    | cons p os =>
      have more : (p :: os).any (s.without o).removes = true :=
        List.any_eq_true.2 ⟨p, List.mem_cons_self, (later p List.mem_cons_self).removes⟩
      rw [if_pos more]
      exact ih (by simp) apart later

theorem State.foldl_without (s : State) (os : List HandedOutcome) : os.foldl State.without s
    = { s with records := s.records.filter fun q => os.all fun o => q.seat ≠ o.seat ∨ q.kind ≠ o.kind } := by
  induction os generalizing s with
  | nil => simp
  | cons o os ih =>
    rw [List.foldl_cons, ih]
    simp only [State.without, recordsBut_eq, List.filter_filter, List.all_cons, Bool.and_comm]

end

section
variable {s : State} {first raised last : HandedOutcome} (one : s.clearsAcked first) (verdict : raised.verdict = .qualified)
  (new : s.record raised.seat raised.kind = none)
include one new

/-- A record that an outcome clears is not that of a (seat, kind) without one. -/
theorem State.clearsAcked.apart : ¬(raised.seat = first.seat ∧ raised.kind = first.kind) := fun same => by
  obtain ⟨-, -, r, hr, -⟩ := one
  rw [← same.1, ← same.2, new] at hr
  cases hr

include verdict

/-- A raise after a removal finds the place that it left (R83). -/
theorem State.clearsAcked.raise (list : s.listLaw) : (s.without first).applyOutcome raised
    = (s.without first).appendRecord (newRecord s.params s.clock raised.seat raised.kind raised.grade raised.detail) := by
  have none : (s.without first).record raised.seat raised.kind = none := (State.record_without (one.apart new)).trans new
  obtain ⟨-, -, r, hr, -⟩ := one
  obtain ⟨mem, key⟩ := State.mem_of_record hr
  have shorter : (s.without first).records.length < s.records.length :=
    List.length_filter_lt_length_iff_exists.2 ⟨r, mem, by simp [(Record.isFor_iff ..).2 key]⟩
  rw [State.applyOutcome_raise verdict none]
  exact (State.raise_spec _ raised).1 (Nat.lt_of_lt_of_le shorter list.1)

/-- A raise between two removals takes the place that the first left, and the marks the places after the second
(R83, R88; log 6). -/
theorem State.clearsAcked.raise_between (list : s.listLaw) (apart : ¬(last.seat = first.seat ∧ last.kind = first.kind))
    (two : s.clearsAcked last) : s.applyOutcomes [first, raised, last] = ({ s with
      records := recordsBut last.seat last.kind (recordsBut first.seat first.kind s.records)
        ++ [newRecord s.params s.clock raised.seat raised.kind raised.grade raised.detail] } : State).fillFreed := by
  have unlike := two.apart new
  have second := two.without apart
  have third : ((s.without first).appendRecord
      (newRecord s.params s.clock raised.seat raised.kind raised.grade raised.detail)).clearsAcked last := by
    obtain ⟨cleared, other, r, hr, acked⟩ := second
    exact ⟨cleared, other, r, by rw [State.record_appendRecord, Option.mem_def.1 hr]; rfl, acked⟩
  have stays : Record.isFor last.seat last.kind
      (newRecord s.params s.clock raised.seat raised.kind raised.grade raised.detail) = false := by
    rw [Bool.eq_false_iff, ne_eq, Record.isFor_iff]
    exact unlike
  simp only [State.applyOutcomes, State.applyHanded, one.removes, one.applyOutcome, one.raise verdict new list,
    second.removes, third.removes, third.applyOutcome, List.any_cons, List.any_nil, Bool.or_true, Bool.or_false,
    if_true, Bool.false_eq_true, if_false]
  refine congrArg State.fillFreed ?_
  simp only [State.without, State.appendRecord, recordsBut, List.filter_append, List.filter_cons, stays, Bool.not_false,
    if_true, List.filter_nil]

omit new in
/-- A raise after the last removal finds the list as the admission leaves it (R83; log 6). -/
theorem State.clearsAcked.raise_after :
    s.applyOutcomes [first, raised] = (s.without first).fillFreed.applyOutcome raised := by
  have stays : ∀ u : State, u.removes raised = false := fun u => by simp [State.removes, verdict]
  simp [State.applyOutcomes, State.applyHanded, one.removes, one.applyOutcome, stays]

end

/-- Settles O29: the list's operations in the words of the spec, and the removals of one event before its
admission. -/
theorem outcomesWriteRecords : Obligations.OutcomesWriteRecords := by
  unfold Obligations.OutcomesWriteRecords
  refine ⟨fun p clock n k grade detail => ?_, fun s o r record => ?_, fun s os some apart clears => ?_,
    fun s first raised last list apart one two verdict new => ?_⟩
  · rw [newRecord_eq]
    cases k <;> rfl
  · refine ⟨fun verdict cleared => ?_, fun verdict active => ?_, fun verdict unacked => ?_, fun verdict acked => ?_⟩
    · rw [State.applyOutcome_reRaise verdict record cleared, State.updateRecord_eq]
      refine congrArg (fun rs => ({ s with records := rs } : State)) (List.map_congr_left fun q _ => ?_)
      refine ite_congr rfl (fun _ => ?_) fun _ => rfl
      rw [Record.reRaise_eq]
      dsimp only
      split <;> rfl
    · rw [State.applyOutcome_rise verdict record active, State.updateRecord_eq]
      rfl
    · rw [State.applyOutcome_cleared_unacked verdict record unacked, State.updateRecord_eq]
      rfl
    · have removes : s.removes o = true := by simp [State.removes, verdict, record, acked]
      refine ⟨fun other => ?_, fun opened => ?_, ?_⟩
      · rw [State.applyOutcome_cleared_acked verdict record acked, State.removeRecord_of_ne _ _ other, recordsBut_eq]
      · rw [State.applyOutcome_cleared_acked verdict record acked, opened, State.removeRecord_openNoFloor,
          recordsBut_eq]
        refine congrArg (State.putMonitor _ _) ?_
        have holds := s.openNoFloorHolds_iff o.seat
        simp only [State.openRemoved, SeatMonitor.openReset, State.openRestart, Bool.and_eq_true, beq_iff_eq, holds]
        rfl
      · rw [State.applyOutcomes_singleton, if_pos removes]
  · rw [State.applyOutcomes, State.applyHanded_clearsAcked os some apart clears, State.foldl_without]
  · refine ⟨?_, ?_⟩
    · rw [one.raise_between verdict new list ?_ two, recordsBut_eq, recordsBut_eq]
      exact fun same => apart.elim (fun ne => ne same.1.symm) fun ne => ne same.2.symm
    · rw [one.raise_after verdict, State.without, recordsBut_eq]

end Sys2Proof.Machine
end

section
/-! END SITTING and the end of the dropout window (R63, R64, R72, R76, R93, R128). -/

namespace Sys2Proof.Machine

/-! ## END SITTING -/

/-- The part after END SITTING (R72, R93, R128). -/
def State.adjourned (s : State) : State := { s with sitting := .setup, floor := [], records := [] }.endMonitors

section
variable (s : State)

theorem State.adjourned_listening (x : LinkId) : (s.listening x).adjourned = s.adjourned.listening x := by
  simp only [State.adjourned, State.endMonitors, State.mapMonitors, State.listening, State.putLink, State.link]

theorem State.monitor_adjourned (n : Seat) : s.adjourned.monitor n = .quiet s.params := by
  rw [State.adjourned, State.endMonitors]
  exact State.monitor_mapMonitors ..

theorem State.adjourned_eq : s.adjourned
    = { s with sitting := .setup, floor := [], records := [], monitors := s.adjourned.monitors } := by
  simp only [State.adjourned, State.endMonitors, State.mapMonitors]

theorem State.isDue_adjourned (n : Seat) (k : Kind) : s.adjourned.isDue n k = false := by
  rw [State.isDue, State.monitor_adjourned, SeatMonitor.due_quiet]

theorem serve_endSitting {s : State} {x : LinkId} (role : s.presiding x = true ∨ s.technical x = true)
    (running : s.sitting ≠ .setup) (rest : List Byte) : serve .endSitting x rest s
      = s.adjourned.answer .ok ([0x00] ++ bytes3 s.clock ++ [byte s.records.length]) := by
  have admitted : (s.presiding x || s.technical x) = true := by simpa using role
  have sitting : s.adjourned.sitting = .setup := by rw [s.adjourned_eq]
  have clock : s.adjourned.clock = s.clock := by rw [s.adjourned_eq]
  rw [State.adjourned] at sitting clock
  simp only [serve, serveEndSitting, admitted, running, Bool.not_true, Bool.false_eq_true, if_false, sitting, clock]
  rfl

end

/-- Settles O41: the sitting, the floor, the list and the qualifiers are reset, and nothing else. -/
theorem endSittingEmptiesTheList : Obligations.EndSittingEmptiesTheList := by
  unfold Obligations.EndSittingEmptiesTheList
  intro s x rest ready role running
  have may : (s.listening x).presiding x = true ∨ (s.listening x).technical x = true :=
    role.imp (fun h => (s.presiding_listening x).trans (State.presiding_of_role h))
      fun h => (s.technical_listening x).trans (State.technical_of_role h)
  have answer := serve_endSitting may (by simpa using running) rest
  rw [s.adjourned_listening] at answer
  refine ⟨s.adjourned, congrArg Host.Outcome.next (State.requestReaches_of_answer ready answer), s.adjourned_eq, ?_,
    fun n => ?_⟩
  · rw [Bool.eq_false_iff, ne_eq, State.overflow_iff]
    rintro ⟨n, k, due⟩
    cases (s.isDue_adjourned n k).symm.trans due
  · rw [State.monitor_adjourned]
    exact ⟨fun k => ⟨SeatMonitor.state_quiet .., s.isDue_adjourned n k⟩, rfl, rfl, rfl, rfl, rfl, rfl, rfl⟩

/-! ## Outcomes that are no raises -/

/-- Without a qualified outcome no due mark is set. -/
theorem State.undue_applyHanded {n : Seat} {k : Kind} (os : List HandedOutcome) :
    ∀ {freed : Bool} {s : State}, (∀ o ∈ os, o.verdict ≠ .qualified) → s.isDue n k = false →
      (s.applyHanded freed os).isDue n k = false := by
  have filled {s : State} (undue : s.isDue n k = false) : s.fillFreed.isDue n k = false := by
    rw [s.fillFreed_spec.2, undue, Bool.false_and]
  have applied {s : State} {o : HandedOutcome} (verdict : o.verdict ≠ .qualified) (undue : s.isDue n k = false) :
      (s.applyOutcome o).isDue n k = false := by
    simp only [State.applyOutcome]
    split
    · next raises _ => exact absurd raises verdict
    · next raises _ => exact absurd raises verdict
    · exact undue
    · split <;> exact undue
    · exact undue
    · split
      · exact undue
      · rw [State.isDue, State.monitor_removeRecord]
        split
        · next here =>
          obtain ⟨-, rfl⟩ := here
          simp only [State.openRemoved, PerKind.get_set]
          split
          · rfl
          · exact undue
        · exact undue
      · exact undue
  induction os with
  | nil => exact fun _ undue => undue
  | cons o os ih =>
    intro freed s verdicts undue
    obtain ⟨verdict, rest⟩ := List.forall_mem_cons.1 verdicts
    have one := applied verdict undue
    simp only [State.applyHanded]
    split
    · split
      · exact ih rest one
      · exact ih rest (filled one)
    · exact ih rest one

/-! ## The end of the dropout window (R64) -/

section
variable (s : State)

/-- The clearings of a window end are of DROPOUTS. -/
theorem State.kind_of_mem_windowClearings {o : HandedOutcome} (h : o ∈ s.clearings s.windowKinds) :
    o.kind = .dropouts := by
  obtain ⟨mem, -⟩ := State.mem_clearings.1 h
  rw [State.windowKinds] at mem
  split at mem
  · cases mem
  · exact List.mem_singleton.1 mem

/-- The list's work at a window end moves no qualifier but for due marks. -/
theorem State.monitor_endDropoutWindow (n : Seat) : s.endDropoutWindow.monitor n
    = { (s.monitor n).endWindow with due := (s.endDropoutWindow.monitor n).due } := by
  refine SeatMonitor.ext_core fun k => ?_
  rw [← s.monitor_windowSettled, State.endDropoutWindow_eq]
  refine State.core_applyHanded _ k fun o ho here => ?_
  cases (s.kind_of_mem_windowClearings ho).symm.trans here.2.1

theorem State.seat_endDropoutWindow (n : Seat) : s.endDropoutWindow.seat n = { s.seat n with dropouts := 0 } := by
  refine (State.onlyMonitorAndList_seat s.endDropoutWindow_frame n).trans ?_
  have settled := s.seat_mapSeats (fun _ r => { r with dropouts := 0 }) n
  simp only [State.seat, State.windowTables] at settled ⊢
  exact settled

theorem State.windowElapsed_endDropoutWindow : s.endDropoutWindow.windowElapsed = 0 :=
  (congrArg State.windowElapsed s.endDropoutWindow_frame.1).trans (by simp only [State.windowTables])

theorem SeatMonitor.windowMark_endWindow (m : SeatMonitor) : m.endWindow.windowMark = false := by
  simp only [SeatMonitor.endWindow]
  split
  · next h => exact h.2
  · rfl

/-- A qualifier that a window end settles has no due mark afterwards (R76). -/
theorem State.undue_endDropoutWindow {n : Seat} (was : (s.monitor n).state.dropouts = .qualified)
    (clear : (s.monitor n).windowMark = false) : s.endDropoutWindow.isDue n .dropouts = false := by
  rw [State.endDropoutWindow_eq]
  refine State.undue_applyHanded _ (fun o ho => ?_) ?_
  · rw [State.clearings_cleared o ho]
    simp
  · rw [State.isDue, State.monitor_windowSettled, SeatMonitor.due_endWindow, if_pos ⟨rfl, was, clear⟩]

/-- Besides the seats and the window, a window end is the monitor's and the list's. -/
theorem State.endDropoutWindow_onlyMonitorAndList : State.onlyMonitorAndList
    { s with seats := s.endDropoutWindow.seats, windowElapsed := s.endDropoutWindow.windowElapsed }
      s.endDropoutWindow := by
  have frame := s.endDropoutWindow_frame
  have tables : s.windowTables = { s with seats := s.endDropoutWindow.seats, windowElapsed := s.endDropoutWindow.windowElapsed } := by
    have seats := congrArg State.seats frame.1
    have window := congrArg State.windowElapsed frame.1
    simp only at seats window
    rw [seats, window]
    simp only [State.windowTables, State.mapSeats]
  rwa [tables] at frame

end

/-- Settles O25: the qualifiers as the window end leaves them, of which its clearings move none. -/
theorem dropoutWindowEndSettles : Obligations.DropoutWindowEndSettles := by
  unfold Obligations.DropoutWindowEndSettles
  intro s ends
  refine ⟨s.endDropoutWindow, congrArg Host.Outcome.next (if_pos ends), s.windowElapsed_endDropoutWindow,
    s.seat_endDropoutWindow, fun n => ?_, s.endDropoutWindow_onlyMonitorAndList⟩
  have monitor := s.monitor_endDropoutWindow n
  have state (k : Kind) : (s.endDropoutWindow.monitor n).state.get k = (s.monitor n).endWindow.state.get k :=
    (congrArg (fun m : SeatMonitor => m.state.get k) monitor).trans rfl
  have settled : (s.endDropoutWindow.monitor n).state.dropouts
      = if (s.monitor n).state.dropouts = .qualified ∧ (s.monitor n).windowMark = false then .quiet
        else (s.monitor n).state.dropouts := by
    refine (state .dropouts).trans ((SeatMonitor.state_endWindow ..).trans ?_)
    simp only [true_and]
    rfl
  refine ⟨(congrArg SeatMonitor.windowMark monitor).trans (SeatMonitor.windowMark_endWindow _), settled,
    fun k other => ?_, fun now was => s.undue_endDropoutWindow was ?_⟩
  · rw [state k, SeatMonitor.state_endWindow, if_neg fun here => other here.1]
  · by_contra marked
    rw [settled, if_neg fun here => marked here.2, was] at now
    cases now

end Sys2Proof.Machine
end

section
/-! QUALIFIER_EXPIRY and ACCUMULATION_LIMIT: the last quarter tick of one qualifier's wait (R60, R62, R66 to R69). -/

namespace Sys2Proof.Machine

/-! ## An evaluation that hands one qualified outcome -/

/-- Of a list without repetition one element alone has images. -/
theorem flatMap_eq_of_single {α β : Type} [DecidableEq α] {l : List α} (nodup : l.Nodup) {a : α} (mem : a ∈ l)
    (xs : List β) : (l.flatMap fun b => if b = a then xs else []) = xs := by
  induction l with
  | nil => cases mem
  | cons b l ih =>
    obtain ⟨new, nodup⟩ := List.nodup_cons.1 nodup
    rw [List.flatMap_cons]
    by_cases here : b = a
    · subst here
      have rest : (l.flatMap fun c => if c = b then xs else []) = [] := by
        rw [List.flatMap_eq_nil_iff]
        exact fun c hc => if_neg fun same => new (Eq.subst same hc)
      rw [if_pos rfl, rest, List.append_nil]
    · rw [if_neg here, List.nil_append]
      exact ih nodup ((List.mem_cons.1 mem).resolve_left (Ne.symm here))

section
variable {s : State} {n : Seat} {k : Kind}

/-- A qualified outcome moves nothing of another seat's qualifiers. -/
theorem State.monitor_applyOutcome_of_qualified {o : HandedOutcome} (verdict : o.verdict = .qualified) {m : Seat}
    (other : m ≠ o.seat) : (s.applyOutcome o).monitor m = s.monitor m := by
  simp only [State.applyOutcome, verdict]
  split
  · simp only [State.raise]
    split
    · rfl
    · rw [State.monitor_setDue, State.monitor_putDue, if_neg other]
  · split <;> rfl
  all_goals next impossible _ => cases impossible

/-- A qualified outcome reaches its (seat, kind) as R75, R83 and R84 give. -/
theorem State.qualifiedReaches_applyOutcome {o : HandedOutcome} (verdict : o.verdict = .qualified) :
    s.qualifiedReaches (s.applyOutcome o) o.seat o.kind o.grade o.detail := by
  cases record : s.record o.seat o.kind with
  | none =>
    rw [State.qualifiedReaches, record, State.applyOutcome_raise verdict record]
    dsimp only
    by_cases room : s.records.length < 48
    · rw [if_pos room, (s.raise_spec o).1 room]
      exact ⟨rfl, rfl⟩
    · rw [if_neg room, (s.raise_spec o).2 (Nat.not_lt.1 room)]
      exact ⟨State.setDue_records .., by simp⟩
  | some r =>
    rw [State.qualifiedReaches, record]
    dsimp only
    by_cases cleared : r.state = .clearedUnacked
    · rw [if_pos cleared, State.applyOutcome_reRaise verdict record cleared, State.updateRecord_eq]
      exact ⟨rfl, rfl⟩
    · have same : s.applyOutcome o = s := by simp only [State.applyOutcome, verdict, record, if_neg cleared]
      rw [if_neg cleared, same]
      exact ⟨rfl, rfl⟩

/-- What the list reads and writes of a (seat, kind) is the same in two states. -/
theorem State.qualifiedReaches_congr {u t : State} {grade : Option Grade} {detail : Option Nat}
    (records : u.records = s.records) (due : u.isDue n k = s.isDue n k) (params : u.params = s.params)
    (clock : u.clock = s.clock) (h : u.qualifiedReaches t n k grade detail) : s.qualifiedReaches t n k grade detail := by
  have record : u.record n k = s.record n k := by rw [State.record, State.record, records]
  rw [State.qualifiedReaches] at h ⊢
  rw [record, records, due, params, clock] at h
  exact h

/-- One (seat, kind) evaluated at a quarter tick. -/
def State.ticked (s : State) (n : Seat) (k : Kind) : State := s.evaluate true (oneSeat n (.only k))

theorem State.judges_ticked (s : State) (n m : Seat) (k j : Kind) :
    s.judges (oneSeat n (.only k)) m j = (s.evaluates n && (m == n && j == k)) := by
  rw [State.judges, oneSeat]
  by_cases here : m = n
  · subst here
    simp
  · simp [here]

theorem State.outcomes_ticked (on : s.evaluates n = true) :
    s.outcomes true (oneSeat n (.only k)) = (s.evaluateKind true n k (s.monitor n)).2 := by
  have kinds (m : Seat) : (allKinds.flatMap fun j => if s.judges (oneSeat n (.only k)) m j
      then (s.evaluateKind true m j (s.monitor m)).2 else [])
      = if m = n then (s.evaluateKind true n k (s.monitor n)).2 else [] := by
    by_cases here : m = n
    · subst here
      cases k <;> simp [State.judges_ticked, on, allKinds]
    · simp [State.judges_ticked, here]
  rw [State.outcomes_eq]
  simp only [kinds]
  exact flatMap_eq_of_single (List.nodup_finRange 128) (mem_allSeats n) _

/-- A qualified verdict of one (seat, kind) at a quarter tick: the qualifier as it is judged, and the outcome with the
list (R59, R83). -/
theorem State.ticked_of_qualified (on : s.evaluates n = true)
    (verdict : (s.judgeKind true n k (s.monitor n)).2 = some .qualified) :
    ((s.ticked n k).monitor n).core k = (s.judgeKind true n k (s.monitor n)).1.core k
      ∧ s.qualifiedReaches (s.ticked n k) n k (gradeOf k (s.judgeKind true n k (s.monitor n)).1)
          (detailOf k (s.seat n) (s.judgeKind true n k (s.monitor n)).1)
      ∧ (∀ m, m ≠ n → (s.ticked n k).monitor m = s.monitor m) ∧ s.onlyMonitorAndList (s.ticked n k) := by
  let o : HandedOutcome := ⟨n, k, .qualified, gradeOf k (s.judgeKind true n k (s.monitor n)).1,
    detailOf k (s.seat n) (s.judgeKind true n k (s.monitor n)).1⟩
  let u : State := s.evaluateAll true (oneSeat n (.only k))
  have handed : s.outcomes true (oneSeat n (.only k)) = [o] := by
    rw [State.outcomes_ticked on]
    simp only [State.evaluateKind, State.outcomeFor, verdict]
    rfl
  have ticked : s.ticked n k = u.applyOutcome o := by
    rw [State.ticked, State.evaluate, handed, State.applyOutcomes_singleton, if_neg (by simp [State.removes, o])]
  have due : u.isDue n k = s.isDue n k := by
    have judged : s.verdict true (oneSeat n (.only k)) n k = some .qualified := by
      rw [State.verdict, State.judges_ticked, on, if_pos (by simp), verdict]
    rw [State.isDue_evaluateAll, judged]
    simp
  have frame := s.onlyMonitorAndList_evaluate true (oneSeat n (.only k))
  have frameU : s.onlyMonitorAndList u := s.onlyMonitorAndList_mapMonitors _
  rw [ticked]
  refine ⟨?_, ?_, fun m other => ?_, ticked ▸ frame⟩
  · rw [State.core_applyOutcome k (by simp [o]), s.core_evaluateAll, if_pos (by simp [on, oneSeat])]
  · exact State.qualifiedReaches_congr (s.records_evaluateAll _ _) due (State.onlyMonitorAndList_params frameU)
      (State.onlyMonitorAndList_clock frameU) (State.qualifiedReaches_applyOutcome (s := u) (o := o) rfl)
  · rw [State.monitor_applyOutcome_of_qualified (o := o) rfl other]
    refine SeatMonitor.ext_part fun j => (s.part_evaluateAll ..).trans (if_neg ?_)
    rw [State.judges_ticked]
    simp [other]

/-! ## The kinds that wait -/

/-- A RESETTING qualifier in the last quarter tick of its wait (R60). -/
theorem resetting_of_last {setValue pv : Nat} {clears : Bool} (last : min pv setValue ≤ 1) :
    resetting true setValue true clears .qualifying pv = (.qualified, 0, some .qualified) := by
  have ends : min pv setValue - 1 = 0 := by omega
  simp only [resetting, resettingTick, if_true, ends]

theorem exec_qualifierExpiry (resets : resettingKind k = true) (on : s.evaluates n = true)
    (state : (s.monitor n).state.get k = .qualifying)
    (verdict : (s.judgeKind true n k (s.monitor n)).2 = some .qualified) :
    exec (.qualifierExpiry n k) s = .next (s.ticked n k) :=
  congrArg Host.Outcome.next (if_pos ⟨resets, state, (if_pos on).trans verdict⟩)

theorem exec_accumulationLimit (on : s.evaluates n = true)
    (verdict : (s.judgeKind true n .openNoFloor (s.monitor n)).2 = some .qualified) :
    exec (.accumulationLimit n) s = .next (s.ticked n .openNoFloor) :=
  congrArg Host.Outcome.next (if_pos ((if_pos on).trans verdict))

/-- BATTERY in the last quarter tick of its wait (R60, R66). -/
theorem State.judgeBattery_of_last {p : Nat} (state : (s.monitor n).state.battery = .qualifying)
    (last : min (s.monitor n).batteryPv s.params.batteryQualify ≤ 1) (percent : (s.seat n).est.percent = some p)
    (holds : if (s.seat n).signal = .lost then (s.monitor n).held ≠ some false else p ≤ s.params.batteryLowPct) :
    (s.judgeKind true n .battery (s.monitor n)).2 = some .qualified
      ∧ (s.judgeKind true n .battery (s.monitor n)).1.figure .battery = (.qualified, 0)
      ∧ (s.judgeKind true n .battery (s.monitor n)).1.grade
        = some (if p ≤ s.params.batteryCritPct then .critical else .low) := by
  have on : (heldCondition (s.seat n).signal .qualifying (s.monitor n).held).getD
      (batteryLow s.params (s.seat n)) = true := by
    rw [heldCondition]
    split at holds
    · next lost =>
      rw [if_pos lost]
      cases held : (s.monitor n).held with
      | none => rfl
      | some b => cases b <;> simp_all
    · next heard =>
      rw [if_neg heard]
      simpa [batteryLow, percent] using holds
  have critical : batteryCritical s.params (s.seat n) = decide (p ≤ s.params.batteryCritPct) := by
    simp [batteryCritical, percent]
  simp only [State.judgeKind, State.judgeBattery, on, state, resetting_of_last last, batteryGrade, critical,
    decide_eq_true_eq]
  exact ⟨trivial, rfl, trivial⟩

/-- MUTED_SPEECH in the last quarter tick of its wait (R60, R67). -/
theorem State.judgeMutedSpeech_of_last (sitting : s.sitting = .sitting)
    (state : (s.monitor n).state.mutedSpeech = .qualifying)
    (last : min (s.monitor n).mutedPv s.params.mutedSpeechQualify ≤ 1) (holds : s.mutedSpeechHolds n = true) :
    (s.judgeKind true n .mutedSpeech (s.monitor n)).2 = some .qualified
      ∧ (s.judgeKind true n .mutedSpeech (s.monitor n)).1.figure .mutedSpeech = (.qualified, 0) := by
  simp only [State.judgeKind, State.judgeMutedSpeech, sitting, holds, state, resetting_of_last last, if_true]
  exact ⟨trivial, rfl⟩

/-- SIGNAL_WEAK in the last quarter tick of its wait (R60, R69). -/
theorem State.judgeSignalWeak_of_last (state : (s.monitor n).state.signalWeak = .qualifying)
    (last : min (s.monitor n).weakPv s.params.weakQualify ≤ 1) (holds : weakHolds s.params (s.seat n) = true) :
    (s.judgeKind true n .signalWeak (s.monitor n)).2 = some .qualified
      ∧ (s.judgeKind true n .signalWeak (s.monitor n)).1.figure .signalWeak = (.qualified, 0) := by
  simp only [State.judgeKind, State.judgeSignalWeak, holds, state, resetting_of_last last]
  exact ⟨trivial, rfl⟩

/-- OPEN_NO_FLOOR in the quarter tick that brings it to its limit (R62, R68). -/
theorem State.judgeOpenNoFloor_of_limit (sitting : s.sitting = .sitting) (holds : s.openNoFloorHolds n = true)
    (waits : (s.monitor n).state.openNoFloor ≠ .qualified)
    (limit : 4 * s.params.openNoFloorLimit ≤ min 65535 ((s.monitor n).openPv + 1)) :
    (s.judgeKind true n .openNoFloor (s.monitor n)).2 = some .qualified
      ∧ (s.judgeKind true n .openNoFloor (s.monitor n)).1.figure .openNoFloor
        = (.qualified, min 65535 ((s.monitor n).openPv + 1)) := by
  have reached : s.params.openLimit ≤ bump Config.openPvMax (s.monitor n).openPv := limit
  have moved : accumulatingTick s.params.openLimit true (s.monitor n).state.openNoFloor (s.monitor n).openPv
      = (.qualified, bump Config.openPvMax (s.monitor n).openPv, some .qualified) := by
    cases state : (s.monitor n).state.openNoFloor with
    | qualified => exact absurd state waits
    | quiet | qualifying => simp only [accumulatingTick, if_true, if_pos reached]
  simp only [State.judgeKind, State.judgeOpenNoFloor, sitting, holds, moved, if_true]
  exact ⟨trivial, rfl⟩

end

/-- Settles O26: the last tick of each kind is one qualified outcome, which reaches the list. -/
theorem waitedConditionsQualify : Obligations.WaitedConditionsQualify := by
  unfold Obligations.WaitedConditionsQualify
  refine ⟨fun s n bound => ⟨fun p running state last percent holds => ?_,
    fun sitting state last floor mute voice => ?_, fun a running state last level weak near => ?_⟩,
    fun s n bound sitting mute floor waits limit => ?_⟩
  · have on := State.evaluates_of_bound bound running
    obtain ⟨verdict, figure, grade⟩ := State.judgeBattery_of_last state last percent holds
    obtain ⟨core, reaches, others, frame⟩ := State.ticked_of_qualified on verdict
    obtain ⟨now, pv⟩ := Prod.mk.inj ((SeatMonitor.figure_of_core core).trans figure)
    refine ⟨_, exec_qualifierExpiry rfl on state verdict, ⟨now, pv, (SeatMonitor.grade_of_core core).trans grade, ?_⟩,
      others, frame⟩
    rw [← grade, ← percent]
    exact reaches
  · have on := State.evaluates_of_bound bound (by simp [sitting])
    have holds : s.mutedSpeechHolds n = true := by simp [State.mutedSpeechHolds, floor, mute, voice]
    obtain ⟨verdict, figure⟩ := State.judgeMutedSpeech_of_last sitting state last holds
    obtain ⟨core, reaches, others, frame⟩ := State.ticked_of_qualified on verdict
    obtain ⟨now, pv⟩ := Prod.mk.inj ((SeatMonitor.figure_of_core core).trans figure)
    exact ⟨_, exec_qualifierExpiry rfl on state verdict, now, pv, reaches, others, frame⟩
  · have on := State.evaluates_of_bound bound running
    have holds : weakHolds s.params (s.seat n) = true := by
      simp [weakHolds, SeatRecord.levelAverage, SeatRecord.heardOrFading, level, weak, near]
    obtain ⟨verdict, figure⟩ := State.judgeSignalWeak_of_last state last holds
    obtain ⟨core, reaches, others, frame⟩ := State.ticked_of_qualified on verdict
    obtain ⟨now, pv⟩ := Prod.mk.inj ((SeatMonitor.figure_of_core core).trans figure)
    refine ⟨_, exec_qualifierExpiry rfl on state verdict, now, pv, ?_, others, frame⟩
    have average : (s.seat n).levelAverage = some (a / 4) := by simp [SeatRecord.levelAverage, level]
    rw [← average]
    exact reaches
  · have on := State.evaluates_of_bound bound (by simp [sitting])
    have holds : s.openNoFloorHolds n = true := (s.openNoFloorHolds_iff n).2 ⟨mute, floor⟩
    obtain ⟨verdict, figure⟩ := State.judgeOpenNoFloor_of_limit sitting holds waits limit
    obtain ⟨core, reaches, others, frame⟩ := State.ticked_of_qualified on verdict
    obtain ⟨now, pv⟩ := Prod.mk.inj ((SeatMonitor.figure_of_core core).trans figure)
    have own : (s.judgeKind true n .openNoFloor (s.monitor n)).1.openPv = min 65535 ((s.monitor n).openPv + 1) :=
      congrArg Prod.snd figure
    refine ⟨_, exec_accumulationLimit on verdict, now, pv, ?_, others, frame⟩
    rw [← own]
    exact reaches

end Sys2Proof.Machine
end

section
/-! A second tick in every order of the blocks: the clock, the dropout window and the timers (R63, R64, R94, R119,
R121). -/

namespace Sys2Proof.Machine

/-! ## Records that no outcome concerns -/

section
variable {s : State} {r : Record}

theorem State.mem_fillFreed (h : r ∈ s.records) : r ∈ s.fillFreed.records := by
  rw [s.fillFreed_spec.1]
  exact List.mem_append_left _ h

/-- A record stays as it is under an outcome of another (seat, kind). -/
theorem State.mem_applyOutcome_of_other {o : HandedOutcome} (other : r.isFor o.seat o.kind = false)
    (h : r ∈ s.records) : r ∈ (s.applyOutcome o).records := by
  have updated (f : Record → Record) : r ∈ (s.updateRecord o.seat o.kind f).records :=
    List.mem_map.2 ⟨r, h, by simp [other]⟩
  simp only [State.applyOutcome]
  split
  · simp only [State.raise]
    split
    · exact List.mem_append_left _ h
    · rwa [State.setDue_records]
  · split
    · exact updated _
    · exact h
  · exact h
  · split
    · exact h
    · exact updated _
  · exact h
  · split
    · exact updated _
    · rw [State.removeRecord_records]
      exact List.mem_filter.2 ⟨h, by simp [other]⟩
    · exact h

theorem State.mem_applyHanded_of_other (os : List HandedOutcome) : ∀ {freed : Bool} {s : State},
    (∀ o ∈ os, r.isFor o.seat o.kind = false) → r ∈ s.records → r ∈ (s.applyHanded freed os).records := by
  induction os with
  | nil => exact fun _ h => h
  | cons o os ih =>
    intro freed s others h
    obtain ⟨first, rest⟩ := List.forall_mem_cons.1 others
    have one := State.mem_applyOutcome_of_other first h
    simp only [State.applyHanded]
    split
    · split
      · exact ih rest one
      · exact ih rest (State.mem_fillFreed one)
    · exact ih rest one

/-- A record that a window end does not clear: of another kind, or of a DROPOUTS that stays as it is (R64). -/
def State.outlastsWindow (s : State) (r : Record) : Prop :=
  r.kind ≠ .dropouts ∨ (s.monitor r.seat).state.dropouts ≠ .qualified ∨ (s.monitor r.seat).windowMark = true

theorem State.mem_endDropoutWindow (outlasts : s.outlastsWindow r) (h : r ∈ s.records) :
    r ∈ s.endDropoutWindow.records := by
  rw [State.endDropoutWindow_eq]
  refine State.mem_applyHanded_of_other _ (fun o ho => ?_) ?_
  · rw [Bool.eq_false_iff, ne_eq, Record.isFor_iff]
    rintro ⟨seat, kind⟩
    obtain ⟨mem, was, -⟩ := State.mem_clearings.1 ho
    have dropouts := s.kind_of_mem_windowClearings ho
    rw [dropouts, ← seat] at was
    rw [State.windowKinds, ← seat] at mem
    rcases outlasts with other | other | marked
    · exact other (kind.trans dropouts)
    · exact other was
    · simp [marked] at mem
  · simpa only [State.windowSettled, State.mapSeats_records, State.mapMonitors_records] using h

end

/-! ## The blocks' parts -/

/-- What a second tick may leave otherwise than before: the seats, the clock, the window, the monitor and the list. -/
def State.secondFrame (s t : State) : Prop :=
  State.onlyMonitorAndList { s with seats := t.seats, clock := t.clock, windowElapsed := t.windowElapsed } t

theorem State.secondFrame_trans {s t u : State} (h : s.secondFrame t) (g : t.secondFrame u) : s.secondFrame u := by
  refine ⟨?_, fun x => ?_⟩
  · rw [g.1, h.1]
  · have first := h.2 x
    have second := g.2 x
    change t.link x = { s.link x with notice := (t.link x).notice } at first
    change u.link x = { t.link x with notice := (u.link x).notice } at second
    rw [second, first]
    rfl

section
variable (s : State)

/-- The clock after a second tick (R121). -/
def State.nextClock : Nat := if s.sitting = .setup then s.clock else min 359999 (s.clock + 1)

theorem State.tickClock_eq : s.tickClock = { s with clock := s.nextClock } := by
  rw [State.tickClock, State.nextClock]
  split <;> rfl

theorem Record.tick_eq (p : Params) (now : Nat) (r : Record) : r.tick p now = r.lowered p now := by
  rw [Record.tick, Record.lowered]
  cases r.state <;> cases r.escalation <;> rfl

theorem State.tickTimers_of_running (running : s.sitting ≠ .setup) :
    s.tickTimers = { s with records := s.records.map (Record.lowered s.params s.clock) } := by
  have same : Record.tick s.params s.clock = Record.lowered s.params s.clock :=
    funext fun r => r.tick_eq s.params s.clock
  rw [State.tickTimers, if_neg running, same]

theorem State.tickTimers_of_setup (setup : s.sitting = .setup) : s.tickTimers = s := if_pos setup

theorem State.tickWindow_of_short (short : ¬s.params.dropoutWindow ≤ s.windowElapsed + 1) :
    s.tickWindow = { s with windowElapsed := s.windowElapsed + 1 } := if_neg short

theorem State.tickWindow_of_end (ends : s.params.dropoutWindow ≤ s.windowElapsed + 1) :
    s.tickWindow = s.endDropoutWindow := if_pos ends

theorem State.secondFrame_tickClock : s.secondFrame s.tickClock := by
  rw [State.tickClock_eq]
  exact ⟨rfl, fun _ => rfl⟩

theorem State.secondFrame_tickTimers : s.secondFrame s.tickTimers := by
  rw [State.tickTimers]
  split <;> exact ⟨rfl, fun _ => rfl⟩

theorem State.clock_endDropoutWindow : s.endDropoutWindow.clock = s.clock :=
  (State.onlyMonitorAndList_clock s.endDropoutWindow_onlyMonitorAndList).trans rfl

theorem State.params_endDropoutWindow : s.endDropoutWindow.params = s.params :=
  (State.onlyMonitorAndList_params s.endDropoutWindow_onlyMonitorAndList).trans rfl

theorem State.sitting_endDropoutWindow : s.endDropoutWindow.sitting = s.sitting :=
  (State.onlyMonitorAndList_sitting s.endDropoutWindow_onlyMonitorAndList).trans rfl

theorem State.secondFrame_tickWindow : s.secondFrame s.tickWindow := by
  rw [State.tickWindow]
  split
  · have frame := s.endDropoutWindow_onlyMonitorAndList
    rw [State.secondFrame, s.clock_endDropoutWindow]
    exact frame
  · exact ⟨rfl, fun _ => rfl⟩

theorem State.secondFrame_secondWork (order : SecondOrder) : s.secondFrame (s.secondWork order) := by
  have clock := State.secondFrame_tickClock
  have timers := State.secondFrame_tickTimers
  have window := State.secondFrame_tickWindow
  have three {t u v : State} (h : s.secondFrame t) (g : t.secondFrame u) (k : u.secondFrame v) : s.secondFrame v :=
    State.secondFrame_trans h (State.secondFrame_trans g k)
  cases order with
  | cwe => exact three (clock _) (window _) (timers _)
  | cew => exact three (clock _) (timers _) (window _)
  | wce => exact three (window _) (clock _) (timers _)
  | wec => exact three (window _) (timers _) (clock _)
  | ecw => exact three (timers _) (clock _) (window _)
  | ewc => exact three (timers _) (window _) (clock _)


/-! ## The whole second -/

/-- In SETUP a second tick is the window's part alone (R94, R121). -/
theorem State.secondWork_of_setup (order : SecondOrder) (setup : s.sitting = .setup) :
    s.secondWork order = s.tickWindow := by
  have still (t : State) (h : t.sitting = .setup) : t.tickClock = t ∧ t.tickTimers = t := ⟨if_pos h, if_pos h⟩
  obtain ⟨clock, timers⟩ := still s setup
  have after : s.tickWindow.sitting = .setup := by
    rw [s.secondFrame_tickWindow.1]
    exact setup
  obtain ⟨clock', timers'⟩ := still s.tickWindow after
  cases order <;> simp only [State.secondWork, clock, timers, clock', timers']

/-- While the window runs on, a second tick outside SETUP lowers the timers at one reading of the clock. -/
theorem State.secondWork_of_short (order : SecondOrder) (running : s.sitting ≠ .setup)
    (short : ¬s.params.dropoutWindow ≤ s.windowElapsed + 1) : ∃ now, (now = s.clock ∨ now = s.nextClock)
      ∧ s.secondWork order = { s with
        clock := s.nextClock, windowElapsed := s.windowElapsed + 1
        records := s.records.map (Record.lowered s.params now) } := by
  have window (t : State) (params : t.params = s.params) (elapsed : t.windowElapsed = s.windowElapsed) :
      t.tickWindow = { t with windowElapsed := s.windowElapsed + 1 } := by
    rw [← elapsed]
    exact t.tickWindow_of_short (by rw [params, elapsed]; exact short)
  have timers (t : State) (sitting : t.sitting = s.sitting) :
      t.tickTimers = { t with records := t.records.map (Record.lowered t.params t.clock) } :=
    t.tickTimers_of_running (by rw [sitting]; exact running)
  have clock (t : State) (sitting : t.sitting = s.sitting) (clock : t.clock = s.clock) :
      t.tickClock = { t with clock := s.nextClock } := by
    rw [t.tickClock_eq, State.nextClock, State.nextClock, sitting, clock]
  cases order with
  | cwe => exact ⟨_, .inr rfl, by simp only [State.secondWork]; rw [clock, window, timers] <;> rfl⟩
  | cew => exact ⟨_, .inr rfl, by simp only [State.secondWork]; rw [clock, timers, window] <;> rfl⟩
  | wce => exact ⟨_, .inr rfl, by simp only [State.secondWork]; rw [window, clock, timers] <;> rfl⟩
  | wec => exact ⟨_, .inl rfl, by simp only [State.secondWork]; rw [window, timers, clock] <;> rfl⟩
  | ecw => exact ⟨_, .inl rfl, by simp only [State.secondWork]; rw [timers, clock, window] <;> rfl⟩
  | ewc => exact ⟨_, .inl rfl, by simp only [State.secondWork]; rw [timers, window, clock] <;> rfl⟩

/-- While the window runs on, a second tick leaves the qualifiers and the links, and in SETUP the list. -/
theorem State.secondWork_short_kept (order : SecondOrder) (short : ¬s.params.dropoutWindow ≤ s.windowElapsed + 1) :
    (s.secondWork order).monitors = s.monitors ∧ (s.secondWork order).links = s.links
      ∧ (s.sitting = .setup → (s.secondWork order).records = s.records) := by
  by_cases setup : s.sitting = .setup
  · rw [s.secondWork_of_setup order setup, s.tickWindow_of_short short]
    exact ⟨rfl, rfl, fun _ => rfl⟩
  · obtain ⟨now, -, work⟩ := s.secondWork_of_short order setup short
    rw [work]
    exact ⟨rfl, rfl, fun h => absurd h setup⟩

/-! ### The window's part at any place -/

@[simp] theorem State.tickClock_kept : (∀ n, s.tickClock.seat n = s.seat n) ∧ s.tickClock.windowElapsed = s.windowElapsed
    ∧ s.tickClock.params = s.params ∧ s.tickClock.sitting = s.sitting ∧ s.tickClock.monitors = s.monitors
    ∧ s.tickClock.records = s.records := by
  rw [State.tickClock_eq]
  exact ⟨fun _ => rfl, rfl, rfl, rfl, rfl, rfl⟩

@[simp] theorem State.clock_tickClock : s.tickClock.clock = s.nextClock := by
  rw [State.tickClock_eq]

@[simp] theorem State.tickTimers_kept : (∀ n, s.tickTimers.seat n = s.seat n)
    ∧ s.tickTimers.windowElapsed = s.windowElapsed ∧ s.tickTimers.params = s.params
    ∧ s.tickTimers.sitting = s.sitting ∧ s.tickTimers.monitors = s.monitors ∧ s.tickTimers.clock = s.clock := by
  rw [State.tickTimers]
  split <;> exact ⟨fun _ => rfl, rfl, rfl, rfl, rfl, rfl⟩

/-- The dropout window ends with this second tick (R63). -/
abbrev State.windowEnds : Prop := s.params.dropoutWindow ≤ s.windowElapsed + 1

theorem State.seat_tickWindow (n : Seat) :
    s.tickWindow.seat n = { s.seat n with dropouts := if s.windowEnds then 0 else (s.seat n).dropouts } := by
  by_cases ends : s.windowEnds
  · rw [s.tickWindow_of_end ends, s.seat_endDropoutWindow, if_pos ends]
  · rw [s.tickWindow_of_short ends, if_neg ends]
    rfl

theorem State.windowElapsed_tickWindow :
    s.tickWindow.windowElapsed = if s.windowEnds then 0 else s.windowElapsed + 1 := by
  by_cases ends : s.windowEnds
  · rw [s.tickWindow_of_end ends, s.windowElapsed_endDropoutWindow, if_pos ends]
  · rw [s.tickWindow_of_short ends, if_neg ends]

theorem State.seat_secondWork (order : SecondOrder) (n : Seat) :
    (s.secondWork order).seat n = { s.seat n with dropouts := if s.windowEnds then 0 else (s.seat n).dropouts } := by
  cases order <;> simp [State.secondWork, State.seat_tickWindow, State.windowEnds]

theorem State.windowElapsed_secondWork (order : SecondOrder) :
    (s.secondWork order).windowElapsed = if s.windowEnds then 0 else s.windowElapsed + 1 := by
  cases order <;> simp [State.secondWork, State.windowElapsed_tickWindow, State.windowEnds]

@[simp] theorem State.tickWindow_kept :
    s.tickWindow.params = s.params ∧ s.tickWindow.sitting = s.sitting ∧ s.tickWindow.clock = s.clock := by
  rw [State.tickWindow]
  split
  · exact ⟨s.params_endDropoutWindow, s.sitting_endDropoutWindow, s.clock_endDropoutWindow⟩
  · trivial

theorem State.clock_secondWork (order : SecondOrder) : (s.secondWork order).clock = s.nextClock := by
  cases order <;> simp [State.secondWork, State.nextClock]

/-- Outside SETUP the timer of a record that the window's end does not clear is lowered, at the reading of the clock
of that moment (R94). -/
theorem State.mem_secondWork (order : SecondOrder) {r : Record} (running : s.sitting ≠ .setup) (h : r ∈ s.records)
    (outlasts : s.outlastsWindow r) : ∃ now, (now = s.clock ∨ now = s.nextClock)
      ∧ r.lowered s.params now ∈ (s.secondWork order).records := by
  have lowered (t : State) (sitting : t.sitting = s.sitting) (params : t.params = s.params) (h : r ∈ t.records) :
      r.lowered s.params t.clock ∈ t.tickTimers.records := by
    rw [t.tickTimers_of_running (by rwa [sitting]), ← params]
    exact List.mem_map_of_mem h
  have window (t : State) {q : Record} (monitors : t.monitors = s.monitors) (key : q.seat = r.seat ∧ q.kind = r.kind)
      (h : q ∈ t.records) : q ∈ t.tickWindow.records := by
    have same : t.monitor = s.monitor := by
      funext n
      simp only [State.monitor, monitors]
    rw [State.tickWindow]
    split
    · refine State.mem_endDropoutWindow ?_ h
      rw [State.outlastsWindow, same, key.1, key.2]
      exact outlasts
    · exact h
  have key (now : Nat) : (r.lowered s.params now).seat = r.seat ∧ (r.lowered s.params now).kind = r.kind := by
    rw [← Record.tick_eq]
    exact (keepsWarning_tick s.params now).1 r
  have itself : r.seat = r.seat ∧ r.kind = r.kind := ⟨rfl, rfl⟩
  cases order with
  | cwe =>
    exact ⟨_, .inr (by simp), lowered s.tickClock.tickWindow (by simp) (by simp) (window _ (by simp) itself (by simpa))⟩
  | cew =>
    exact ⟨_, .inr (by simp), window s.tickClock.tickTimers (by simp) (key _) (lowered _ (by simp) (by simp) (by simpa))⟩
  | wce =>
    exact ⟨_, .inr (by simp [State.nextClock]),
      lowered s.tickWindow.tickClock (by simp) (by simp) (by simpa using window s rfl itself h)⟩
  | wec =>
    exact ⟨s.clock, .inl rfl, by
      simpa [State.secondWork] using lowered s.tickWindow (by simp) (by simp) (window s rfl itself h)⟩
  | ecw =>
    exact ⟨s.clock, .inl rfl, window s.tickTimers.tickClock (by simp) (key _)
      (by simpa using lowered s rfl rfl h)⟩
  | ewc =>
    exact ⟨s.clock, .inl rfl, by
      simpa [State.secondWork] using window s.tickTimers (by simp) (key _) (lowered s rfl rfl h)⟩

end

end Sys2Proof.Machine
end

section
/-! The time base through every command (R119, log 3), and with it the settled statement on the second tick. -/

namespace Sys2Proof.Machine

/-! ## The time base under the blocks' operations -/

/-- The phases and the device seconds (R119). -/
def State.timeBase (s : State) : Nat × Nat × Nat := (s.quarterPhase, s.minutePhase, s.deviceSeconds)

section
variable (s : State)

theorem State.onlyMonitorAndList_timeBase {s t : State} (h : s.onlyMonitorAndList t) : t.timeBase = s.timeBase :=
  State.onlyMonitorAndList_law (P := fun u => u.timeBase = s.timeBase) h (fun _ _ _ _ h => h) rfl

@[simp] theorem State.timeBase_mapSeats (f : Seat → SeatRecord → SeatRecord) :
    (s.mapSeats f).timeBase = s.timeBase := by
  simp [State.timeBase]

@[simp] theorem State.timeBase_takeSetValues : s.takeSetValues.timeBase = s.timeBase := by
  simp [State.timeBase]

@[simp] theorem State.timeBase_evaluate (tick : Bool) (kinds : Seat → PerKind Bool) :
    (s.evaluate tick kinds).timeBase = s.timeBase :=
  State.onlyMonitorAndList_timeBase (s.onlyMonitorAndList_evaluate ..)

@[simp] theorem State.timeBase_advanceSeats (who : Seat → Bool) : (s.advanceSeats who).timeBase = s.timeBase :=
  (State.onlyMonitorAndList_timeBase (s.changeSeats_spec _)).trans (s.timeBase_mapSeats _)

@[simp] theorem State.timeBase_countSeats : s.countSeats.timeBase = s.timeBase := s.timeBase_evaluate ..

@[simp] theorem State.timeBase_minuteSeats (who : Seat → Bool) : (s.minuteSeats who).timeBase = s.timeBase :=
  (State.onlyMonitorAndList_timeBase (s.minuteSeats_frame who)).trans (s.timeBase_mapSeats _)

theorem State.timeBase_endDropoutWindow : s.endDropoutWindow.timeBase = s.timeBase :=
  (State.onlyMonitorAndList_timeBase s.endDropoutWindow_frame).trans
    (State.windowTables_law (P := fun u => u.timeBase = s.timeBase) (fun _ _ h => h) rfl)

theorem State.timeBase_quarterWork (order : TickOrder) : (s.quarterWork order).timeBase = s.timeBase := by
  cases order <;> simp [State.quarterWork]

theorem State.timeBase_secondWork (order : SecondOrder) : (s.secondWork order).timeBase = s.timeBase :=
  (congrArg State.timeBase (s.secondFrame_secondWork order).1).trans rfl

theorem State.timeBase_processReport (rep : Report) : (s.processReport rep).timeBase = s.timeBase := by
  obtain ⟨_, _, frame⟩ := s.processReport_frame rep
  exact (State.onlyMonitorAndList_timeBase frame).trans rfl

theorem State.timeBase_writeParameter (number v : Nat) : (s.writeParameter number v).timeBase = s.timeBase :=
  (State.onlyMonitorAndList_timeBase (s.writeParameter_frame number v)).trans rfl

theorem State.timeBase_endProfile (result : ProfileResult) : (s.endProfile result).timeBase = s.timeBase := rfl

theorem State.timeBase_applyImage (img : List Byte) : (s.applyImage img).timeBase = s.timeBase :=
  State.applyImage_law (P := fun u => u.timeBase = s.timeBase) img
    (fun u number v _ h => (u.timeBase_writeParameter number v).trans h) (fun _ _ _ _ _ _ _ _ h => h) rfl

end

/-! ## The time base under requests and characters -/

/-- Carrying out a request leaves the time base as it is. -/
theorem State.Requested.timeBase {s t : State} (h : s.Requested t) : t.timeBase = s.timeBase := by
  have work : ∀ {u v : State}, u.onlyMonitorAndList v → u.timeBase = s.timeBase → v.timeBase = s.timeBase :=
    fun frame hu => (State.onlyMonitorAndList_timeBase frame).trans hu
  cases h with
  | apart core intake links profile lines => exact (congrArg State.timeBase core).trans rfl
  | bound n pack valid new => exact work (s.bindSeat_frame ..) ((congrArg State.timeBase (s.bindTables_eq ..)).trans rfl)
  | released n => exact work (s.releaseSeat_frame n) rfl
  | grouped f group => exact s.timeBase_mapSeats f
  | restarted setup =>
    exact work s.restartBound_frame
      (State.restartTables_law (P := fun u => u.timeBase = s.timeBase) (fun _ _ _ _ h => h) rfl)
  | curved c valid setup => exact State.timeBase_mapSeats ..
  | written number v range => exact s.timeBase_writeParameter number v
  | seen x picked enabled => rfl
  | acked x picked held enabled => exact work (s.listWork_acknowledgeAll ..).frame rfl
  | started length range setup idle => exact work (State.onlyMonitorAndList_startMonitors _) rfl
  | scheduled length range => exact State.timeBase_evaluate ..
  | recessed sitting => exact work (State.onlyMonitorAndList_recessMonitors _) rfl
  | resumed recess => exact State.timeBase_evaluate ..
  | ended => rfl
  | granted n sitting bound off room => exact work (State.onlyMonitorAndList_granted ..) rfl
  | replaced n oldest rest sitting bound off floor => exact work (State.onlyMonitorAndList_replaced ..) rfl
  | withdrawn n sitting => exact work (State.onlyMonitorAndList_withdrawn ..) rfl
  | cleared sitting => exact work (State.onlyMonitorAndList_withdrawn ..) rfl

section
variable (s : State) (x : LinkId)

theorem State.timeBase_takeRequest (r : HeldRequest) : (s.takeRequest x r).timeBase = s.timeBase :=
  (s.judgeRequest_requested x r).timeBase

theorem State.timeBase_goodRequest (r : HeldRequest) : (s.goodRequest x r).timeBase = s.timeBase := by
  simp only [State.goodRequest]
  split
  · exact s.timeBase_takeRequest x r
  · rfl
  · rfl

theorem State.timeBase_requestReaches (code : Byte) (payload : List Byte) :
    (s.requestReaches x code payload).timeBase = s.timeBase := by
  simp only [State.requestReaches]
  split
  · exact State.timeBase_goodRequest ..
  · rfl

theorem State.timeBase_judgeFrame (len : Nat) (frame : List Byte) :
    (s.judgeFrame x len frame).timeBase = s.timeBase := by
  simp only [State.judgeFrame]
  split
  · rfl
  · split
    · exact State.timeBase_goodRequest ..
    · rfl

theorem State.timeBase_receiveCharacter (ch : Byte) (stop : Bool) :
    (s.receiveCharacter x ch stop).timeBase = s.timeBase := by
  simp only [State.receiveCharacter]
  split
  · rfl
  · split
    · split <;> rfl
    · split
      · rfl
      · split <;> rfl
    · split
      · exact State.timeBase_judgeFrame ..
      · rfl

end

/-! ## Every command -/

/-- A command that is no tick of the time base and no rise of RESET. -/
def offTimeBase : Instr → Bool
  | .quarterTick _ | .secondTick _ | .minuteTick | .resetPin _ _ _ => false
  | _ => true

section
variable {s : State}

theorem State.timeBase_ite {c : Prop} [Decidable c] {s t u : State} (ht : t.timeBase = s.timeBase)
    (hu : u.timeBase = s.timeBase) : (if c then t else u).timeBase = s.timeBase := by
  split
  · exact ht
  · exact hu

theorem execLoadComplete_timeBase {t : State} (h : execLoadComplete s = .next t) : t.timeBase = s.timeBase := by
  simp only [execLoadComplete, Host.Outcome.next.injEq] at h
  subst h
  refine State.timeBase_ite ?_ rfl
  split
  · rfl
  · split
    · rfl
    · refine (State.timeBase_endProfile _ _).trans ((State.timeBase_applyImage _ _).trans ?_)
      simp only [State.timeBase]

/-- A command that is no tick leaves the time base as it is. -/
theorem exec_timeBase {c : Instr} {t : State} (off : offTimeBase c = true) (h : exec c s = .next t) :
    t.timeBase = s.timeBase := by
  cases hc : asRequest c with
  | some r =>
    obtain ⟨x, code, payload⟩ := r
    obtain ⟨protect, hp⟩ := exec_of_asRequest hc s
    cases hp.symm.trans h
    exact State.timeBase_requestReaches ..
  | none =>
    cases c <;> simp only [asRequest, reduceCtorEq, offTimeBase, Bool.false_eq_true] at hc off
    case loadComplete => exact execLoadComplete_timeBase h
    case portCharacter =>
      cases h
      rfl
    case intakePick =>
      cases h
      dsimp only
      split
      · rfl
      · split
        · rfl
        · exact State.timeBase_processReport ..
    case enterFading =>
      cases h
      exact State.timeBase_ite (State.timeBase_advanceSeats ..) rfl
    case enterLost =>
      cases h
      exact State.timeBase_ite (State.timeBase_advanceSeats ..) rfl
    case qualifierExpiry =>
      cases h
      exact State.timeBase_ite (State.timeBase_evaluate ..) rfl
    case accumulationLimit =>
      cases h
      exact State.timeBase_ite (State.timeBase_evaluate ..) rfl
    case dropoutWindowEnd =>
      cases h
      exact State.timeBase_ite s.timeBase_endDropoutWindow rfl
    case escalationExpiry =>
      cases h
      split
      · rfl
      · exact State.timeBase_ite rfl rfl
    case drainWindowComplete =>
      cases h
      exact State.timeBase_ite (State.timeBase_minuteSeats ..) rfl
    case linkCharacter =>
      cases h
      exact State.timeBase_ite (State.timeBase_receiveCharacter ..) rfl
    case replyEnd x protect =>
      cases h
      split
      · rfl
      · rfl
      · exact State.timeBase_takeRequest ..
    case linkBreak =>
      cases h
      exact State.timeBase_ite rfl rfl
    case saveComplete =>
      cases h
      exact State.timeBase_ite rfl rfl
    case compareComplete =>
      cases h
      exact State.timeBase_ite (State.timeBase_ite rfl (State.timeBase_ite rfl rfl)) rfl
    case storeFault =>
      cases h
      dsimp only
      split <;> rfl
    case linkReturnToMark =>
      cases h
      rfl

end

/-! ## Runs that keep the time base (log 3) -/

/-- The quarter ticks that a run has taken. -/
def Timing.quarters (t : Timing) : Nat := if t.quarter then t.instants - 1 else t.instants

/-- The second ticks that a run has taken. -/
def Timing.seconds (t : Timing) : Nat := if t.second then t.instants / 4 - 1 else t.instants / 4

/-- The time base of a state counts the ticks that a run has taken. -/
structure Timing.counts (t : Timing) (s : State) : Prop where
  quarter : t.quarter = true → 1 ≤ t.instants
  second : t.second = true → 1 ≤ t.instants / 4
  base : s.timeBase = (t.quarters % 4, t.seconds % 60, min 4294967295 t.seconds)

section
variable {t u : Timing} {s v : State}

/-- A new instant makes ticks fall, and takes none of them. -/
theorem Timing.present_counted (t : Timing) : t.present.quarters = t.quarters ∧ t.present.seconds = t.seconds := by
  simp only [Timing.present, Timing.quarters, Timing.seconds]
  split
  · trivial
  · next none =>
    obtain ⟨⟨quarter, second⟩, -⟩ : (t.quarter = false ∧ t.second = false) ∧ t.minute = false := by
      simpa using none
    simp only [quarter, second, Bool.false_eq_true, if_true, if_false, beq_iff_eq]
    refine ⟨by omega, ?_⟩
    split <;> omega

theorem Timing.counts.present (h : t.counts s) : t.present.counts s := by
  obtain ⟨quarters, seconds⟩ := t.present_counted
  refine ⟨fun falls => ?_, fun falls => ?_, by rw [quarters, seconds, h.base]⟩
  · simp only [Timing.present] at falls ⊢
    split at falls
    · next some => simpa [some] using h.quarter falls
    · next none => simp [none]
  · simp only [Timing.present] at falls ⊢
    split at falls
    · next some => simpa [some] using h.second falls
    · next none =>
      simp only [beq_iff_eq] at falls
      simp only [none, Bool.false_eq_true, if_false]
      omega

theorem Timing.after_of_off {c : Instr} (off : offTimeBase c = true) : t.after c = some t := by
  cases c
  case quarterTick | secondTick | minuteTick | resetPin => cases off
  all_goals rfl

/-- A command of a run that keeps the time base counts on. -/
theorem Timing.counts.after {c : Instr} (h : t.counts s) (after : t.after c = some u) (run : exec c s = .next v) :
    u.counts v := by
  have base := h.present.base
  simp only [State.timeBase, Prod.mk.injEq] at base
  obtain ⟨quarter, minute, second⟩ := base
  by_cases off : offTimeBase c = true
  · cases (Timing.after_of_off off).symm.trans after
    exact ⟨h.quarter, h.second, (exec_timeBase off run).trans h.base⟩
  cases c
  case quarterTick order =>
    obtain ⟨falls, taken⟩ := Option.ite_none_right_eq_some.1 after
    cases taken
    cases run
    have one := h.present.quarter falls
    have work := (State.timeBase_quarterWork _ order).trans s.timeBase_takeSetValues
    simp only [State.timeBase, Prod.mk.injEq] at work
    obtain ⟨-, minutes, seconds⟩ := work
    refine ⟨nofun, h.present.second, ?_⟩
    simp only [State.timeBase, minutes, seconds, minute, second, Prod.mk.injEq, quarter]
    simp only [Timing.quarters, falls, Timing.seconds, if_true, Bool.false_eq_true, if_false, and_self, and_true]
    omega
  case secondTick order =>
    obtain ⟨falls, taken⟩ := Option.ite_none_right_eq_some.1 after
    cases taken
    cases run
    have one := h.present.second falls
    have work := s.timeBase_secondWork order
    simp only [State.timeBase, Prod.mk.injEq] at work
    refine ⟨h.present.quarter, nofun, ?_⟩
    simp only [State.timeBase, work.1, quarter, minute, second, Prod.mk.injEq, bump, Config.deviceSecondsMax]
    simp only [Timing.quarters, falls, Timing.seconds, if_true, Bool.false_eq_true, if_false, true_and]
    omega
  case minuteTick =>
    obtain ⟨falls, taken⟩ := Option.ite_none_right_eq_some.1 after
    cases taken
    cases run
    exact ⟨h.present.quarter, h.present.second, (State.timeBase_minuteSeats ..).trans h.present.base⟩
  case resetPin straps protect g =>
    cases run
    cases after
    exact ⟨nofun, nofun, rfl⟩
  all_goals exact absurd rfl off

theorem Timing.counts.runs {commands : List Instr} (h : t.counts s) (after : t.afterAll commands = some u)
    (run : s.runs commands v) : u.counts v := by
  induction commands generalizing t s with
  | nil =>
    cases after
    cases run
    exact h
  | cons c rest ih =>
    obtain ⟨w, first, run⟩ := run
    simp only [Timing.afterAll] at after
    split at after
    · cases after
    · next one => exact ih (h.after one first) after run

end

/-- Settles O24: the blocks' parts of a second tick in each order; and the ticks that a run has taken, counted along
its commands. -/
theorem secondTickMovesTheClocks : Obligations.SecondTickMovesTheClocks := by
  unfold Obligations.SecondTickMovesTheClocks
  refine ⟨fun s order => ?_, fun commands s t m n times run quarter minute second => ?_⟩
  · have clock := s.clock_secondWork order
    obtain ⟨core, lines⟩ := s.secondFrame_secondWork order
    refine ⟨_, rfl, rfl, rfl, clock, ⟨s.windowElapsed_secondWork order, s.seat_secondWork order, fun short => ?_,
      fun running r h outlasts => ?_⟩, ?_, lines⟩
    · obtain ⟨monitors, links, records⟩ := s.secondWork_short_kept order short
      refine ⟨monitors, links, records, fun running => ?_⟩
      obtain ⟨now, reading, work⟩ := s.secondWork_of_short order running short
      rw [work]
      refine ⟨List.length_map .., fun i r at_i => ⟨now, reading, ?_⟩⟩
      simp [at_i]
    · obtain ⟨now, reading, mem⟩ := s.mem_secondWork order running h outlasts
      exact ⟨now, clock.symm ▸ reading, mem⟩
    · generalize s.secondWork order = w at core ⊢
      rw [core]
  · have first : (Timing.between m).counts s := ⟨nofun, nofun, by simp only [State.timeBase, quarter, minute, second]; rfl⟩
    have base := (first.runs times run).base
    simpa [State.timeBase, Timing.quarters, Timing.seconds, Timing.between] using base

end Sys2Proof.Machine
end

section
/-! Records acknowledged and taken out of a lawful list by requests (R68, R74, R87 to R90). -/

namespace Sys2Proof.Machine

/-! ## Admission into a list that has no place to give -/

section
variable {s t : State}

theorem State.dueMarks_congr (same : ∀ n k, t.isDue n k = s.isDue n k) : t.dueMarks = s.dueMarks :=
  List.flatMap_congr fun n _ => by rw [show t.isDue n = s.isDue n from funext (same n)]

/-- A list without a free place has none for due marks, and one with a free place has no due marks (R91). -/
theorem State.take_of_full (full : s.full) : s.dueMarks.take (48 - s.records.length) = [] := by
  cases marks : s.dueMarks with
  | nil => simp
  | cons m _ =>
    have due := (s.mem_dueMarks m).1 (marks ▸ List.mem_cons_self)
    have length : s.records.length = 48 := full ((s.overflow_iff).2 ⟨m.1, m.2, due⟩)
    simp [length]

theorem State.fillPlaces_of_take {places : Nat} (none : s.dueMarks.take places = []) :
    State.fillPlaces places s = s := by
  cases places with
  | zero => rfl
  | succ places =>
    have marks : s.dueMarks = [] := by simpa using none
    rw [State.fillPlaces, State.firstDue_eq_head, marks]
    rfl

theorem State.fillFreed_of_full (full : s.full) : s.fillFreed = s := State.fillPlaces_of_take (State.take_of_full full)

end

/-! ## What acknowledging several records makes of the list and the qualifiers -/

/-- What acknowledging the records picked makes of one record (R87). -/
def ackOf (clock : Nat) (x : LinkId) (picked : List Record) (r : Record) : Option Record :=
  if r ∈ picked then
    match r.state with
    | .clearedUnacked => none
    | .activeUnacked => some (r.acked clock x)
    | .activeAcked => some (r.ackedAgain x)
  else some r

/-- An OPEN_NO_FLOOR record of the seat is among the CLEARED_UNACKED ones picked. -/
def opensReturned (picked : List Record) (n : Seat) : Bool :=
  (picked.filter fun r => r.state == .clearedUnacked).any fun r => r.seat == n && r.kind == .openNoFloor

/-- The OPEN_NO_FLOOR qualifiers of the cleared records are in the state that counting afresh would give them. -/
def State.restsOpen (s : State) (picked : List Record) : Prop :=
  ∀ r ∈ picked, r.state = .clearedUnacked → r.kind = .openNoFloor →
    (s.monitor r.seat).state.openNoFloor = s.openRestart r.seat

section
variable {s : State} {r : Record} {rs : List Record} (x : LinkId)

/-- In a lawful list a record is found by its seat and kind. -/
theorem State.isFor_iff_eq (list : s.listLaw) (held : r ∈ s.records) {q : Record} (mem : q ∈ s.records) :
    q.isFor r.seat r.kind = true ↔ q = r := by
  refine ⟨fun key => ?_, fun same => same ▸ (Record.isFor_iff ..).2 ⟨rfl, rfl⟩⟩
  obtain ⟨seat, kind⟩ := (Record.isFor_iff ..).1 key
  have found := State.record_of_mem list mem
  rw [seat, kind, State.record_of_mem list held] at found
  exact (Option.some.inj found).symm

theorem State.updateRecord_records_eq (list : s.listLaw) (held : r ∈ s.records) (f : Record → Record) :
    (s.updateRecord r.seat r.kind f).records = s.records.filterMap fun q => some (if q = r then f q else q) := by
  rw [State.updateRecord_records, List.filterMap_eq_map']
  refine List.map_congr_left fun q mem => ?_
  simp only [State.isFor_iff_eq list held mem]

theorem State.records_acknowledge (list : s.listLaw) (held : r ∈ s.records) :
    (s.acknowledge x r).records = s.records.filterMap (ackOf s.clock x [r]) := by
  simp only [State.acknowledge]
  split
  · next active =>
    rw [State.updateRecord_records_eq list held]
    refine List.filterMap_congr fun q _ => ?_
    by_cases same : q = r <;> simp [ackOf, same, active]
  · next active =>
    rw [State.updateRecord_records_eq list held]
    refine List.filterMap_congr fun q _ => ?_
    by_cases same : q = r <;> simp [ackOf, same, active]
  · next cleared =>
    rw [State.removeRecord_records, ← List.filterMap_eq_filter]
    refine List.filterMap_congr fun q mem => ?_
    have key := State.isFor_iff_eq list held mem
    by_cases same : q = r
    · simp [ackOf, same, cleared, Option.guard, Record.isFor]
    · have off : q.isFor r.seat r.kind = false := by simpa [same] using key
      simp [ackOf, same, Option.guard, off]

theorem State.monitor_acknowledge (undue : s.isDue r.seat r.kind = false) (rests : s.restsOpen [r]) (n : Seat) :
    (s.acknowledge x r).monitor n
      = { s.monitor n with openPv := if opensReturned [r] n then 0 else (s.monitor n).openPv } := by
  have still (active : r.state ≠ .clearedUnacked) : opensReturned [r] n = false := by
    simp [opensReturned, active]
  simp only [State.acknowledge]
  split
  · next active =>
    rw [still (by simp [active])]
    rfl
  · next active =>
    rw [still (by simp [active])]
    rfl
  · next cleared =>
    rw [State.monitor_removeRecord]
    by_cases here : r.kind = .openNoFloor ∧ n = r.seat
    · obtain ⟨kind, rfl⟩ := here
      have same := rests r List.mem_cons_self cleared kind
      rw [kind] at undue
      have due : (s.monitor r.seat).due.openNoFloor = false := undue
      simp [State.openRemoved, SeatMonitor.openReset, ← same, opensReturned, cleared, kind, PerKind.set]
      rw [← due]
    · have off : opensReturned [r] n = false := by
        simp only [opensReturned, cleared, List.filter_cons, beq_self_eq_true, if_true, List.filter_nil, List.any_cons,
          List.any_nil, Bool.or_false, Bool.and_eq_false_iff, beq_eq_false_iff_ne]
        exact (not_and_or.1 here).symm.imp Ne.symm id
      simp [here, off]

/-- Acknowledging records, one after another, before any due mark is admitted (R87, R88). -/
def State.acknowledgeEach (s : State) (picked : List Record) : State := picked.foldl (fun t r => t.acknowledge x r) s

theorem State.onlyMonitorAndList_acknowledgeEach (s : State) (picked : List Record) :
    s.onlyMonitorAndList (s.acknowledgeEach x picked) := by
  induction picked generalizing s with
  | nil => exact s.onlyMonitorAndList_refl
  | cons r rs ih => exact State.onlyMonitorAndList_trans (s.onlyMonitorAndList_acknowledge x r) (ih _)

/-- A record is acknowledged once: the records that are acknowledged later are others. -/
theorem ackOf_cons (clock : Nat) (new : (r.seat, r.kind) ∉ rs.map fun r => (r.seat, r.kind)) (q : Record) :
    (ackOf clock x [r] q).bind (ackOf clock x rs) = ackOf clock x (r :: rs) q := by
  have later (p : Record) (seat : p.seat = r.seat) (kind : p.kind = r.kind) : p ∉ rs := fun mem =>
    new (List.mem_map.2 ⟨p, mem, by rw [seat, kind]⟩)
  by_cases same : q = r
  · subst same
    cases state : q.state <;> simp [ackOf, state, later]
    · exact fun h => absurd h (later _ rfl rfl)
    · exact fun h => absurd h (later _ rfl rfl)
  · simp [ackOf, same]

omit x in
theorem opensReturned_cons (n : Seat) :
    opensReturned (r :: rs) n = (opensReturned [r] n || opensReturned rs n) := by
  simp only [opensReturned, List.any_filter, List.any_cons, List.any_nil, Bool.or_false]

theorem State.acknowledgeEach_spec (ack : s.toAck rs) (rests : s.restsOpen rs) :
    (s.acknowledgeEach x rs).records = s.records.filterMap (ackOf s.clock x rs)
      ∧ ∀ n, (s.acknowledgeEach x rs).monitor n
        = { s.monitor n with openPv := if opensReturned rs n then 0 else (s.monitor n).openPv } := by
  induction rs generalizing s with
  | nil =>
    refine ⟨?_, fun n => rfl⟩
    exact (List.filterMap_some ..).symm
  | cons r rs ih =>
    have held := (State.mem_of_record (ack.held r List.mem_cons_self)).1
    have list := ack.owes.list
    have undue := ack.owes.undue r.seat r.kind (by rw [ack.held r List.mem_cons_self]; rfl)
    have one (n : Seat) := State.monitor_acknowledge x undue (fun q hq => by
      obtain rfl := List.mem_singleton.1 hq
      exact rests q List.mem_cons_self) n
    have frame := s.onlyMonitorAndList_acknowledge x r
    obtain ⟨records, monitor⟩ := ih (ack.acknowledge x) fun q hq cleared kind => by
      rw [one, State.onlyMonitorAndList_openRestart frame]
      exact rests q (List.mem_cons_of_mem _ hq) cleared kind
    refine ⟨?_, fun n => ?_⟩
    · refine records.trans ?_
      rw [State.records_acknowledge x list held, List.filterMap_filterMap, State.onlyMonitorAndList_clock frame]
      exact List.filterMap_congr fun q _ => ackOf_cons x s.clock (List.nodup_cons.1 ack.nodup).1 q
    · refine (monitor n).trans ?_
      rw [one, opensReturned_cons (r := r) (rs := rs)]
      cases opensReturned [r] n <;> cases opensReturned rs n <;> rfl

omit x in
/-- The condition of a CLEARED_UNACKED OPEN_NO_FLOOR record is judged as it stands, and not QUALIFIED (R68, R75). -/
theorem State.restsOpen_of_laws (agrees : s.agrees) (condition : s.conditionLaw) (held : rs ⊆ s.records) :
    s.restsOpen rs := by
  intro r mem cleared kind
  have found := State.record_of_mem agrees.owes.list (held mem)
  have undue := agrees.owes.undue r.seat r.kind (by rw [found]; rfl)
  have off : (s.monitor r.seat).state.openNoFloor ≠ .qualified := fun qualified => by
    have warned := (agrees.owes.qualified r.seat r.kind).1 (by rw [kind]; exact qualified)
    exact State.not_warns_of_cleared undue found cleared ((State.owesQualified_nil ..).1 warned)
  have counts := (condition r.seat).2.1.trans (s.openRestart_ne_quiet r.seat).symm
  have restart := s.openRestart_ne_qualified r.seat
  revert off counts restart
  cases (s.monitor r.seat).state.openNoFloor <;> cases s.openRestart r.seat <;> simp

/-- The records that due marks become do not tell of the present values returned: those seats have no such mark. -/
theorem State.acknowledgeEach_marks (ack : s.toAck rs) (rests : s.restsOpen rs) :
    (s.acknowledgeEach x rs).dueMarks = s.dueMarks
      ∧ ∀ places, (s.acknowledgeEach x rs).admitted (s.dueMarks.take places) = s.admitted (s.dueMarks.take places) := by
  obtain ⟨-, monitor⟩ := State.acknowledgeEach_spec x ack rests
  have frame := s.onlyMonitorAndList_acknowledgeEach x rs
  refine ⟨State.dueMarks_congr fun n k => ?_, fun places => List.map_congr_left fun m mem => ?_⟩
  · rw [State.isDue, monitor]
    rfl
  · have due := (s.mem_dueMarks m).1 (List.mem_of_mem_take mem)
    rw [monitor, State.onlyMonitorAndList_params frame, State.onlyMonitorAndList_clock frame,
      State.onlyMonitorAndList_seat frame]
    cases returned : opensReturned rs m.1 with
    | false => rfl
    | true =>
      obtain ⟨r, hr, key⟩ := List.any_eq_true.1 returned
      simp only [Bool.and_eq_true, beq_iff_eq] at key
      have undue := ack.owes.undue r.seat r.kind (by rw [ack.held r (List.mem_filter.1 hr).1]; rfl)
      rw [key.1, key.2] at undue
      have other : m.2 ≠ .openNoFloor := fun same => by
        rw [same, undue] at due
        cases due
      revert other
      cases m.2 <;> simp [gradeOf, detailOf]

/-- Acknowledging several records, in agreement with the laws, in the words of the spec (R68, R74, R87 to R90). -/
theorem State.acknowledgeAll_spec (agrees : s.agrees) (condition : s.conditionLaw) (held : rs.Sublist s.records) :
    (s.acknowledgeAll x rs).records = s.records.filterMap (ackOf s.clock x rs)
        ++ s.admitted (s.dueMarks.take (48 - (s.records.filterMap (ackOf s.clock x rs)).length))
      ∧ (∀ n k, (s.acknowledgeAll x rs).isDue n k = (s.isDue n k
        && !(s.dueMarks.take (48 - (s.records.filterMap (ackOf s.clock x rs)).length)).contains (n, k)))
      ∧ s.presentValuesReturned (s.acknowledgeAll x rs) (rs.filter fun r => r.state == .clearedUnacked) := by
  have ack := agrees.toAck held
  have rests := State.restsOpen_of_laws agrees condition held.subset
  have filled : s.acknowledgeAll x rs = (s.acknowledgeEach x rs).fillFreed := by
    rw [State.acknowledgeAll]
    split
    · rfl
    · next none =>
      refine (State.fillFreed_of_full (State.full_foldl_acknowledge x (fun r hr cleared => none ?_) agrees.full)).symm
      exact List.any_eq_true.2 ⟨r, hr, by simp [cleared]⟩
  obtain ⟨records, monitor⟩ := State.acknowledgeEach_spec x ack rests
  obtain ⟨marks, admitted⟩ := State.acknowledgeEach_marks x ack rests
  obtain ⟨spec, due⟩ := (s.acknowledgeEach x rs).fillFreed_spec
  rw [filled]
  rw [records, marks] at spec due
  refine ⟨spec.trans (by rw [admitted]), fun n k => (due n k).trans ?_, fun n => ?_⟩
  · rw [State.isDue, monitor]
    rfl
  · refine (SeatMonitor.ext_core fun k => State.core_fillPlaces _ n k _).trans ?_
    rw [monitor]
    rfl

end

end Sys2Proof.Machine
end

section
/-! PURGE CLEARED, ACK WARNING and ACK GROUP (R87 to R92, R114, R115). -/

namespace Sys2Proof.Machine

section
variable {s : State} {x : LinkId}

/-! ## A request that acknowledges records -/

theorem State.mayAcknowledge_of_role (role : (s.link x).role = .presiding ∨ (s.link x).role = .technical) :
    s.mayAcknowledge x = true := by
  rw [State.mayAcknowledge, Bool.or_eq_true]
  exact role.imp State.presiding_of_role State.technical_of_role

theorem State.mayAcknowledge_listening : (s.listening x).mayAcknowledge x = s.mayAcknowledge x := by
  rw [State.mayAcknowledge, State.presiding_listening, State.technical_listening]
  rfl

theorem State.view_listening : ((s.listening x).link x).view = (s.link x).view := by
  rw [State.link_listening, if_pos rfl]

theorem State.role_listening : ((s.listening x).link x).role = (s.link x).role := by
  rw [State.link_listening, if_pos rfl]

/-- A request that acknowledges records of a lawful list, and what its OK reply finds (R87 to R90). -/
theorem State.request_acknowledges (lawful : s.lawful) (ready : s.ready x) {picked : List Record}
    (held : picked.Sublist s.records) {q : Request} {payload reply : List Byte}
    (serves : serve q x payload (s.listening x) = ((s.listening x).acknowledgeAll x picked).answer .ok reply) :
    let kept := s.records.filterMap (ackOf s.clock x picked)
    let taken := s.dueMarks.take (48 - kept.length)
    ∃ t : State, s.requestReaches x q.code payload = t ∧ t.records = kept ++ s.admitted taken
      ∧ (∀ n k, t.isDue n k = (s.isDue n k && !taken.contains (n, k)))
      ∧ s.presentValuesReturned t (picked.filter fun r => r.state == .clearedUnacked)
      ∧ s.repliesIn t x q.code .ok reply
      ∧ t = { s with monitors := t.monitors, records := t.records, links := t.links } := by
  have agrees : (s.listening x).agrees := lawful.warningLaws.agrees.of_sameWarnings (State.sameWarnings_of_eq rfl rfl)
  obtain ⟨records, due, returned⟩ := State.acknowledgeAll_spec (s := s.listening x) x agrees lawful.condition held
  have frame := ((s.listening x).listWork_acknowledgeAll x picked).frame
  refine ⟨_, (State.requestReaches_of_ready ready q _).trans (congrArg (Served.onLink · x _) serves), records, due,
    returned, State.repliesIn_onLink frame.2, ?_⟩
  obtain ⟨core, -⟩ := frame
  generalize (s.listening x).acknowledgeAll x picked = v at core ⊢
  rw [core]
  rfl

end

/-! ## PURGE CLEARED (R92) -/

/-- Cleared records leave the list. -/
theorem filterMap_ackOf_of_cleared {records : List Record} (clock : Nat) (x : LinkId) (p : Record → Bool)
    (cleared : ∀ r ∈ records, p r = true → r.state = .clearedUnacked) :
    records.filterMap (ackOf clock x (records.filter p)) = records.filter fun r => !p r := by
  refine (List.filterMap_congr fun r mem => ?_).trans (congrFun List.filterMap_eq_filter records)
  have state := cleared r mem
  cases picked : p r <;> simp_all [ackOf, Option.guard]

/-- Settles O32: a purge acknowledges the CLEARED_UNACKED records in view. -/
theorem purgeClearedRemovesTheCleared : Obligations.PurgeClearedRemovesTheCleared := by
  unfold Obligations.PurgeClearedRemovesTheCleared
  intro s x rest lawful ready role
  let p : Record → Bool := fun r => (s.link x).view.sees r && r.state == .clearedUnacked
  have cleared (r : Record) (h : p r = true) : r.state = .clearedUnacked := by
    simp only [p, Bool.and_eq_true, beq_iff_eq] at h
    exact h.2
  have picked : ((s.listening x).inView x).filter (fun r => r.state == .clearedUnacked) = s.records.filter p := by
    rw [State.inView, List.filter_filter, State.view_listening]
    exact List.filter_congr fun r _ => Bool.and_comm ..
  have serves : serve .purgeCleared x rest (s.listening x)
      = ((s.listening x).acknowledgeAll x (s.records.filter p)).answer .ok [byte (s.records.filter p).length] := by
    simp only [serve, servePurgeCleared, State.technical_listening, State.technical_of_role role, Bool.not_true,
      Bool.false_eq_true, if_false, picked]
    rw [State.removeAll_eq_acknowledgeAll _ x fun r hr => cleared r (List.mem_filter.1 hr).2]
  obtain ⟨t, reached, spec⟩ := State.request_acknowledges lawful ready List.filter_sublist serves
  have all : (s.records.filter p).filter (fun r => r.state == .clearedUnacked) = s.records.filter p :=
    List.filter_eq_self.2 fun r hr => beq_iff_eq.2 (cleared r (List.mem_filter.1 hr).2)
  rw [filterMap_ackOf_of_cleared s.clock x p fun r _ => cleared r, all] at spec
  exact ⟨t, congrArg Host.Outcome.next reached, spec⟩

/-! ## ACK WARNING (R114) -/

theorem AckRoles.admits_iff (a : AckRoles) (role : Role) : a.admits role = true
    ↔ (role = .presiding ∧ a.presiding = true) ∨ (role = .technical ∧ a.technical = true) := by
  cases role <;> simp [AckRoles.admits]

theorem kindOf_eq_some {b : Byte} {k : Kind} (h : b.toNat = kindCode k) : kindOf b = some k := by
  rw [kindOf, h]
  cases k <;> rfl

theorem kindOf_eq_none {b : Byte} (h : b = 0 ∨ 7 < b.toNat) : kindOf b = none := by
  rw [kindOf, List.find?_eq_none]
  intro k _ same
  rw [beq_iff_eq] at same
  rcases h with rfl | large
  · cases k <;> cases same
  · cases k <;> simp only [kindCode] at same <;> omega

section
variable {s : State} {x : LinkId} {seat kind : Byte} {rest : List Byte} {n : Seat} {k : Kind}
  (may : s.mayAcknowledge x = true) (hn : seat.toNat = n.val) (hk : kind.toNat = kindCode k)
include may hn hk

/-- ACK WARNING finds no record in view (R114). -/
theorem serve_ackWarning_notFound (unseen : ∀ r, s.record n k = some r → (s.link x).view.sees r = false) :
    serve .ackWarning x (seat :: kind :: rest) s = s.refuse .notFound := by
  simp only [serve, serveAckWarning, may, seatOf_eq_some hn, kindOf_eq_some hk, Bool.not_true, Bool.false_eq_true,
    if_false]
  split
  · rfl
  · next r found => rw [unseen r found]; rfl

/-- ACK WARNING finds a record in view (R114). -/
theorem serve_ackWarning_found {r : Record} (found : s.record n k = some r) (sees : (s.link x).view.sees r = true) :
    serve .ackWarning x (seat :: kind :: rest) s =
      if r.roles.admits (s.link x).role = true then
        (s.acknowledgeAll x [r]).answer .ok [seat, kind, byte r.state.code, if r.state = .clearedUnacked then 2 else 1]
      else s.answer .role [byte r.severity.code, byte r.roles.code] := by
  simp only [serve, serveAckWarning, may, seatOf_eq_some hn, kindOf_eq_some hk, found, sees, Bool.not_true,
    Bool.false_eq_true, if_false, State.acknowledgeAll_singleton]
  by_cases admits : r.roles.admits (s.link x).role = true
  · by_cases cleared : r.state = .clearedUnacked
    · simp only [admits, cleared, if_true, Bool.not_true, Bool.false_eq_true, if_false]
      rfl
    · simp only [admits, cleared, if_true, Bool.not_true, Bool.false_eq_true, if_false]
      rfl
  · simp [admits]

end

/-- The record acknowledged is the only one to leave. -/
theorem State.filterMap_ackOf_singleton {s : State} {r : Record} (list : s.listLaw) (mem : r ∈ s.records)
    (cleared : r.state = .clearedUnacked) (x : LinkId) :
    s.records.filterMap (ackOf s.clock x [r]) = s.records.filter fun q => q.seat ≠ r.seat ∨ q.kind ≠ r.kind := by
  refine (List.filterMap_congr fun q held => ?_).trans (congrFun List.filterMap_eq_filter s.records)
  have key := State.isFor_iff_eq list mem held
  rw [Record.isFor_iff] at key
  by_cases same : q = r
  · simp [ackOf, same, cleared, Option.guard]
  · have off : q.seat ≠ r.seat ∨ q.kind ≠ r.kind := not_and_or.1 (same ∘ key.1)
    simp [ackOf, same, Option.guard, off]

/-- One record that leaves makes one place, for the first due mark if there is one (R88, R91). -/
theorem State.place_of_one {s : State} {r : Record} (agrees : s.agrees) (mem : r ∈ s.records) :
    s.dueMarks.take (48 - (s.records.filter fun q => q.seat ≠ r.seat ∨ q.kind ≠ r.kind).length)
      = s.dueMarks.take 1 := by
  cases marks : s.dueMarks with
  | nil => simp
  | cons m rest =>
    have due := (s.mem_dueMarks m).1 (marks ▸ List.mem_cons_self)
    have length : s.records.length = 48 := agrees.full ((s.overflow_iff).2 ⟨m.1, m.2, due⟩)
    have others : (s.records.filter fun q => q.seat ≠ r.seat ∨ q.kind ≠ r.kind) = s.records.erase r := by
      rw [List.Nodup.erase_eq_filter (List.Nodup.of_map _ agrees.owes.list.2)]
      refine List.filter_congr fun q held => ?_
      have key := State.isFor_iff_eq agrees.owes.list mem held
      rw [Record.isFor_iff] at key
      by_cases same : q = r
      · simp [same]
      · rw [bne_iff_ne.2 same]
        simpa using not_and_or.1 (same ∘ key.1)
    rw [others, List.length_erase_of_mem mem, length]

/-- Settles O36: the branches of R114, and a removal as the acknowledgement of one record. -/
theorem ackWarningAcknowledges : Obligations.AckWarningAcknowledges := by
  unfold Obligations.AckWarningAcknowledges
  refine ⟨fun s x seat kind rest ready role outside => ?_,
    fun s x seat kind rest n k lawful ready role hn hk => ⟨fun unseen => ?_, fun r mem seatR kindR sees => ?_⟩⟩
  all_goals have may := State.mayAcknowledge_listening.trans (State.mayAcknowledge_of_role role)
  · refine congrArg Host.Outcome.next (State.requestReaches_of_answer ready (q := .ackWarning) ?_)
    simp only [serve, serveAckWarning, may, Bool.not_true, Bool.false_eq_true, if_false]
    rcases outside with far | unknown
    · rw [seatOf_eq_none (by omega)]
      rfl
    · rw [kindOf_eq_none unknown]
      cases seatOf seat <;> rfl
  · refine congrArg Host.Outcome.next (State.requestReaches_of_answer ready (q := .ackWarning) ?_)
    refine serve_ackWarning_notFound may hn hk fun r found => ?_
    obtain ⟨mem, seatR, kindR⟩ := State.mem_of_record found
    rw [State.view_listening]
    exact unseen r mem seatR kindR
  · subst seatR kindR
    have found : (s.listening x).record r.seat r.kind = some r := State.record_of_mem lawful.list mem
    have serves := serve_ackWarning_found (s := s.listening x) (rest := rest) may hn hk found
      (by rw [State.view_listening]; exact sees)
    rw [State.role_listening] at serves
    have admitted := r.roles.admits_iff (s.link x).role
    refine ⟨fun off => ?_, fun on active => ?_, fun on active => ?_, fun on cleared => ?_⟩
    · rw [if_neg (admitted.not.2 off)] at serves
      exact congrArg Host.Outcome.next (State.requestReaches_of_answer ready (q := .ackWarning) serves)
    all_goals rw [if_pos (admitted.2 on)] at serves
    · refine congrArg Host.Outcome.next (State.requestReaches_of_answer ready (q := .ackWarning) (serves.trans ?_))
      rw [State.acknowledgeAll_singleton, if_neg (by simp [active]), if_neg (by simp [active]), State.acknowledge]
      simp only [active]
      rw [State.updateRecord_eq]
      rfl
    · refine congrArg Host.Outcome.next (State.requestReaches_of_answer ready (q := .ackWarning) (serves.trans ?_))
      rw [State.acknowledgeAll_singleton, if_neg (by simp [active]), if_neg (by simp [active]), State.acknowledge]
      simp only [active]
      rw [State.updateRecord_eq]
      rfl
    · rw [cleared, if_pos rfl] at serves
      have only : [r].Sublist s.records := List.singleton_sublist.2 mem
      obtain ⟨t, reached, records, due, returned, spec⟩ := State.request_acknowledges lawful ready only serves
      rw [State.filterMap_ackOf_singleton lawful.list mem cleared, State.place_of_one lawful.warningLaws.agrees mem]
        at records due
      exact ⟨t, congrArg Host.Outcome.next reached, records, due, by simpa [cleared] using returned, spec⟩

/-! ## ACK GROUP (R115) -/

theorem classSetOf_holds (set : Byte) (k : Kind) : (classSetOf set).holds k
    = match k with
      | .battery | .batteryShortfall => set.getLsbD 0
      | .mutedSpeech | .openNoFloor => set.getLsbD 1
      | .signalWeak | .dropouts | .signalLost => set.getLsbD 2 := by
  cases k <;> rfl

/-- Settles O37: the records that the group selects are acknowledged in one event. -/
theorem ackGroupAcknowledgesTheSelected : Obligations.AckGroupAcknowledgesTheSelected := by
  unfold Obligations.AckGroupAcknowledgesTheSelected
  intro s x group mask set rest lawful ready role
  have may := State.mayAcknowledge_listening.trans (State.mayAcknowledge_of_role role)
  refine ⟨fun outside => congrArg Host.Outcome.next (State.requestReaches_of_answer ready (q := .ackGroup) ?_),
    fun inGroup inMask => ?_⟩
  · simp only [serve, serveAckGroup, may, outside, Bool.not_true, Bool.false_eq_true, if_true, if_false]
    rfl
  · let picked := s.records.filter ((s.listening x).groupSelects x group.toNat mask.toNat (classSetOf set))
    have inside : ¬(15 < group.toNat ∨ 15 < mask.toNat) := by omega
    have serves : serve .ackGroup x (group :: mask :: set :: rest) (s.listening x)
        = ((s.listening x).acknowledgeAll x picked).answer .ok [byte picked.length] := by
      simp only [serve, serveAckGroup, may, inside, Bool.not_true, Bool.false_eq_true, if_false]
      rfl
    obtain ⟨t, reached, spec⟩ := State.request_acknowledges lawful ready List.filter_sublist serves
    have kept : s.records.filterMap (ackOf s.clock x picked) = s.records.filterMap fun r =>
        if r ∈ picked then
          (if r.state = .clearedUnacked then none
           else some { r with
              state := .activeAcked, ackedBy := r.ackedBy.set x true, escalation := none, changedAt := s.clock })
        else some r := by
      refine List.filterMap_congr fun r _ => ?_
      by_cases mem : r ∈ picked
      · have selected := (List.mem_filter.1 mem).2
        simp only [State.groupSelects, Bool.and_eq_true, bne_iff_ne] at selected
        rw [ackOf, if_pos mem, if_pos mem]
        cases state : r.state
        case activeAcked => exact absurd state selected.2
        all_goals rfl
      · rw [ackOf, if_neg mem, if_neg mem]
    refine ⟨t, picked, _, congrArg Host.Outcome.next reached, List.filter_sublist, fun r mem => ?_, kept, spec⟩
    rw [List.mem_filter, and_iff_right mem, State.groupSelects, State.view_listening, State.role_listening,
      classSetOf_holds]
    simp only [Bool.and_eq_true, AckRoles.admits_iff, beq_iff_eq, bne_iff_ne, and_assoc, State.seat_listening] <;> rfl

end Sys2Proof.Machine
end

section
/-! WITHDRAW FLOOR and WITHDRAW ALL (R73, R131). -/

namespace Sys2Proof.Machine

section
variable {s : State} {x : LinkId}

/-- A seat on the floor of a lawful state is bound. -/
theorem State.floorLaw.bound_of_onFloor (law : s.floorLaw) {n : Seat} (on : s.onFloor n = true) : s.bound n = true := by
  obtain ⟨e, held, seat⟩ := List.any_eq_true.1 on
  obtain ⟨-, -, -, bound⟩ := law
  rw [← beq_iff_eq.1 seat]
  exact (bound e held).1

/-- A request that takes seats off the floor of a lawful state (R73, R131). -/
theorem State.request_withdraws (lawful : s.lawful) (ready : s.ready x) (sitting : s.sitting = .sitting)
    {floor : List FloorEntry} {who : Seat → Bool} (on : ∀ n, who n = true → s.onFloor n = true)
    (off : ∀ n, who n = true → floor.any (fun e => e.seat == n) = false) {q : Request} {payload reply : List Byte}
    (serves : serve q x payload (s.listening x) =
      (({ s.listening x with floor := floor }).withdrawn who).answer .ok reply) :
    ∃ t : State, s.requestReaches x q.code payload = t ∧ t.floor = floor
      ∧ (∀ n, who n = true → s.withdrawnFrom t n)
      ∧ (∀ n, who n = false → t.monitor n = { s.monitor n with due := (t.monitor n).due })
      ∧ s.repliesIn t x q.code .ok reply
      ∧ t = { s with floor := t.floor, monitors := t.monitors, records := t.records, links := t.links } := by
  let u : State := { s.listening x with floor := floor }
  have agrees : u.agrees := lawful.warningLaws.agrees.of_sameWarnings (State.sameWarnings_of_eq rfl rfl)
  have frame := State.onlyMonitorAndList_withdrawn u who
  refine ⟨((u.withdrawn who).answer .ok reply).onLink x q.code,
    (State.requestReaches_of_ready ready q _).trans (congrArg (Served.onLink · x _) serves),
    State.onlyMonitorAndList_floor frame, fun n left => ?_, fun n other => agrees.monitor_withdrawn_of_other other,
    State.repliesIn_onLink frame.2, ?_⟩
  · exact State.agrees.withdrawnFrom (u := u) left (lawful.condition.quiet_of_onFloor (on n left)) agrees sitting
      (lawful.floor.bound_of_onFloor (on n left)) (off n left)
  · obtain ⟨core, -⟩ := frame
    generalize u.withdrawn who = v at core ⊢
    rw [core]
    rfl

end

/-- Settles O43: both requests are withdrawals of the seats that leave the floor list. -/
theorem withdrawalsTakeTheFloor : Obligations.WithdrawalsTakeTheFloor := by
  unfold Obligations.WithdrawalsTakeTheFloor
  intro s x rest lawful ready role sitting
  have may := (s.presiding_listening x).trans (State.presiding_of_role role)
  refine ⟨fun seat n hn => ⟨fun off => ?_, fun on => ?_⟩, ?_⟩
  · refine congrArg Host.Outcome.next (State.requestReaches_of_answer ready (q := .withdrawFloor) ?_)
    simp only [serve, serveWithdrawFloor, may, State.sitting_listening, sitting, seatOf_eq_some hn,
      State.onFloor_listening, off, ne_eq, not_true_eq_false, Bool.not_true, Bool.not_false, Bool.false_eq_true, if_true,
      if_false]
    rfl
  · let floor := s.floor.filter fun e => e.seat != n
    have serves : serve .withdrawFloor x (seat :: rest) (s.listening x)
        = (((s.listening x).leaveFloor n).withdrawn (· == n)).answer .ok (floorBytes floor) := by
      have left := State.onlyMonitorAndList_floor
        (State.onlyMonitorAndList_withdrawn ((s.listening x).leaveFloor n) (· == n))
      simp only [serve, serveWithdrawFloor, may, State.sitting_listening, sitting, seatOf_eq_some hn,
        State.onFloor_listening, on, ne_eq, not_true_eq_false, Bool.not_true, Bool.false_eq_true, if_false, left]
      rfl
    obtain ⟨t, reached, floorT, gone, kept, replies, core⟩ := State.request_withdraws lawful ready sitting
      (fun m left => by rwa [beq_iff_eq.1 left]) (floor := floor)
      (fun m left => by simp [floor, beq_iff_eq.1 left]) serves
    refine ⟨t, congrArg Host.Outcome.next reached, floorT, gone n (beq_self_eq_true n),
      fun m other => kept m (beq_eq_false_iff_ne.2 other), ?_, core⟩
    rw [floorT]
    exact replies
  · have serves : serve .withdrawAll x rest (s.listening x)
        = (({ s.listening x with floor := [] }).withdrawn s.onFloor).answer .ok [byte s.floor.length] := by
      simp only [serve, serveWithdrawAll, may, State.sitting_listening, sitting, ne_eq, not_true_eq_false, Bool.not_true,
        Bool.false_eq_true, if_false]
      rfl
    obtain ⟨t, reached, floorT, gone, kept, spec⟩ := State.request_withdraws lawful ready sitting (fun _ => id)
      (fun _ _ => rfl) serves
    exact ⟨t, congrArg Host.Outcome.next reached, floorT, fun n => ⟨gone n, kept n⟩, spec⟩

end Sys2Proof.Machine
end

section
/-! GRANT FLOOR case by case (R73, R130). -/

namespace Sys2Proof.Machine

/-! ## What an evaluation that does not judge a (seat, kind) leaves of it -/

section
variable {u : State} {n : Seat} {k : Kind} {tick : Bool} {kinds : Seat → PerKind Bool}

theorem State.verdict_of_unasked (unasked : u.judges kinds n k = false) : u.verdict tick kinds n k = none := by
  rw [State.verdict, unasked]
  rfl

theorem State.untouched_evaluateAll (unasked : u.judges kinds n k = false) :
    u.untouched (u.evaluateAll tick kinds) n k := by
  refine ⟨State.evaluateAll_frame .., ?_, u.record_evaluateAll tick kinds n k, ?_⟩
  · rw [State.isDue_evaluateAll, State.verdict_of_unasked unasked]
    simp
  · refine (u.core_evaluateAll tick kinds n k).trans (if_neg ?_)
    rw [← State.judges, unasked]
    simp

/-- A lasting fact about a (seat, kind) that is not judged outlasts the evaluation and the list's work. -/
theorem State.lasting.evaluate {P : State → Prop} (lasting : State.lasting n k P) (agrees : u.agrees)
    (unasked : u.judges kinds n k = false) (h : P u) : P (u.evaluate tick kinds) := by
  refine lasting.applyHanded _ (agrees.evaluateAll tick kinds).owes (fun o ho here => ?_)
    (lasting.other (State.untouched_evaluateAll unasked) h)
  have own := (u.verdict_of_mem_outcomes tick kinds ho).1
  rw [← here.1, ← here.2, State.verdict_of_unasked unasked] at own
  cases own

/-- The qualifiers of a seat of which nothing is judged stay but for due marks. -/
theorem State.agrees.monitor_evaluate_of_unasked (agrees : u.agrees) (unasked : ∀ k, u.judges kinds n k = false) :
    (u.evaluate tick kinds).monitor n = { u.monitor n with due := ((u.evaluate tick kinds).monitor n).due } := by
  refine SeatMonitor.ext_core fun k => (agrees.core_evaluate tick kinds).trans ?_
  rw [State.verdict_of_unasked (unasked k), if_neg (by simp)]
  exact (State.untouched_evaluateAll (unasked k)).core

end

/-- What is not QUALIFIED has no due mark and no active record (R58, R75). -/
theorem State.agrees.unwarned {t : State} {n : Seat} {k : Kind} (agrees : t.agrees)
    (off : (t.monitor n).state.get k ≠ .qualified) :
    t.isDue n k = false ∧ ∀ r, t.record n k = some r → r.state = .clearedUnacked := by
  have silent : ¬t.warns n k := fun warned =>
    off ((agrees.owes.qualified n k).2 ((State.owesQualified_nil t n k).2 warned))
  obtain ⟨undue, inactive⟩ := not_or.1 silent
  refine ⟨Bool.eq_false_iff.2 undue, fun r found => ?_⟩
  by_contra active
  exact inactive ⟨r, found, (Record.active_iff r).2 active⟩

/-! ## A grant (R73) -/

/-- The OPEN_NO_FLOOR present value at 0, as a grant puts it before it evaluates (R73). -/
def State.openCounted (v : State) (n : Seat) : State := v.putMonitor n { v.monitor n with openPv := 0 }

section
variable {v : State} {n m : Seat}

theorem State.granted_eq : v.granted n = (v.openCounted n).evaluate false (oneSeat n floorKinds) := rfl

theorem State.monitor_openCounted : (v.openCounted n).monitor m
    = if m = n then { v.monitor n with openPv := 0 } else v.monitor m := State.monitor_putMonitor ..

theorem State.agrees_openCounted (agrees : v.agrees) : (v.openCounted n).agrees :=
  agrees.of_sameWarnings (State.sameWarnings_putMonitor rfl rfl)

section
variable (sitting : v.sitting = .sitting) (bound : v.bound n = true) (on : v.onFloor n = true)
include sitting bound on

omit on in
theorem State.judges_granted (k : Kind) :
    (v.openCounted n).judges (oneSeat n floorKinds) n k = floorKinds.get k := by
  have evaluates : (v.openCounted n).evaluates n = true :=
    State.evaluates_of_bound bound (by rw [show (v.openCounted n).sitting = v.sitting from rfl, sitting]; decide)
  simp [State.judges, evaluates, oneSeat]

/-- A seat that has joined the floor does not count OPEN_NO_FLOOR (R68, R73). -/
theorem State.opened_granted : ((v.granted n).monitor n).openPv = 0
    ∧ ((v.granted n).monitor n).state.openNoFloor = .quiet := by
  have off : (v.openCounted n).openNoFloorHolds n = false := by
    rw [Bool.eq_false_iff, ne_eq, State.openNoFloorHolds_iff]
    rintro ⟨-, away⟩
    cases on.symm.trans away
  have core := (v.openCounted n).core_evaluateAll false (oneSeat n floorKinds) n .openNoFloor
  rw [← State.judges, State.judges_granted sitting bound, if_pos (show floorKinds.get .openNoFloor = true from rfl)] at core
  have state := (SeatMonitor.state_of_core core).trans (State.judgeOpenNoFloor_event_off sitting off)
  have pv := (SeatMonitor.pv_of_core core).trans State.judgeOpenNoFloor_event_pv
  rw [State.monitor_openCounted, if_pos rfl] at pv
  have work := State.listWork_applyOutcomes ((v.openCounted n).evaluateAll false (oneSeat n floorKinds))
    ((v.openCounted n).outcomes false (oneSeat n floorKinds))
  have restart : ((v.openCounted n).evaluateAll false (oneSeat n floorKinds)).openRestart n = .quiet := by
    rw [State.onlyMonitorAndList_openRestart (State.evaluateAll_frame ..)]
    simp [State.openRestart, off]
  refine ⟨?_, ?_⟩
  · rcases State.listWork_openPv work n with same | zero
    · exact same.trans pv
    · exact zero
  · rcases State.listWork_openNoFloor work n with same | ⟨again, -⟩
    · exact same.trans state
    · exact again.trans restart

/-- A grant in agreement with the list judges the FLOOR-class kinds of the seat that has joined (R59, R67, R73). -/
theorem State.agrees.granted (agrees : v.agrees) (silent : (v.monitor n).state.mutedSpeech = .quiet) :
    ((v.granted n).monitor n).state = { (v.monitor n).state with
        openNoFloor := .quiet, mutedSpeech := ((v.granted n).monitor n).state.mutedSpeech }
      ∧ (((v.granted n).monitor n).state.mutedSpeech, ((v.granted n).monitor n).mutedPv)
        = eventMove v.params.mutedSpeechQualify ((v.seat n).mute == .muted && (v.seat n).voice) false .quiet
          (v.monitor n).mutedPv
      ∧ (((v.granted n).monitor n).state.mutedSpeech = .qualified → (v.granted n).warned n .mutedSpeech none)
      ∧ (v.granted n).isDue n .openNoFloor = false
      ∧ (∀ r, (v.granted n).record n .openNoFloor = some r → r.state = .clearedUnacked)
      ∧ ((v.monitor n).state.openNoFloor = .qualified → v.clearedReaches (v.granted n) n .openNoFloor) := by
  have agreesW := State.agrees_openCounted (n := n) agrees
  have own : (v.openCounted n).monitor n = { v.monitor n with openPv := 0 } := by
    rw [State.monitor_openCounted, if_pos rfl]
  have opened := (State.opened_granted sitting bound on).2
  have core (k : Kind) (hk : k ≠ .openNoFloor) : ((v.granted n).monitor n).core k = if floorKinds.get k = true
      then ((v.openCounted n).judgeKind false n k { v.monitor n with openPv := 0 }).1.core k
      else ({ v.monitor n with openPv := 0 } : SeatMonitor).core k := by
    have all := (v.openCounted n).core_evaluateAll false (oneSeat n floorKinds) n k
    rw [← State.judges, State.judges_granted sitting bound, own] at all
    exact (agreesW.core_evaluate false _).trans ((if_neg fun here => hk here.1).trans all)
  have unwarned := (agreesW.evaluate false (oneSeat n floorKinds)).unwarned (n := n) (k := .openNoFloor)
    fun qualified => QState.noConfusion (opened.symm.trans qualified)
  refine ⟨PerKind.ext_get fun k => ?_, ?_, fun now => ?_, ?_, ?_, fun was => ?_⟩
  · cases k
    case openNoFloor => exact opened
    case mutedSpeech => rfl
    all_goals exact SeatMonitor.state_of_core (core _ (by simp))
  · have judged := core .mutedSpeech (by simp)
    rw [if_pos (show floorKinds.get .mutedSpeech = true from rfl)] at judged
    have speaks : v.mutedSpeechHolds n = ((v.seat n).mute == .muted && (v.seat n).voice) := by
      rw [State.mutedSpeechHolds, on, Bool.true_and]
    refine (SeatMonitor.figure_of_core judged).trans ((State.judgeMutedSpeech_event sitting).trans ?_)
    rw [speaks, silent]
    rfl
  · refine agreesW.warned_evaluate false _ (k := .mutedSpeech) ?_ now
    rw [own]
    exact fun was => QState.noConfusion (silent.symm.trans was)
  · exact unwarned.1
  · exact unwarned.2
  · obtain ⟨undue, record⟩ := agreesW.clearedReaches_evaluate (n := n) (k := .openNoFloor) false (oneSeat n floorKinds)
      (by rw [own]; exact was) (fun qualified => QState.noConfusion (opened.symm.trans qualified))
    exact ⟨undue, record⟩

end

/-! ## The other seats -/

section
variable (agrees : v.agrees) (other : m ≠ n)
include agrees other

omit agrees in
theorem State.unasked_granted (k : Kind) : (v.openCounted n).judges (oneSeat n floorKinds) m k = false := by
  simp [State.judges, oneSeat, other]

theorem State.agrees.monitor_granted_of_other :
    (v.granted n).monitor m = { v.monitor m with due := ((v.granted n).monitor m).due } := by
  refine ((State.agrees_openCounted agrees).monitor_evaluate_of_unasked (State.unasked_granted other)).trans ?_
  rw [State.monitor_openCounted, if_neg other]
  rfl

/-- A lasting fact about another seat outlasts a grant. -/
theorem State.lasting.granted {P : State → Prop} {k : Kind} (lasting : State.lasting m k P) (h : P v) :
    P (v.granted n) := by
  refine lasting.evaluate (State.agrees_openCounted agrees) (State.unasked_granted other k) (lasting.other ?_ h)
  have same : (v.openCounted n).monitor m = v.monitor m := by rw [State.monitor_openCounted, if_neg other]
  exact ⟨v.onlyMonitorAndList_putMonitor .., congrArg (fun w : SeatMonitor => w.due.get k) same, rfl,
    congrArg (SeatMonitor.core · k) same⟩

/-- What a withdrawal has made of a seat stands through the grant to another (R73, R130). -/
theorem State.withdrawnFrom.granted {u : State} (h : u.withdrawnFrom v m) :
    u.withdrawnFrom (v.granted n) m := by
  obtain ⟨monitor, cleared, warned⟩ := h
  have same := agrees.monitor_granted_of_other other
  refine ⟨?_, fun was => ?_, fun now => ?_⟩
  · rw [same, monitor]
  · obtain ⟨undue, record⟩ := cleared was
    have entry : v.entry (v.granted n) m .mutedSpeech (v.record m .mutedSpeech) ((v.monitor m).core .mutedSpeech) :=
      State.lasting.granted agrees other (v.lasting_entry m .mutedSpeech _ _)
        ⟨v.onlyMonitorAndList_refl, undue, rfl, rfl⟩
    exact ⟨entry.undue, entry.record.trans record⟩
  · have pv : (v.monitor m).openPv = (u.monitor m).openPv := (congrArg SeatMonitor.openPv monitor).trans rfl
    have state : (v.monitor m).state.openNoFloor = .qualified := by
      rw [same] at now
      exact now
    have fresh : v.fresh v m .openNoFloor (some ((u.monitor m).openPv / 4)) := by
      refine ⟨v.onlyMonitorAndList_refl, ?_, (warned state).imp_left fun due => ⟨due, ?_⟩⟩
      · rw [← pv]
        rfl
      · rw [← Option.not_isSome_iff_eq_none]
        intro held
        rw [agrees.owes.undue m .openNoFloor held] at due
        cases due
    have fresh := State.lasting.granted agrees other (v.lasting_fresh m .openNoFloor _) fresh
    exact fresh.warning.imp_left And.left

end

end

/-! ## The request (R130) -/

/-- What a grant settles of the qualifiers and the list in a lawful state, where `oldest` is the seat replaced. -/
def State.grantSettles (s t : State) (n : Seat) (oldest : Option Seat) : Prop :=
  (t.monitor n).state = { (s.monitor n).state with
      openNoFloor := .quiet, mutedSpeech := (t.monitor n).state.mutedSpeech }
    ∧ ((t.monitor n).state.mutedSpeech, (t.monitor n).mutedPv)
      = eventMove s.params.mutedSpeechQualify ((s.seat n).mute == .muted && (s.seat n).voice) false .quiet
        (s.monitor n).mutedPv
    ∧ ((t.monitor n).state.mutedSpeech = .qualified → t.warned n .mutedSpeech none)
    ∧ t.isDue n .openNoFloor = false ∧ (∀ r, t.record n .openNoFloor = some r → r.state = .clearedUnacked)
    ∧ (oldest = none → (s.monitor n).state.openNoFloor = .qualified → s.clearedReaches t n .openNoFloor)
    ∧ (∀ m, oldest = some m → s.withdrawnFrom t m)
    ∧ ∀ m, m ≠ n → oldest ≠ some m → t.monitor m = { s.monitor m with due := (t.monitor m).due }

/-- A seat off the floor of a lawful state has MUTED_SPEECH QUIET (R67). -/
theorem State.conditionLaw.silent_of_off {s : State} (law : s.conditionLaw) {n : Seat} (off : s.onFloor n = false) :
    (s.monitor n).state.mutedSpeech = .quiet := by
  obtain ⟨muted, -⟩ := law n
  by_contra active
  have speaks := (muted.1 active).2
  simp [State.mutedSpeechHolds, off] at speaks

section
variable {s v : State} {x : LinkId} {n : Seat} {floor : List FloorEntry}

/-- The state with another floor list, to whose end the seat has been put. -/
def State.joined (s : State) (x : LinkId) (n : Seat) (floor : List FloorEntry) : State :=
  { s.listening x with floor := floor ++ [⟨n, s.clock⟩] }

theorem State.onFloor_joined : (s.joined x n floor).onFloor n = true := by
  simp [State.onFloor, State.joined]

theorem State.agrees_joined (lawful : s.lawful) : (s.joined x n floor).agrees :=
  lawful.warningLaws.agrees.of_sameWarnings (State.sameWarnings_of_eq rfl rfl)

/-- A request that grants the floor to a seat (R130). -/
theorem State.request_grants (ready : s.ready x) (sitting : s.sitting = .sitting) (bound : s.bound n = true)
    (frame : (s.joined x n floor).onlyMonitorAndList v) {payload : List Byte} {oldest : Option Seat}
    (serves : serve .grantFloor x payload (s.listening x) = (v.granted n).grantAnswer .ok oldest)
    (settles : s.lawful → s.grantSettles (v.granted n) n oldest) :
    ∃ t : State, s.requestReaches x Request.grantFloor.code payload = t ∧ t.floor = floor ++ [⟨n, s.clock⟩]
      ∧ (t.monitor n).openPv = 0 ∧ (t.monitor n).state.openNoFloor = .quiet
      ∧ (s.lawful → s.grantSettles t n oldest)
      ∧ s.repliesIn t x 0x1E .ok (seatByte oldest :: floorBytes t.floor)
      ∧ t = { s with floor := t.floor, monitors := t.monitors, records := t.records, links := t.links } := by
  have whole := State.onlyMonitorAndList_trans frame (v.onlyMonitorAndList_granted n)
  obtain ⟨pv, quiet⟩ := State.opened_granted (v := v) (n := n)
    ((State.onlyMonitorAndList_sitting frame).trans sitting) ((State.onlyMonitorAndList_bound frame n).trans bound)
    ((State.onlyMonitorAndList_onFloor frame n).trans State.onFloor_joined)
  refine ⟨((v.granted n).grantAnswer .ok oldest).onLink x Request.grantFloor.code,
    (State.requestReaches_of_ready ready .grantFloor _).trans (congrArg (Served.onLink · x _) serves),
    State.onlyMonitorAndList_floor whole, pv, quiet, settles, State.repliesIn_onLink whole.2, ?_⟩
  obtain ⟨core, -⟩ := whole
  generalize v.granted n = w at core ⊢
  rw [core]
  rfl

/-- A grant with a place free (R73, R130). -/
theorem State.lawful.settles_joined (lawful : s.lawful) (sitting : s.sitting = .sitting) (bound : s.bound n = true)
    (off : s.onFloor n = false) : s.grantSettles ((s.joined x n floor).granted n) n none := by
  have agrees : (s.joined x n floor).agrees := State.agrees_joined lawful
  obtain ⟨state, muted, warned, undue, record, cleared⟩ := State.agrees.granted (v := s.joined x n floor) sitting bound
    State.onFloor_joined agrees (lawful.condition.silent_of_off off)
  exact ⟨state, muted, warned, undue, record, fun _ => cleared, nofun,
    fun m other _ => agrees.monitor_granted_of_other other⟩

/-- A grant that takes the place of the oldest (R73, R130). -/
theorem State.lawful.settles_replaced (lawful : s.lawful) (sitting : s.sitting = .sitting) (bound : s.bound n = true)
    (off : s.onFloor n = false) {oldest : FloorEntry} (held : s.floor = oldest :: floor) :
    s.grantSettles (((s.joined x n floor).withdrawn (· == oldest.seat)).granted n) n (some oldest.seat) := by
  have agrees : (s.joined x n floor).agrees := State.agrees_joined lawful
  have was : s.onFloor oldest.seat = true := by simp [State.onFloor, held]
  have apart : oldest.seat ≠ n := fun same => by
    rw [same, off] at was
    cases was
  have gone : (s.joined x n floor).onFloor oldest.seat = false := by
    obtain ⟨-, nodup, -⟩ := lawful.floor
    rw [held, List.map_cons, List.nodup_cons] at nodup
    have away : ∀ e ∈ floor, e.seat ≠ oldest.seat := fun e he same => nodup.1 (same ▸ List.mem_map_of_mem he)
    simpa [State.onFloor, State.joined, apart.symm] using away
  have withdrawn := State.agrees.withdrawnFrom (u := s.joined x n floor) (who := (· == oldest.seat))
    (beq_self_eq_true _) (lawful.condition.quiet_of_onFloor was) agrees sitting (lawful.floor.bound_of_onFloor was) gone
  have stays (m : Seat) (other : m ≠ oldest.seat) := agrees.monitor_withdrawn_of_other (who := (· == oldest.seat))
    (beq_eq_false_iff_ne.2 other)
  have frame := (s.joined x n floor).onlyMonitorAndList_withdrawn (· == oldest.seat)
  have agreesV : ((s.joined x n floor).withdrawn (· == oldest.seat)).agrees := agrees.evaluate ..
  generalize (s.joined x n floor).withdrawn (· == oldest.seat) = v at *
  have own := stays n apart.symm
  obtain ⟨state, muted, warned, undue, record, -⟩ := State.agrees.granted (v := v) (n := n)
    ((State.onlyMonitorAndList_sitting frame).trans sitting) ((State.onlyMonitorAndList_bound frame n).trans bound)
    ((State.onlyMonitorAndList_onFloor frame n).trans State.onFloor_joined) agreesV
    (by rw [own]; exact lawful.condition.silent_of_off off)
  rw [own] at state muted
  rw [State.onlyMonitorAndList_params frame, State.onlyMonitorAndList_seat frame] at muted
  refine ⟨state, muted, warned, undue, record, nofun, fun m same => ?_, fun m other apart' => ?_⟩
  · cases same
    exact State.withdrawnFrom.granted agreesV apart withdrawn
  · rw [agreesV.monitor_granted_of_other other, stays m fun same => apart' (congrArg some same.symm)]
    rfl

end

/-- Settles O42: the cases of R130, the grant after the withdrawal where the oldest is replaced. -/
theorem grantFloorByCases : Obligations.GrantFloorByCases := by
  unfold Obligations.GrantFloorByCases
  intro s x seat rest n ready role sitting hn
  have may := (s.presiding_listening x).trans (State.presiding_of_role role)
  refine ⟨fun unbound => ?_, fun bound => ⟨fun on => ?_, fun off room => ?_, fun off full refuse => ?_,
    fun oldest others off full replace held => ?_⟩⟩
  · refine congrArg Host.Outcome.next (State.requestReaches_of_answer ready (q := .grantFloor) ?_)
    simp only [serve, serveGrantFloor, may, State.sitting_listening, sitting, seatOf_eq_some hn, State.bound_listening,
      unbound, ne_eq, not_true_eq_false, Bool.not_true, Bool.not_false, Bool.false_eq_true, if_true, if_false]
    rfl
  · refine congrArg Host.Outcome.next (State.requestReaches_of_answer ready (q := .grantFloor) ?_)
    simp only [serve, serveGrantFloor, may, State.sitting_listening, sitting, seatOf_eq_some hn, State.bound_listening,
      bound, State.onFloor_listening, on, ne_eq, not_true_eq_false, Bool.not_true, Bool.false_eq_true, if_true, if_false]
    rfl
  · obtain ⟨t, reached, spec⟩ := State.request_grants (floor := s.floor) (v := s.joined x n s.floor) (oldest := none)
      (payload := seat :: rest) ready sitting bound (State.onlyMonitorAndList_refl _)
      (by
        simp only [serve, serveGrantFloor, may, State.sitting_listening, sitting, seatOf_eq_some hn,
          State.bound_listening, bound, State.onFloor_listening, off, State.floor_listening, State.params_listening,
          room, ne_eq, not_true_eq_false, Bool.not_true, Bool.false_eq_true, if_true, if_false]
        rfl)
      fun lawful => lawful.settles_joined sitting bound off
    exact ⟨t, congrArg Host.Outcome.next reached, spec⟩
  · refine congrArg Host.Outcome.next (State.requestReaches_of_answer ready (q := .grantFloor) ?_)
    have crowded : ¬s.floor.length < s.params.floorLimit := Nat.not_lt.2 full
    simp only [serve, serveGrantFloor, may, State.sitting_listening, sitting, seatOf_eq_some hn, State.bound_listening,
      bound, State.onFloor_listening, off, State.floor_listening, State.params_listening, crowded, refuse, ne_eq,
      not_true_eq_false, Bool.not_true, Bool.false_eq_true, if_true, if_false]
    rfl
  · obtain ⟨t, reached, spec⟩ := State.request_grants (floor := others)
      (v := (s.joined x n others).withdrawn (· == oldest.seat)) (oldest := some oldest.seat) (payload := seat :: rest)
      ready sitting bound (State.onlyMonitorAndList_withdrawn ..)
      (by
        have crowded : ¬s.floor.length < s.params.floorLimit := Nat.not_lt.2 full
        simp only [serve, serveGrantFloor, may, State.sitting_listening, sitting, seatOf_eq_some hn,
          State.bound_listening, bound, State.onFloor_listening, off, State.floor_listening, State.params_listening,
          crowded, replace, ne_eq, not_true_eq_false, Bool.not_true, Bool.false_eq_true, if_false]
        simp only [held]
        rw [← sitting]
        rfl)
      fun lawful => lawful.settles_replaced sitting bound off held
    exact ⟨t, congrArg Host.Outcome.next reached, spec⟩

end Sys2Proof.Machine
end

section
/-! The clearings of one event: all the records change as their outcomes say, and then due marks are admitted (R86, R88,
R89). -/

namespace Sys2Proof.Machine

/-- Clearings of active records, whose OPEN_NO_FLOOR qualifiers the monitor has already settled. -/
structure State.clears (s : State) (os : List HandedOutcome) : Prop where
  owes : s.owes os
  single : os.Pairwise fun a b => ¬(a.seat = b.seat ∧ a.kind = b.kind)
  verdict : ∀ o ∈ os, o.verdict = .cleared
  active : ∀ o ∈ os, ∃ r ∈ s.record o.seat o.kind, r.state ≠ .clearedUnacked
  settled : ∀ o ∈ os, o.kind = .openNoFloor →
    (s.monitor o.seat).openPv = 0 ∧ (s.monitor o.seat).state.openNoFloor = s.openRestart o.seat

/-- What one clearing makes of a record (R86). -/
def clearOf (clock : Nat) (o : HandedOutcome) (r : Record) : Option Record :=
  if r.isFor o.seat o.kind then clearedRecord clock (some r) else some r

/-- What several clearings make of a record (R86). -/
def clearAll (clock : Nat) (os : List HandedOutcome) (r : Record) : Option Record :=
  if os.any (fun o => r.isFor o.seat o.kind) then clearedRecord clock (some r) else some r

section
variable {s t : State} {o : HandedOutcome} {os : List HandedOutcome}

/-! ## One clearing -/

/-- A removal tells the monitor nothing new where OPEN_NO_FLOOR rests at 0 (R74, R88). -/
theorem State.removeRecord_of_settled {n : Seat} {k : Kind} (undue : s.isDue n k = false)
    (settled : k = .openNoFloor → (s.monitor n).openPv = 0 ∧ (s.monitor n).state.openNoFloor = s.openRestart n) :
    s.removeRecord n k = { s with records := recordsBut n k s.records } := by
  by_cases opened : k = .openNoFloor
  · subst opened
    obtain ⟨pv, state⟩ := settled rfl
    have due : (s.monitor n).due.openNoFloor = false := undue
    have same : s.openRemoved n = s.monitor n := by
      simp only [State.openRemoved, SeatMonitor.openReset, PerKind.set, ← state, ← pv]
      rw [← due]
    rw [State.removeRecord_openNoFloor, same]
    simp [State.putMonitor, State.monitor]
  · exact s.removeRecord_of_ne n opened

theorem State.clears.applyOutcome_head (h : s.clears (o :: os)) :
    s.applyOutcome o = { s with records := s.records.filterMap (clearOf s.clock o) } := by
  obtain ⟨r, found, active⟩ := h.active o List.mem_cons_self
  have verdict := h.verdict o List.mem_cons_self
  obtain ⟨mem, seat, kind⟩ := State.mem_of_record found
  have key {q : Record} (held : q ∈ s.records) : q.isFor o.seat o.kind = true ↔ q = r := by
    rw [← seat, ← kind]
    exact State.isFor_iff_eq h.owes.list mem held
  have own := (key mem).2 rfl
  cases state : r.state with
  | clearedUnacked => exact absurd state active
  | activeUnacked =>
    rw [State.applyOutcome_cleared_unacked verdict found state, State.updateRecord]
    congr 1
    rw [← List.filterMap_eq_map']
    refine List.filterMap_congr fun q held => ?_
    by_cases same : q = r
    · simp [clearOf, own, clearedRecord, same, state]
    · simp [clearOf, Bool.eq_false_iff.2 (mt (key held).1 same)]
  | activeAcked =>
    rw [State.applyOutcome_cleared_acked verdict found state, State.removeRecord_of_settled (h.owes.owed o List.mem_cons_self)
      (h.settled o List.mem_cons_self), recordsBut, ← congrFun List.filterMap_eq_filter s.records]
    congr 1
    refine List.filterMap_congr fun q held => ?_
    by_cases same : q = r
    · simp [clearOf, own, clearedRecord, same, state, Option.guard]
    · simp [clearOf, Bool.eq_false_iff.2 (mt (key held).1 same), Option.guard]

/-- What a clearing reads stays where its (seat, kind) is not touched. -/
theorem State.clears.of_untouched (h : s.clears os) {ps : List HandedOutcome} (sub : ps.Sublist os) (owes : t.owes ps)
    (untouched : ∀ o ∈ ps, s.untouched t o.seat o.kind) : t.clears ps := by
  refine ⟨owes, h.single.sublist sub, fun o ho => h.verdict o (sub.subset ho), fun o ho => ?_, fun o ho opened => ?_⟩
  · rw [(untouched o ho).record]
    exact h.active o (sub.subset ho)
  · have core := (untouched o ho).core
    rw [opened] at core
    rw [State.onlyMonitorAndList_openRestart (untouched o ho).frame]
    obtain ⟨pv, state⟩ := h.settled o (sub.subset ho) opened
    exact ⟨(SeatMonitor.pv_of_core core).trans pv, (SeatMonitor.state_of_core core).trans state⟩

theorem State.clears.untouched_head (h : s.clears (o :: os)) {p : HandedOutcome} (hp : p ∈ os) :
    s.untouched (s.applyOutcome o) p.seat p.kind :=
  State.untouched_applyOutcome (h.owes.owed o List.mem_cons_self) fun same =>
    (List.pairwise_cons.1 h.single).1 p hp ⟨same.1.symm, same.2.symm⟩

theorem State.clears.tail (h : s.clears (o :: os)) : (s.applyOutcome o).clears os :=
  h.of_untouched (List.sublist_cons_self ..) h.owes.applyOutcome fun _ hp => h.untouched_head hp

theorem State.clears.untouched_fillFreed (h : s.clears os) (ho : o ∈ os) : s.untouched s.fillFreed o.seat o.kind := by
  have undue := h.owes.owed o ho
  have entry := (s.lasting_entry o.seat o.kind _ _).filled (s := s) ⟨s.onlyMonitorAndList_refl, undue, rfl, rfl⟩
  exact ⟨entry.frame, entry.undue.trans undue.symm, entry.record, entry.core⟩

theorem State.clears.fillFreed (h : s.clears os) : s.fillFreed.clears os :=
  h.of_untouched (List.Sublist.refl _) h.owes.fillFreed.1 fun _ ho => h.untouched_fillFreed ho

theorem State.removes_congr (same : s.untouched t o.seat o.kind) : t.removes o = s.removes o := by
  rw [State.removes, State.removes, same.record]

/-! ## Clearings and admission -/

/-- Records that a change leaves alone may be admitted before it. -/
theorem State.fillPlaces_filterMap (g : Record → Option Record) (places : Nat) :
    ∀ {s : State}, (∀ r : Record, s.isDue r.seat r.kind = true → g r = some r) →
      State.fillPlaces places { s with records := s.records.filterMap g }
        = { State.fillPlaces places s with records := (State.fillPlaces places s).records.filterMap g } := by
  induction places with
  | zero => exact fun _ => rfl
  | succ places ih =>
    intro s keeps
    rw [State.fillPlaces, State.fillPlaces]
    have same : ({ s with records := s.records.filterMap g } : State).firstDue = s.firstDue := rfl
    rw [same]
    split
    · rfl
    · next n k first =>
      have due := State.isDue_of_firstDue first
      have keeps' : ∀ r : Record, (s.admitMark n k).isDue r.seat r.kind = true → g r = some r := fun r hr => by
        refine keeps r ?_
        have put : (s.admitMark n k).isDue r.seat r.kind = if r.seat = n ∧ r.kind = k then false else s.isDue r.seat r.kind :=
          s.isDue_putDue n r.seat k r.kind false
        rw [put] at hr
        split at hr
        · cases hr
        · exact hr
      refine Eq.trans ?_ (ih keeps')
      congr 1
      have admitted := keeps (newRecord s.params s.clock n k (gradeOf k (s.monitor n))
        (detailOf k (s.seat n) (s.monitor n))) due
      simp only [State.admitMark, State.appendRecord, List.filterMap_append, List.filterMap_cons, List.filterMap_nil,
        admitted]
      rfl

theorem State.clears.keeps_due (h : s.clears (o :: os)) (clock : Nat) (r : Record) (due : s.isDue r.seat r.kind = true) :
    clearOf clock o r = some r := by
  refine if_neg fun own => ?_
  obtain ⟨seat, kind⟩ := (Record.isFor_iff ..).1 own
  rw [seat, kind, h.owes.owed o List.mem_cons_self] at due
  cases due

theorem State.clears.length_head (h : s.clears (o :: os)) (stays : s.removes o = false) :
    (s.applyOutcome o).records.length = s.records.length := by
  obtain ⟨r, found, active⟩ := h.active o List.mem_cons_self
  have verdict := h.verdict o List.mem_cons_self
  have state : r.state = .activeUnacked := by
    rw [Option.mem_def] at found
    rw [State.removes, verdict, found] at stays
    revert stays active
    cases state : r.state <;> simp [state]
  rw [State.applyOutcome_cleared_unacked verdict found state, State.updateRecord_records, List.length_map]

/-- A clearing that takes no record out may be taken before or after an admission. -/
theorem State.clears.applyOutcome_fillFreed (h : s.clears (o :: os)) (stays : s.removes o = false) :
    s.fillFreed.applyOutcome o = (s.applyOutcome o).fillFreed := by
  have clock : s.fillFreed.clock = s.clock := State.onlyMonitorAndList_clock s.onlyMonitorAndList_fillFreed
  have after : (s.applyOutcome o).fillFreed
      = { s.fillFreed with records := s.fillFreed.records.filterMap (clearOf s.clock o) } := by
    rw [State.fillFreed, h.length_head stays, h.applyOutcome_head]
    exact State.fillPlaces_filterMap _ _ (h.keeps_due s.clock)
  rw [h.fillFreed.applyOutcome_head, after]
  simp only [clock]

theorem State.clears.foldl_fillFreed (os : List HandedOutcome) : ∀ {s : State}, s.clears os →
    (∀ o ∈ os, s.removes o = false) → os.foldl State.applyOutcome s.fillFreed
      = (os.foldl State.applyOutcome s).fillFreed := by
  induction os with
  | nil => exact fun _ _ => rfl
  | cons o os ih =>
    intro s h stays
    rw [List.foldl_cons, List.foldl_cons, h.applyOutcome_fillFreed (stays o List.mem_cons_self)]
    refine ih h.tail fun p hp => ?_
    rw [State.removes_congr (h.untouched_head hp)]
    exact stays p (List.mem_cons_of_mem _ hp)

theorem State.clears.owes_foldl (os : List HandedOutcome) : ∀ {s : State}, s.clears os →
    (os.foldl State.applyOutcome s).owes [] := by
  induction os with
  | nil => exact fun h => h.owes
  | cons o os ih => exact fun h => ih h.tail

/-- The clearings of one event are all taken, and then due marks are admitted (R88). -/
theorem State.clears.applyHanded (os : List HandedOutcome) : ∀ {freed : Bool} {s : State}, s.clears os →
    (freed = true → os.any s.removes = true) → (freed = false → s.full) →
      s.applyHanded freed os = (os.foldl State.applyOutcome s).fillFreed := by
  induction os with
  | nil =>
    intro freed s _ later full
    cases freed with
    | true => cases later rfl
    | false => exact (State.fillFreed_of_full (full rfl)).symm
  | cons o os ih =>
    intro freed s h later full
    have same (p : HandedOutcome) (hp : p ∈ os) : (s.applyOutcome o).removes p = s.removes p :=
      State.removes_congr (h.untouched_head hp)
    simp only [State.applyHanded, List.foldl_cons]
    split
    · split
      · next more => exact ih h.tail (fun _ => more) (by simp)
      · next last =>
        have stays : ∀ p ∈ os, (s.applyOutcome o).removes p = false := by simpa using last
        have filled := h.owes.applyOutcome.fillFreed
        rw [ih h.tail.fillFreed (by simp) (fun _ => filled.2), State.clears.foldl_fillFreed os h.tail stays]
        exact State.fillFreed_of_full (h.tail.owes_foldl os).fillFreed.2
    · next none =>
      obtain ⟨unfreed, stays⟩ : freed = false ∧ s.removes o = false := by simpa using none
      exact ih h.tail (by simp) fun _ => State.full_applyOutcome (full unfreed) stays h.owes.list

/-- The records that the clearings of one event leave (R86). -/
theorem State.clears.foldl_eq (os : List HandedOutcome) : ∀ {s : State}, s.clears os →
    os.foldl State.applyOutcome s = { s with records := s.records.filterMap (clearAll s.clock os) } := by
  induction os with
  | nil =>
    intro s _
    have none : clearAll s.clock [] = some := rfl
    rw [none, List.filterMap_some]
    rfl
  | cons o os ih =>
    intro s h
    rw [List.foldl_cons, ih h.tail, h.applyOutcome_head]
    simp only [List.filterMap_filterMap]
    congr 1
    refine List.filterMap_congr fun r _ => ?_
    by_cases own : r.isFor o.seat o.kind = true
    · have others : ∀ q : Record, q.seat = r.seat → q.kind = r.kind → os.any (fun p => q.isFor p.seat p.kind) = false := by
        intro q seat kind
        obtain ⟨seatR, kindR⟩ := (Record.isFor_iff ..).1 own
        refine List.any_eq_false.2 fun p hp same => ?_
        obtain ⟨seatQ, kindQ⟩ := (Record.isFor_iff ..).1 same
        exact (List.pairwise_cons.1 h.single).1 p hp
          ⟨seatR.symm.trans (seat.symm.trans seatQ), kindR.symm.trans (kind.symm.trans kindQ)⟩
      by_cases unacked : r.state = .activeUnacked
      · have first : clearOf s.clock o r = some (r.clearing s.clock) := by simp [clearOf, own, clearedRecord, unacked]
        have later : clearAll s.clock os (r.clearing s.clock) = some (r.clearing s.clock) :=
          if_neg (Bool.eq_false_iff.1 (others (r.clearing s.clock) rfl rfl))
        rw [first, Option.bind_some, later]
        simp [clearAll, own, clearedRecord, unacked]
      · simp [clearOf, clearAll, own, clearedRecord, unacked]
    · simp [clearOf, clearAll, own]

/-- What an event of clearings makes of a list in agreement (R86, R88). -/
theorem State.clears.applyOutcomes (h : s.clears os) (full : s.full) :
    s.applyOutcomes os = ({ s with records := s.records.filterMap (clearAll s.clock os) } : State).fillFreed := by
  rw [State.applyOutcomes, State.clears.applyHanded os h (by simp) fun _ => full, State.clears.foldl_eq os h]

end

end Sys2Proof.Machine
end

section
/-! RECESS and RESUME (R71, R126, R127). -/

namespace Sys2Proof.Machine

/-! ## RECESS -/

/-- The part as RECESS puts it before the monitor's work (R126). -/
def State.recessed (s : State) (x : LinkId) : State := { s.listening x with sitting := .recess, floor := [] }

/-- The two FLOOR-class kinds. -/
def floorClass (k : Kind) : Bool := k == .mutedSpeech || k == .openNoFloor

section
variable {s : State} {n : Seat} {k : Kind}

theorem State.mem_recessKinds : k ∈ s.recessKinds n ↔ s.bound n = true ∧ floorClass k = true := by
  rw [State.recessKinds]
  split
  · next bound => simp [floorClass, bound]
  · next off => simp [off]

theorem State.isDue_recessSettled : s.recessSettled.isDue n k = (s.isDue n k && !(s.bound n && floorClass k)) := by
  rw [State.isDue, State.monitor_recessSettled]
  by_cases bound : s.bound n = true
  · rw [if_pos bound, bound]
    cases k <;> simp [SeatMonitor.enterRecess, floorClass, PerKind.get, State.isDue]
  · rw [if_neg bound]
    simp [bound, State.isDue]

/-- RECESS hands clearings of active records alone, the OPEN_NO_FLOOR qualifiers being at 0 already (R71). -/
theorem State.agrees.clears_recess (agrees : s.agrees) (recess : s.sitting = .recess) :
    s.recessSettled.clears (s.clearings s.recessKinds) := by
  have frame : s.onlyMonitorAndList s.recessSettled := s.onlyMonitorAndList_mapMonitors _
  refine ⟨(s.quiets_recessSettled.handing agrees).owes, s.clearings_pairwise s.quiets_recessSettled.nodup,
    State.clearings_cleared, fun o ho => ?_, fun o ho opened => ?_⟩
  · obtain ⟨-, qualified, undue, -⟩ := State.mem_clearings.1 ho
    obtain ⟨r, found, active⟩ := agrees.active qualified undue
    exact ⟨r, (s.record_mapMonitors _ o.seat o.kind).trans found, active⟩
  · obtain ⟨kind, -⟩ := State.mem_clearings.1 ho
    rw [State.monitor_recessSettled, if_pos (State.mem_recessKinds.1 kind).1,
      State.onlyMonitorAndList_openRestart frame]
    simp [SeatMonitor.enterRecess, State.openRestart, recess]

/-- In a lawful state RECESS clears the active records of the FLOOR-class kinds (R58, R71). -/
theorem State.agrees.any_clearings_recess (agrees : s.agrees) (unbound : s.unboundLaw) {r : Record}
    (mem : r ∈ s.records) : (s.clearings s.recessKinds).any (fun o => r.isFor o.seat o.kind)
      = (floorClass r.kind && r.active) := by
  have found := State.record_of_mem agrees.owes.list mem
  have undue := agrees.owes.undue r.seat r.kind (by rw [found]; rfl)
  rw [Bool.eq_iff_iff, List.any_eq_true, Bool.and_eq_true]
  constructor
  · rintro ⟨o, ho, own⟩
    obtain ⟨seat, kind⟩ := (Record.isFor_iff ..).1 own
    obtain ⟨asked, qualified, -⟩ := State.mem_clearings.1 ho
    rw [← seat, ← kind] at asked qualified
    obtain ⟨q, held, active⟩ := agrees.active qualified undue
    rw [found] at held
    cases held
    exact ⟨(State.mem_recessKinds.1 asked).2, (Record.active_iff r).2 active⟩
  · rintro ⟨floor, active⟩
    have bound : s.bound r.seat = true := by
      by_contra off
      have pack : (s.seat r.seat).pack = none := by simpa [State.bound] using off
      rw [(unbound r.seat pack).1 r mem rfl] at active
      cases active
    have qualified := (agrees.owes.qualified r.seat r.kind).2
      ((State.owesQualified_nil ..).2 (State.warns_of_active found active))
    exact ⟨⟨r.seat, r.kind, .cleared, none, none⟩,
      State.mem_clearings.2 ⟨State.mem_recessKinds.2 ⟨bound, floor⟩, qualified, undue, rfl⟩,
      (Record.isFor_iff ..).2 ⟨rfl, rfl⟩⟩

/-- What RECESS makes of a record (R71, R86). -/
def recessRecord (clock : Nat) (r : Record) : Option Record :=
  if floorClass r.kind && r.active then clearedRecord clock (some r) else some r

/-- The due marks that RECESS leaves, but for those that it admits (R71). -/
def State.recessMarks (s : State) : List (Seat × Kind) := s.dueMarks.filter fun m => !floorClass m.2

theorem State.dueMarks_filter {t : State} (p : Seat × Kind → Bool) (same : ∀ n k, t.isDue n k = (s.isDue n k && p (n, k))) :
    t.dueMarks = s.dueMarks.filter p := by
  rw [State.dueMarks, State.dueMarks, List.filter_flatMap]
  refine List.flatMap_congr fun n _ => ?_
  rw [List.filter_map, List.filter_filter]
  refine congrArg _ (List.filter_congr fun k _ => ?_)
  rw [same]
  exact Bool.and_comm ..

theorem State.dueMarks_recessSettled (unbound : s.unboundLaw) : s.recessSettled.dueMarks = s.recessMarks := by
  refine State.dueMarks_filter _ fun n k => ?_
  rw [State.isDue_recessSettled]
  by_cases bound : s.bound n = true
  · rw [bound, Bool.true_and]
  · have pack : (s.seat n).pack = none := by simpa [State.bound] using bound
    rw [((unbound n pack).2 k (mem_allKinds k)).1, Bool.false_and, Bool.false_and]

/-- The due marks that stay are not of the kinds that RECESS settles. -/
theorem State.admitted_recessSettled (places : Nat) :
    s.recessSettled.admitted (s.recessMarks.take places) = s.admitted (s.recessMarks.take places) := by
  have frame : s.onlyMonitorAndList s.recessSettled := s.onlyMonitorAndList_mapMonitors _
  refine List.map_congr_left fun m mem => ?_
  have other := (List.mem_filter.1 (List.mem_of_mem_take mem)).2
  rw [State.onlyMonitorAndList_params frame, State.onlyMonitorAndList_clock frame, State.onlyMonitorAndList_seat frame,
    State.monitor_recessSettled]
  split
  · revert other
    cases m.2 <;> simp [floorClass, gradeOf, detailOf, SeatMonitor.enterRecess]
  · rfl

/-- Neither the due marks nor what they are admitted as reads the list. -/
theorem State.marks_withRecords (s : State) (rs : List Record) : ({ s with records := rs } : State).dueMarks = s.dueMarks
    ∧ ({ s with records := rs } : State).admitted = s.admitted ∧ ({ s with records := rs } : State).isDue = s.isDue
    ∧ ({ s with records := rs } : State).monitor = s.monitor :=
  ⟨rfl, rfl, rfl, rfl⟩

theorem State.core_fillFreed (s : State) (n : Seat) (k : Kind) : (s.fillFreed.monitor n).core k = (s.monitor n).core k :=
  State.core_fillPlaces _ n k s

/-- The monitor's and the list's part of RECESS (R71, R86, R88 to R90). -/
theorem State.agrees.recessMonitors_spec (agrees : s.agrees) (unbound : s.unboundLaw) (recess : s.sitting = .recess) :
    s.recessMonitors.records = s.records.filterMap (recessRecord s.clock)
        ++ s.admitted (s.recessMarks.take (48 - (s.records.filterMap (recessRecord s.clock)).length))
      ∧ (∀ n k, s.recessMonitors.isDue n k = (s.recessMarks.contains (n, k)
        && !(s.recessMarks.take (48 - (s.records.filterMap (recessRecord s.clock)).length)).contains (n, k)))
      ∧ ∀ n k, (s.recessMonitors.monitor n).core k = (s.recessSettled.monitor n).core k := by
  have clears := agrees.clears_recess recess
  have records : s.recessSettled.records.filterMap (clearAll s.recessSettled.clock (s.clearings s.recessKinds))
      = s.records.filterMap (recessRecord s.clock) := by
    rw [show s.recessSettled.records = s.records from State.mapMonitors_records ..,
      show s.recessSettled.clock = s.clock from State.mapMonitors_clock ..]
    refine List.filterMap_congr fun r mem => ?_
    rw [clearAll, agrees.any_clearings_recess unbound mem]
    rfl
  have marks := State.dueMarks_recessSettled unbound
  have waiting (n : Seat) (k : Kind) : s.recessSettled.isDue n k = s.recessMarks.contains (n, k) := by
    rw [Bool.eq_iff_iff, List.contains_iff_mem, ← marks, State.mem_dueMarks]
  rw [State.recessMonitors_eq, clears.applyOutcomes (s.quiets_recessSettled.handing agrees).full, records]
  obtain ⟨spec, due⟩ := State.fillFreed_spec { s.recessSettled with records := s.records.filterMap (recessRecord s.clock) }
  obtain ⟨sameMarks, sameFigures, sameDue, sameMonitor⟩ := s.recessSettled.marks_withRecords (s.records.filterMap (recessRecord s.clock))
  rw [sameMarks, marks, sameFigures, State.admitted_recessSettled] at spec
  rw [sameMarks, marks, sameDue] at due
  simp only [waiting] at due
  refine ⟨spec, due, fun n k => (State.core_fillFreed _ n k).trans ?_⟩
  rw [sameMonitor]

end

section
variable {s : State} {x : LinkId}

theorem serve_recess (may : s.presiding x = true) (sitting : s.sitting = .sitting) (rest : List Byte) :
    serve .recess x rest s = ({ s with sitting := .recess, floor := [] } : State).recessMonitors.answer .ok
      ([0x02] ++ bytes3 s.clock ++ [byte s.floor.length]) := by
  have frame := ({ s with sitting := .recess, floor := [] } : State).onlyMonitorAndList_recessMonitors
  simp only [serve, serveRecess, may, sitting, ne_eq, not_true_eq_false, Bool.not_true, Bool.false_eq_true, if_false,
    State.onlyMonitorAndList_sitting frame, State.onlyMonitorAndList_clock frame]
  rfl

/-- What RECESS makes of the FLOOR-class qualifiers of a bound seat (R71). -/
theorem State.agrees.recessMonitors_bound (agrees : s.agrees) (unbound : s.unboundLaw) (recess : s.sitting = .recess)
    {n : Seat} (bound : s.bound n = true) : (s.recessMonitors.monitor n).state
        = { (s.monitor n).state with mutedSpeech := .quiet, openNoFloor := .quiet }
      ∧ (s.recessMonitors.monitor n).mutedPv = s.params.mutedSpeechQualify ∧ (s.recessMonitors.monitor n).openPv = 0
      ∧ s.recessMonitors.isDue n .mutedSpeech = false ∧ s.recessMonitors.isDue n .openNoFloor = false := by
  obtain ⟨-, due, core⟩ := agrees.recessMonitors_spec unbound recess
  have settled : s.recessSettled.monitor n = (s.monitor n).enterRecess s.params := by
    rw [State.monitor_recessSettled, if_pos bound]
  have undue (k : Kind) (floor : floorClass k = true) : s.recessMonitors.isDue n k = false := by
    rw [due]
    have gone : s.recessMarks.contains (n, k) = false := by
      rw [Bool.eq_false_iff, ne_eq, List.contains_iff_mem, State.recessMarks, List.mem_filter]
      simp [floor]
    rw [gone, Bool.false_and]
  have core := core n
  simp only [settled] at core
  refine ⟨PerKind.ext_get fun k => (SeatMonitor.state_of_core (core k)).trans ?_,
    SeatMonitor.pv_of_core (core .mutedSpeech), SeatMonitor.pv_of_core (core .openNoFloor),
    undue .mutedSpeech rfl, undue .openNoFloor rfl⟩
  cases k <;> rfl

/-! ## RESUME -/

/-- RESUME judges the FLOOR-class kinds of every seat (R127). -/
theorem State.core_resumed (resting : ∀ n k, floorClass k = true → (s.monitor n).state.get k = .quiet)
    (zero : ∀ n, (s.monitor n).openPv = 0) (empty : s.floor = []) (sitting : s.sitting = .sitting)
    (limit : 0 < s.params.openNoFloorLimit) (n : Seat) (k : Kind) :
    ((s.evaluateAll false (everySeat floorKinds)).monitor n).core k = ({ s.monitor n with
      state := { (s.monitor n).state with
        mutedSpeech := .quiet
        openNoFloor := if s.bound n = true ∧ (s.seat n).mute = .opened then .qualifying else .quiet } }
      : SeatMonitor).core k := by
  have off : s.onFloor n = false := by simp [State.onFloor, empty]
  have core := s.core_evaluateAll false (everySeat floorKinds) n k
  have muted := resting n .mutedSpeech rfl
  have opened := resting n .openNoFloor rfl
  by_cases bound : s.bound n = true
  · have on : s.evaluates n = true := State.evaluates_of_bound bound (by simp [sitting])
    rw [on, Bool.true_and] at core
    rw [core]
    cases k with
    | battery | batteryShortfall | signalWeak | dropouts | signalLost => rfl
    | mutedSpeech =>
      refine SeatMonitor.core_of_figure rfl ((State.judgeMutedSpeech_event sitting).trans ?_)
      have silent : s.mutedSpeechHolds n = false := by simp [State.mutedSpeechHolds, off]
      rw [silent, show (s.monitor n).state.mutedSpeech = .quiet from muted]
      rfl
    | openNoFloor =>
      refine SeatMonitor.core_of_figure rfl (Prod.ext ?_ State.judgeOpenNoFloor_event_pv)
      have holds := s.openNoFloorHolds_iff n
      by_cases mute : (s.seat n).mute = .opened
      · refine (State.judgeOpenNoFloor_event_on sitting (holds.2 ⟨mute, off⟩) opened).trans ?_
        rw [if_neg (by rw [zero n]; omega)]
        simp [SeatMonitor.figure, PerKind.get, bound, mute]
      · refine (State.judgeOpenNoFloor_event_off sitting (Bool.eq_false_iff.2 fun h => mute (holds.1 h).1)).trans ?_
        simp [SeatMonitor.figure, PerKind.get, mute]
  · have on : s.evaluates n = false := by simp [State.evaluates, bound]
    rw [on, Bool.false_and, if_neg (by simp)] at core
    rw [core]
    cases k with
    | battery | batteryShortfall | signalWeak | dropouts | signalLost => rfl
    | mutedSpeech => exact SeatMonitor.core_of_figure rfl (Prod.ext muted rfl)
    | openNoFloor => exact SeatMonitor.core_of_figure rfl (Prod.ext (opened.trans (by simp [bound, SeatMonitor.figure, PerKind.get])) rfl)

theorem State.evaluate_of_no_outcomes {tick : Bool} {kinds : Seat → PerKind Bool}
    (none : ∀ n k, s.verdict tick kinds n k = none) : s.evaluate tick kinds = s.evaluateAll tick kinds := by
  have outcomes : s.outcomes tick kinds = [] := by
    refine List.eq_nil_iff_forall_not_mem.2 fun o ho => ?_
    have own := (s.verdict_of_mem_outcomes tick kinds ho).1
    rw [none] at own
    cases own
  rw [State.evaluate, outcomes]
  rfl

/-- RESUME leaves no qualifier otherwise than QUIET or QUALIFYING, and hands on nothing (R127). -/
theorem State.resumed_spec (resting : ∀ n k, floorClass k = true → (s.monitor n).state.get k = .quiet)
    (zero : ∀ n, (s.monitor n).openPv = 0) (empty : s.floor = []) (sitting : s.sitting = .sitting)
    (limit : 0 < s.params.openNoFloorLimit) :
    s.evaluate false (everySeat floorKinds) = s.evaluateAll false (everySeat floorKinds)
      ∧ ∀ n, (s.evaluateAll false (everySeat floorKinds)).monitor n = { s.monitor n with
        state := { (s.monitor n).state with
          mutedSpeech := .quiet
          openNoFloor := if s.bound n = true ∧ (s.seat n).mute = .opened then .qualifying else .quiet } } := by
  have core := State.core_resumed resting zero empty sitting limit
  have none (n : Seat) (k : Kind) : s.verdict false (everySeat floorKinds) n k = none := by
    by_cases floor : floorClass k = true
    · obtain ⟨raised, cleared, rise⟩ := s.verdict_fits false (everySeat floorKinds) n k
      have was := resting n k floor
      have now := SeatMonitor.state_of_core (core n k)
      have off : ((s.evaluateAll false (everySeat floorKinds)).monitor n).state.get k ≠ .qualified := by
        rw [now]
        revert floor
        cases k <;> simp only [floorClass, PerKind.get] <;> (try split) <;> simp
      cases verdict : s.verdict false (everySeat floorKinds) n k with
      | none => rfl
      | some v =>
        rw [verdict, was] at raised cleared rise
        cases v
        · exact absurd (raised.1 rfl).2 off
        · cases (rise rfl).2.1
        · cases (cleared.1 rfl).1
    · refine State.verdict_of_unasked ?_
      revert floor
      cases k <;> simp [floorClass, State.judges, everySeat, floorKinds, PerKind.get]
  refine ⟨State.evaluate_of_no_outcomes none, fun n => ?_⟩
  have due : ((s.evaluateAll false (everySeat floorKinds)).monitor n).due = (s.monitor n).due :=
    PerKind.ext_get fun k => (s.isDue_evaluateAll false (everySeat floorKinds) n k).trans (by simp [none n k, State.isDue])
  refine (SeatMonitor.ext_core (core n)).trans ?_
  rw [due]

/-- RESUME as it answers (R127). -/
theorem serve_resume (may : s.presiding x = true) (recess : s.sitting = .recess) (rest : List Byte) :
    serve .resume x rest s = (({ s with sitting := .sitting } : State).evaluate false (everySeat floorKinds)).answer .ok
      ([0x01] ++ bytes3 s.clock) := by
  have frame := ({ s with sitting := .sitting } : State).onlyMonitorAndList_evaluate false (everySeat floorKinds)
  simp only [serve, serveResume, may, recess, ne_eq, not_true_eq_false, Bool.not_true, Bool.false_eq_true, if_false,
    State.onlyMonitorAndList_sitting frame, State.onlyMonitorAndList_clock frame]
  rfl

end

/-- Settles O40: RECESS by its clearings, and RESUME by an evaluation that hands on no outcome. -/
theorem recessAndResume : Obligations.RecessAndResume := by
  unfold Obligations.RecessAndResume
  refine ⟨fun s x rest lawful ready role sitting => ?_, fun s x rest lawful ready role recess => ?_⟩
  all_goals have may := (s.presiding_listening x).trans (State.presiding_of_role role)
  · let u : State := s.recessed x
    have agrees : u.agrees := lawful.warningLaws.agrees.of_sameWarnings (State.sameWarnings_of_eq rfl rfl)
    obtain ⟨records, due, -⟩ := agrees.recessMonitors_spec lawful.unbound rfl
    have frame := u.onlyMonitorAndList_recessMonitors
    have serves : serve .recess x rest (s.listening x) = u.recessMonitors.answer .ok
      ([0x02] ++ bytes3 s.clock ++ [byte s.floor.length]) := serve_recess may sitting rest
    refine ⟨_, congrArg Host.Outcome.next ((State.requestReaches_of_ready ready .recess _).trans
      (congrArg (Served.onLink · x _) serves)), State.onlyMonitorAndList_sitting frame,
      State.onlyMonitorAndList_floor frame, fun n bound => agrees.recessMonitors_bound lawful.unbound rfl bound, ?_,
      State.repliesIn_onLink frame.2, ?_⟩
    · intro kept marks
      have records' : kept = s.records.filterMap (recessRecord s.clock) := List.filterMap_congr fun r _ => by
        have floors : floorClass r.kind = true ↔ r.kind = .mutedSpeech ∨ r.kind = .openNoFloor := by simp [floorClass]
        by_cases floor : r.kind = .mutedSpeech ∨ r.kind = .openNoFloor
        · rw [recessRecord, clearedRecord, Record.active, floors.2 floor, if_pos floor]
          cases state : r.state <;> simp [state] <;> rfl
        · rw [recessRecord, Bool.eq_false_iff.2 (mt floors.1 floor), if_neg floor]
          rfl
      have marks' : marks = s.recessMarks := List.filter_congr fun m _ => by
        cases m.2 <;> rfl
      rw [records', marks']
      exact ⟨records, due⟩
    · obtain ⟨core, -⟩ := frame
      generalize u.recessMonitors = v at core ⊢
      rw [core]
      rfl
  · let w : State := { s.listening x with sitting := .sitting }
    let t : State := { s with
      sitting := .sitting, monitors := (w.evaluateAll false (everySeat floorKinds)).monitors }
    have resting (n : Seat) (k : Kind) (floor : floorClass k = true) : (w.monitor n).state.get k = .quiet := by
      obtain ⟨muted, opened, -⟩ := lawful.condition n
      by_contra active
      cases k <;> simp only [floorClass] at floor
      case mutedSpeech => exact Sitting.noConfusion (recess.symm.trans (muted.1 active).1)
      case openNoFloor => exact Sitting.noConfusion (recess.symm.trans (opened.1 active).1)
      all_goals cases floor
    have limit : 10 ≤ s.params.openNoFloorLimit := (lawful.params.1 9 (by decide)).1
    obtain ⟨quiet, monitor⟩ := State.resumed_spec (s := w) resting
      (fun n => lawful.openValues n (.inl (by simp [recess]))) (lawful.floor.2.2.1 (by simp [recess])) rfl
      (Nat.lt_of_lt_of_le (by decide) limit)
    have serves := serve_resume may recess rest
    refine ⟨t, congrArg Host.Outcome.next (State.requestReaches_of_answer ready (q := .resume) (serves.trans ?_)), rfl,
      monitor⟩
    have same : w.evaluate false (everySeat floorKinds) = t.listening x := by
      rw [quiet]
      simp only [t, State.evaluateAll, State.mapMonitors, State.listening, State.putLink, State.link]
      rfl
    exact congrArg (fun v : State => v.answer .ok ([0x01] ++ bytes3 s.clock)) same

end Sys2Proof.Machine
end

section
/-! LOAD_COMPLETE of a sound and well-formed image in a lawful state (R60, R74, R77, R104, R153, R158). -/

namespace Sys2Proof.Machine

/-! ## Parameters written while the list and the floor are empty -/

/-- What the parameters of an image write where the list and the floor are empty (R52, R60, R63, R77). -/
structure State.parametersOnly (s t : State) : Prop where
  frame : t = { s with
    params := t.params, setChanged := t.setChanged, seats := t.seats, windowElapsed := t.windowElapsed }
  packs : ∀ n, (t.seat n).pack = (s.seat n).pack

section
variable {s : State} (records : s.records = []) (floor : s.floor = [])

include records floor in
/-- With no record and no seat on the floor, a parameter's effects reach the seats and the window alone. -/
theorem State.writeParameter_of_empty (number v : Nat) : s.writeParameter number v = s.writeTables number v := by
  have same (sev : Severity) (u : State) (none : u.records = []) : u.retimeRecords sev = u := by
    rw [State.retimeRecords, none]
    cases u
    cases none
    rfl
  have effects : number = 5 ∨ number = 13 ∨ number = 17 ∨ number = 18 ∨ number = 19 ∨ number = 20
      ∨ number ≠ 5 ∧ number ≠ 13 ∧ number ≠ 17 ∧ number ≠ 18 ∧ number ≠ 19 ∧ number ≠ 20 := by omega
  rcases effects with rfl | rfl | rfl | rfl | rfl | rfl | plain
  · simp only [State.writeTables, State.writeParameter, State.takeEffect, State.restartWindows, State.mapSeats]
    rfl
  · rfl
  · exact same .advisory _ records
  · exact same .caution _ records
  · exact same .urgent _ records
  · have room : ¬(s.params.write 20 v).floorLimit < s.floor.length := by simp [floor]
    refine (if_neg room).trans ?_
    simp [State.writeTables, floor]
  · have hw : s.writeParameter number v = _ := State.takeEffect_plain _ plain
    rw [hw, State.writeTables, if_neg plain.1, if_neg plain.2.1, if_neg plain.2.2.2.2.2]

theorem State.parametersOnly.writeParameter {t : State} (h : s.parametersOnly t) (records : s.records = [])
    (floor : s.floor = []) (number v : Nat) : s.parametersOnly (t.writeParameter number v) := by
  obtain ⟨frame, packs⟩ := h
  have recordsT : t.records = [] := by
    rw [frame]
    exact records
  have floorT : t.floor = [] := by
    rw [frame]
    exact floor
  refine ⟨?_, fun n => ?_⟩
  · rw [State.writeParameter_of_empty recordsT floorT]
    have same : t.writeTables number v = { t with
        params := (t.writeTables number v).params, setChanged := (t.writeTables number v).setChanged
        seats := (t.writeTables number v).seats, windowElapsed := (t.writeTables number v).windowElapsed } := by
      simp [State.writeTables, floorT]
    generalize t.writeTables number v = w at same ⊢
    rw [same, frame]
  · rw [State.seat_writeParameter]
    split <;> exact packs n

/-- The parameters of an image in number order (R153 step 1). -/
theorem State.params_applyParameters (s : State) (img : List Byte) : (s.applyParameters img).params
    = parameterNumbers.foldl (fun p k => p.write k (imageParameter img k)) s.params :=
  (List.foldl_hom State.params fun t n => (t.params_writeParameter n (imageParameter img n)).symm).symm

/-- DROPOUT_WINDOW is among the parameters, and writing it starts the window anew (R63). -/
theorem State.windowElapsed_applyParameters (s : State) (img : List Byte) :
    (s.applyParameters img).windowElapsed = 0 := by
  have written (l : List Nat) : ∀ {u : State}, 13 ∈ l ∨ u.windowElapsed = 0 →
      (l.foldl (fun t n => t.writeParameter n (imageParameter img n)) u).windowElapsed = 0 := by
    induction l with
    | nil => exact fun h => h.resolve_left (by simp)
    | cons k l ih =>
      intro u h
      refine ih ?_
      rw [State.windowElapsed_writeParameter]
      by_cases here : k = 13
      · exact .inr (if_pos here)
      · rw [if_neg here]
        exact h.imp_left fun mem => (List.mem_cons.1 mem).resolve_left (Ne.symm here)
  exact written parameterNumbers (.inl (by decide))

/-- A parameter that no write moves but its own has moved where the value differs at the end (R60). -/
theorem State.changed_foldl {a : Nat} {c : SetChanged → Bool}
    (reads : ∀ (m : SetChanged) (old new : Params), c (m.after old new) = (c m || new.get a != old.get a))
    (v : Nat → Nat) (l : List Nat) : ∀ {s : State}, l.Nodup → (∀ n ∈ l, (1 ≤ n ∧ n ≤ 21) ∧ a ≠ pairOf n) →
      let t := l.foldl (fun t n => t.writeParameter n (v n)) s
      (a ∉ l → t.params.get a = s.params.get a)
        ∧ c t.setChanged = (c s.setChanged || t.params.get a != s.params.get a) := by
  induction l with
  | nil => simp
  | cons k l ih =>
    intro s nodup alone
    obtain ⟨new, nodup⟩ := List.nodup_cons.1 nodup
    obtain ⟨⟨range, unpaired⟩, alone⟩ := List.forall_mem_cons.1 alone
    obtain ⟨still, changed⟩ := ih (s := s.writeParameter k (v k)) nodup alone
    rw [State.setChanged_writeParameter, reads, State.params_writeParameter] at changed
    rw [State.params_writeParameter] at still
    have other (ne : a ≠ k) : (s.params.write k (v k)).get a = s.params.get a := Params.get_write _ range _ ne unpaired
    refine ⟨fun off => ?_, ?_⟩
    · obtain ⟨ne, off⟩ := not_or.1 (mt List.mem_cons.2 off)
      exact (still off).trans (other ne)
    · rw [List.foldl_cons, changed]
      by_cases here : a = k
      · subst here
        simp [still new]
      · simp [other here]

theorem State.setChanged_applyParameters (s : State) (img : List Byte) : (s.applyParameters img).setChanged =
    ⟨s.setChanged.battery || (s.applyParameters img).params.batteryQualify != s.params.batteryQualify,
      s.setChanged.mutedSpeech || (s.applyParameters img).params.mutedSpeechQualify != s.params.mutedSpeechQualify,
      s.setChanged.signalWeak || (s.applyParameters img).params.weakQualify != s.params.weakQualify⟩ := by
  have nodup : parameterNumbers.Nodup := by decide
  have battery := (State.changed_foldl (s := s) (a := 4) (c := SetChanged.battery)
    (fun m old new => by rw [SetChanged.after_eq]; rfl) (imageParameter img) parameterNumbers nodup (by decide)).2
  have muted := (State.changed_foldl (s := s) (a := 8) (c := SetChanged.mutedSpeech)
    (fun m old new => by rw [SetChanged.after_eq]; rfl) (imageParameter img) parameterNumbers nodup (by decide)).2
  have weak := (State.changed_foldl (s := s) (a := 12) (c := SetChanged.signalWeak)
    (fun m old new => by rw [SetChanged.after_eq]; rfl) (imageParameter img) parameterNumbers nodup (by decide)).2
  exact congr (congr (congrArg SetChanged.mk battery) muted) weak

end

/-! ## The image (R153) -/

section
variable {q : State} (law : q.setupLaw) (setup : q.sitting = .setup) (img : List Byte)

include law setup in
/-- In SETUP the bindings of an image bring the qualifiers of the seats concerned to their reset values (R74). -/
theorem State.applyBindings_of_setup : q.applyBindings img
    = (q.imageTables img).quieted fun n => q.bound n || (imagePack img n).isSome := by
  refine State.restartMonitors_of_setup (s := q.imageTables img) (fun _ => ?_) ?_ _
  · exact State.imageTables_law (P := State.setupLaw) img (fun _ _ _ h => h) law ‹_›
  · exact State.imageTables_law (P := fun u => u.sitting = .setup) img (fun _ _ _ h => h) setup

include law setup in
theorem State.monitor_applyBindings (n : Seat) : (q.applyBindings img).monitor n
    = if q.bound n || (imagePack img n).isSome then .quiet q.params else q.monitor n := by
  have tables : (q.imageTables img).params = q.params ∧ (q.imageTables img).monitors = q.monitors :=
    State.imageTables_law (P := fun u => u.params = q.params ∧ u.monitors = q.monitors) img (fun _ _ _ h => h) ⟨rfl, rfl⟩
  rw [State.applyBindings_of_setup law setup, State.monitor_quieted, tables.1, State.monitor, tables.2]
  rfl

include law setup in
theorem State.applyBindings_frame_of_setup (floor : q.floor = []) : q.applyBindings img = { q with
    seats := (q.applyBindings img).seats, monitors := (q.applyBindings img).monitors } := by
  have frame : q.applyBindings img = { q with
      seats := (q.applyBindings img).seats, monitors := (q.applyBindings img).monitors
      floor := q.floor.filter fun e => (imagePack img e.seat).isSome } := by
    rw [State.applyBindings_of_setup law setup]
    simp only [State.quieted, State.mapMonitors, State.imageTables, State.mapSeats]
  have none : (q.floor.filter fun e => (imagePack img e.seat).isSome) = q.floor := by rw [floor, List.filter_nil]
  rwa [none] at frame

end

section
variable {s : State} (law : s.setupLaw) (setup : s.sitting = .setup) (floor : s.floor = []) (img : List Byte)

include law setup floor

theorem State.parametersOnly_applyParameters : s.parametersOnly (s.applyParameters img) :=
  State.applyParameters_law (P := s.parametersOnly) img
    (fun _ number v _ h => h.writeParameter (law setup).1 floor number v) ⟨rfl, fun _ => rfl⟩

omit floor in
/-- The laws that the bindings of an image use outlast its parameters and its curve. -/
theorem State.parametersOnly.ready {p : State} (h : s.parametersOnly p) (c : Vector Breakpoint 8) :
    ({ p with curve := c }).setupLaw ∧ p.sitting = .setup := by
  obtain ⟨frame, -⟩ := h
  rw [frame]
  exact ⟨law, setup⟩

theorem State.monitor_imageBound (n : Seat) : (s.imageBound img).monitor n
    = if s.bound n = true ∨ imagePack img n ≠ none then .quiet (s.applyParameters img).params else s.monitor n := by
  have only := State.parametersOnly_applyParameters law setup floor img
  rw [State.imageBound]
  generalize s.applyParameters img = p at only ⊢
  obtain ⟨ready, inSetup⟩ := only.ready law setup (imageCurve img)
  obtain ⟨frame, packs⟩ := only
  have asked : p.bound n || (imagePack img n).isSome ↔ s.bound n = true ∨ imagePack img n ≠ none := by
    rw [Bool.or_eq_true, Option.isSome_iff_ne_none, State.bound, packs]
    rfl
  have monitor : p.monitor n = s.monitor n := by
    rw [frame]
    rfl
  refine (State.monitor_applyBindings ready inSetup img n).trans ?_
  exact if_congr asked rfl monitor

/-- What an image writes up to its bindings in SETUP, and that it writes nothing else. -/
theorem State.imageBound_frame : s.imageBound img = { s with
    params := (s.applyParameters img).params, curve := imageCurve img, seats := (s.imageBound img).seats
    windowElapsed := (s.applyParameters img).windowElapsed, setChanged := (s.applyParameters img).setChanged
    monitors := (s.imageBound img).monitors } := by
  have only := State.parametersOnly_applyParameters law setup floor img
  rw [State.imageBound]
  generalize s.applyParameters img = p at only ⊢
  obtain ⟨ready, inSetup⟩ := only.ready law setup (imageCurve img)
  obtain ⟨frame, -⟩ := only
  have empty : p.floor = [] := by
    rw [frame]
    exact floor
  have bound := State.applyBindings_frame_of_setup ready inSetup img empty
  generalize ({ p with curve := imageCurve img }).applyBindings img = w at bound ⊢
  exact bound.trans (congrArg (fun u : State => { u with
    curve := imageCurve img, seats := w.seats, monitors := w.monitors }) frame)

theorem State.applyImage_frame : s.applyImage img = { s with
    params := (s.applyParameters img).params, curve := imageCurve img, seats := (s.applyImage img).seats
    strays := (s.applyImage img).strays, links := (s.applyImage img).links
    windowElapsed := (s.applyParameters img).windowElapsed, setChanged := (s.applyParameters img).setChanged
    monitors := (s.imageBound img).monitors } := by
  have bound := State.imageBound_frame law setup floor img
  rw [State.applyImage_eq]
  generalize s.imageBound img = w at bound ⊢
  have links (u : State) : u.applyViews img = { u with links := (u.applyViews img).links } := rfl
  rw [links]
  generalize (State.applyViews _ img).links = l
  generalize (w.strays.filter _) = e
  exact congrArg (fun u : State => { u with strays := e, links := l }) bound

theorem State.link_applyImage (x : LinkId) : (s.applyImage img).link x = { s.link x with
    view := imageView img (imageViewOffset x), default := imageView img (imageViewOffset x) } := by
  have same : (s.imageBound img).link x = s.link x := by
    rw [State.imageBound_frame law setup floor img]
    rfl
  rw [State.applyImage_eq]
  generalize s.imageBound img = w at same ⊢
  rw [← same]
  cases x <;> rfl

end

/-- A seat that an image binds has restarted, any other is released, and its group is the image's (R153). -/
theorem State.seat_applyImage_eq (s : State) (img : List Byte) (n : Seat) : (s.applyImage img).seat n =
    { SeatRecord.reset with
      group := imageGroup img n, pack := imagePack img n
      signal := if imagePack img n = none then .noPack else .seeking } := by
  rw [State.seat_applyImage]
  generalize (s.applyParameters img).seat n = r
  cases imagePack img n with
  | none => rfl
  | some p => rfl

theorem imagePacks_contains (img : List Byte) (p : PackId) :
    (!(imagePacks img).contains p) = allSeats.all fun n => imagePack img n != some p := by
  rw [Bool.eq_iff_iff, Bool.not_eq_true', List.all_eq_true, ← Bool.not_eq_true, List.contains_iff_mem, imagePacks,
    List.mem_filterMap]
  simp

/-- Settles O52: in SETUP, with the list and the floor empty, each part of the image is written by its own step. -/
theorem loadCompleteAppliesTheImage : Obligations.LoadCompleteAppliesTheImage := by
  intro s slot lawful loading last img
  have stored : s.store.readBytes (1024 * slot) 604 = img := rfl
  clear_value img
  intro sound formed
  have setup : s.sitting = .setup := lawful.profile.2.2.2 loading
  have empty : s.floor = [] := lawful.floor.2.2.1 (by simp [setup])
  have opSlot : s.opSlot = slot := by rw [State.opSlot, last, Option.getD_some]
  have image : s.slotImage s.opSlot = img := by
    rw [State.slotImage, opSlot, slotAddress, Nat.mul_comm]
    exact stored
  let read : State := { s with profile := { s.profile with buffer := img } }
  have law : read.setupLaw := lawful.setup
  have taken : exec .loadComplete s = .next ((read.applyImage img).endProfile .done) := by
    refine congrArg Host.Outcome.next ((if_pos loading).trans ?_)
    rw [image, opSlot]
    exact (if_neg (by simp [sound])).trans (if_neg (by simp [formed]))
  have params : (read.applyParameters img).params = _ := State.params_applyParameters read img
  have elapsed := State.windowElapsed_applyParameters read img
  have changed := State.setChanged_applyParameters read img
  have monitor := State.monitor_imageBound law setup empty img
  have frame := State.applyImage_frame law setup empty img
  have seat := State.seat_applyImage_eq read img
  have strays := State.strays_applyImage read img
  have link := State.link_applyImage law setup empty img
  refine ⟨_, taken, ?_⟩
  generalize read.applyImage img = w at frame seat strays link ⊢
  generalize read.applyParameters img = p at params elapsed changed monitor frame
  generalize read.imageBound img = b at monitor frame
  have values : p.params = w.params := (congrArg State.params frame).symm
  refine ⟨congrArg State.params frame |>.trans params, congrArg State.curve frame, seat, ?_, fun x => ?_, rfl, rfl,
    congrArg State.windowElapsed frame |>.trans elapsed, congrArg State.setChanged frame |>.trans ?_, fun n => ?_, ?_⟩
  · exact strays.trans (List.filter_congr fun e _ => imagePacks_contains img e.pack)
  · have same : (w.endProfile .done).link x = w.link x := by cases x <;> rfl
    rw [same, link x]
    exact ⟨rfl, rfl, rfl⟩
  · rw [changed, values]
    rfl
  · have same : (w.endProfile .done).monitor n = b.monitor n := by
      rw [State.monitor, State.monitor, ← congrArg State.monitors frame]
      rfl
    rw [same, monitor n, values]
    rfl
  · generalize imageCurve img = curve at frame
    generalize p.params = values, p.windowElapsed = elapsed, p.setChanged = changed, b.monitors = monitors at frame
    generalize w.seats = seats, w.strays = strays, w.links = links at frame
    rw [frame]
    rfl

end Sys2Proof.Machine
end

section
/-! What the outcomes of an event and the requests make of the severity and the ack roles of a record (R84 to R88,
R95, R96). -/

namespace Sys2Proof.Machine

/-! ## Records that grow -/

/-- The severity does not fall and the ack roles do not narrow (R95, R96). -/
structure Record.grows (r q : Record) : Prop where
  severity : r.severity.code ≤ q.severity.code
  presiding : r.roles.presiding = true → q.roles.presiding = true
  technical : r.roles.technical = true → q.roles.technical = true

theorem Record.grows_refl (r : Record) : r.grows r := ⟨le_rfl, id, id⟩

theorem Record.grows_trans {r q p : Record} (h : r.grows q) (g : q.grows p) : r.grows p :=
  ⟨h.severity.trans g.severity, g.presiding ∘ h.presiding, g.technical ∘ h.technical⟩

/-- A change of a record that keeps its key, its severity and its ack roles, or raises these. -/
structure Record.growing (f : Record → Record) : Prop where
  key : Record.keepsKey f
  grows : ∀ r, Record.grows r (f r)

/-- URGENT is the highest severity (R82). -/
theorem Severity.code_le_urgent (v : Severity) : v.code ≤ Severity.urgent.code := by cases v <;> decide

theorem Record.growing_ite {f : Record → Record} (hf : Record.growing f) (p : Record → Bool) :
    Record.growing fun r => if p r then f r else r := by
  refine ⟨fun r => ?_, fun r => ?_⟩ <;> split
  · exact hf.key r
  · exact ⟨rfl, rfl⟩
  · exact hf.grows r
  · exact r.grows_refl

theorem Record.growing_clearing (c : Nat) : Record.growing (Record.clearing c) :=
  ⟨keepsKey_clearing c, fun _ => ⟨le_rfl, id, id⟩⟩

theorem Record.growing_acked (c : Nat) (x : LinkId) : Record.growing (Record.acked c x) :=
  ⟨keepsKey_acked c x, fun _ => ⟨le_rfl, id, id⟩⟩

theorem Record.growing_ackedAgain (x : LinkId) : Record.growing (Record.ackedAgain x) :=
  ⟨keepsKey_ackedAgain x, fun _ => ⟨le_rfl, id, id⟩⟩

theorem Record.growing_seen (x : LinkId) : Record.growing (Record.seen x) :=
  ⟨(keepsWarning_seen x).key, fun _ => ⟨le_rfl, id, id⟩⟩

theorem Record.growing_unsee (x : LinkId) : Record.growing (Record.unsee x) :=
  ⟨(keepsWarning_unsee x).key, fun _ => ⟨le_rfl, id, id⟩⟩

theorem Record.growing_retime (v : Severity) (time : Nat) : Record.growing (Record.retime v time) := by
  refine ⟨(keepsWarning_retime v time).key, fun r => ?_⟩
  rw [Record.retime]
  split
  · exact ⟨le_rfl, id, id⟩
  · exact r.grows_refl

theorem Record.growing_gradeRise (p : Params) (c : Nat) (d : Option Nat) : Record.growing (Record.gradeRise p c d) :=
  ⟨keepsKey_gradeRise p c d, fun r => ⟨r.severity.code_le_urgent, id, id⟩⟩

theorem Record.growing_reRaise (p : Params) (c : Nat) (g : Option Grade) (d : Option Nat) :
    Record.growing (Record.reRaise p c g d) := by
  refine ⟨keepsKey_reRaise p c g d, fun r => ?_⟩
  rw [Record.reRaise_eq]
  split
  · exact ⟨r.severity.code_le_urgent, id, id⟩
  · exact ⟨le_rfl, id, id⟩

theorem Record.growing_escalate (p : Params) (c : Nat) : Record.growing (Record.escalate p c) := by
  refine ⟨(keepsWarning_escalate p c).key, fun r => ?_⟩
  have next : r.severity.code ≤ r.severity.next.code := by cases r.severity <;> decide
  cases severity : r.severity with
  | urgent =>
    simp only [Record.escalate, severity]
    split
    · exact ⟨r.severity.code_le_urgent, id, id⟩
    · exact ⟨r.severity.code_le_urgent, fun _ => rfl, fun _ => rfl⟩
  | advisory | caution =>
    rw [severity] at next
    simp only [Record.escalate, severity]
    exact ⟨severity ▸ next, fun _ => rfl, fun _ => rfl⟩

theorem Record.growing_tick (p : Params) (c : Nat) : Record.growing (Record.tick p c) := by
  refine ⟨(keepsWarning_tick p c).key, fun r => ?_⟩
  simp only [Record.tick]
  split
  · split
    · exact r.grows_refl
    · split
      · exact (Record.growing_escalate p c).grows r
      · exact ⟨le_rfl, id, id⟩
  · exact r.grows_refl

/-! ## Facts about the record of a (seat, kind) that is not due -/

/-- What stands in the list for a (seat, kind) has grown from the record. -/
def Record.safe (r : Record) (o : Option Record) : Prop := ∀ q ∈ o, r.grows q

/-- What one event leaves of a record: it has grown, or it was ACTIVE_ACKED and is gone (R86). -/
def Record.kept (r : Record) (o : Option Record) : Prop := r.safe o ∧ (o = none → r.state = .activeAcked)

theorem Record.kept_some {r q : Record} (h : r.grows q) : r.kept (some q) :=
  ⟨fun p hp => Option.some.inj hp ▸ h, fun none => by cases none⟩

/-- The (seat, kind) is not due, and its record is as `R` says. -/
def State.holds (n : Seat) (k : Kind) (R : Option Record → Prop) (t : State) : Prop :=
  t.isDue n k = false ∧ R (t.record n k)

section
variable {s t u : State} {n : Seat} {k : Kind} {o : HandedOutcome} {r q : Record}

theorem State.lasting_of_admits {P : State → Prop}
    (other : ∀ {s t : State}, s.untouched t n k → P s → P t)
    (admits : ∀ {s : State} {m : Seat} {j : Kind}, s.isDue m j = true → P s → P (s.admitMark m j)) : State.lasting n k P :=
  ⟨other, fun h => State.fillPlaces_keeps P admits _ h⟩

theorem State.lasting_holds (n : Seat) (k : Kind) (R : Option Record → Prop) : State.lasting n k (State.holds n k R) := by
  have other : ∀ {s t : State}, s.untouched t n k → State.holds n k R s → State.holds n k R t := fun g h =>
    ⟨g.due.trans h.1, g.record ▸ h.2⟩
  refine State.lasting_of_admits other fun {s m j} due h => other (State.untouched_admitMark fun here => ?_) h
  rw [← here.1, ← here.2, h.1] at due
  cases due

theorem State.lasting_clock (n : Seat) (k : Kind) (c : Nat) : State.lasting n k fun t => t.clock = c :=
  ⟨fun g h => (State.onlyMonitorAndList_clock g.frame).trans h,
    fun h => (State.onlyMonitorAndList_clock (State.onlyMonitorAndList_fillFreed _)).trans h⟩

theorem State.lasting.and {P Q : State → Prop} (h : State.lasting n k P) (g : State.lasting n k Q) :
    State.lasting n k fun t => P t ∧ Q t :=
  ⟨fun u hs => ⟨h.other u hs.1, g.other u hs.2⟩, fun hs => ⟨h.filled hs.1, g.filled hs.2⟩⟩

theorem State.lasting.or {P Q : State → Prop} (h : State.lasting n k P) (g : State.lasting n k Q) :
    State.lasting n k fun t => P t ∨ Q t :=
  ⟨fun u hs => hs.imp (h.other u) (g.other u), fun hs => hs.imp h.filled g.filled⟩

theorem State.holds.mono {R Q : Option Record → Prop} (weaker : ∀ o, R o → Q o) (h : s.holds n k R) : s.holds n k Q :=
  ⟨h.1, weaker _ h.2⟩

theorem State.holds.of_eq {a : Option Record} {R : Option Record → Prop} (h : s.holds n k (· = a)) (here : R a) :
    s.holds n k R := ⟨h.1, h.2 ▸ here⟩

theorem State.holds.congr {R : Option Record → Prop} (h : s.holds n k R) (records : t.records = s.records)
    (monitors : t.monitors = s.monitors) : t.holds n k R := by
  obtain ⟨due, held⟩ := h
  refine ⟨?_, ?_⟩
  · rwa [State.isDue, State.monitor, monitors]
  · rwa [State.record, records]

theorem State.agrees.holds (agrees : u.agrees) (record : u.record n k = some r) : u.holds n k (· = some r) :=
  ⟨agrees.owes.undue n k (by rw [record]; rfl), record⟩

theorem State.holds.mapSeats {R : Option Record → Prop} (h : s.holds n k R) (f : Seat → SeatRecord → SeatRecord) :
    (s.mapSeats f).holds n k R := State.mapSeats_law f (fun _ _ hu => hu.congr rfl rfl) h

/-! ## One outcome -/

theorem State.undue_removeRecord (undue : s.isDue n k = false) (m : Seat) (j : Kind) :
    (s.removeRecord m j).isDue n k = false := by
  rw [State.isDue, State.monitor_removeRecord]
  split
  · next here =>
    obtain ⟨-, rfl⟩ := here
    simp only [State.openRemoved, PerKind.get_set]
    split
    · rfl
    · exact undue
  · exact undue

theorem State.holds_updateRecord {f : Record → Record} (undue : u.isDue n k = false) (record : u.record n k = some q)
    (growing : Record.growing f) : (u.updateRecord n k f).holds n k q.kept := by
  refine ⟨undue, ?_⟩
  rw [State.record_updateRecord _ _ _ _ _ growing.key, if_pos ⟨rfl, rfl⟩, record]
  exact Record.kept_some (growing.grows q)

/-- An outcome leaves its own record in the list, grown, or takes it out as ACTIVE_ACKED (R84 to R86). -/
theorem State.kept_applyOutcome (undue : u.isDue o.seat o.kind = false) (record : u.record o.seat o.kind = some q) :
    (u.applyOutcome o).holds o.seat o.kind q.kept := by
  have still : u.holds o.seat o.kind q.kept := ⟨undue, by rw [record]; exact Record.kept_some q.grows_refl⟩
  cases verdict : o.verdict with
  | qualified =>
    by_cases cleared : q.state = .clearedUnacked
    · rw [State.applyOutcome_reRaise verdict record cleared]
      exact State.holds_updateRecord undue record (Record.growing_reRaise ..)
    · simpa only [State.applyOutcome, verdict, record, if_neg cleared] using still
  | gradeRise =>
    by_cases cleared : q.state = .clearedUnacked
    · simpa only [State.applyOutcome, verdict, record, if_pos cleared] using still
    · rw [State.applyOutcome_rise verdict record cleared]
      exact State.holds_updateRecord undue record (Record.growing_gradeRise ..)
  | cleared =>
    cases state : q.state with
    | activeUnacked =>
      rw [State.applyOutcome_cleared_unacked verdict record state]
      exact State.holds_updateRecord undue record (Record.growing_clearing _)
    | activeAcked =>
      rw [State.applyOutcome_cleared_acked verdict record state]
      refine ⟨State.undue_removeRecord undue _ _, ?_⟩
      rw [State.record_removeRecord, if_pos ⟨rfl, rfl⟩]
      exact ⟨fun _ none => by simp at none, fun _ => state⟩
    | clearedUnacked => simpa only [State.applyOutcome, verdict, record, state] using still

/-! ## The outcomes of an event -/

/-- Of two lasting facts about a (seat, kind) an event hands on the one or the other by whether it has an outcome
of it, where it has at most one. -/
theorem State.lasting.handed {P Q : State → Prop} {os : List HandedOutcome} (before : State.lasting n k P)
    (after : State.lasting n k Q) (weaker : ∀ {u : State}, P u → Q u)
    (own : ∀ {o : HandedOutcome} {u : State}, o.seat = n → o.kind = k → P u → Q (u.applyOutcome o)) (owes : u.owes os)
    (single : os.Pairwise fun a b => ¬(a.seat = b.seat ∧ a.kind = b.kind)) (start : P u) : Q (u.applyOutcomes os) := by
  by_cases handed : ∃ o ∈ os, o.seat = n ∧ o.kind = k
  · obtain ⟨o, mem, seat, kind⟩ := handed
    exact before.reached after seat.symm kind.symm (own seat kind) os owes single mem start
  · exact weaker (before.applyHanded os owes (fun o ho here => handed ⟨o, ho, here.1.symm, here.2.symm⟩) start)

theorem State.kept_applyOutcomes {os : List HandedOutcome} (owes : u.owes os)
    (single : os.Pairwise fun a b => ¬(a.seat = b.seat ∧ a.kind = b.kind)) (start : u.holds n k (· = some q)) :
    (u.applyOutcomes os).holds n k q.kept := by
  refine (State.lasting_holds n k (· = some q)).handed (State.lasting_holds n k q.kept)
    (fun h => State.holds.of_eq h (Record.kept_some q.grows_refl)) ?_ owes single start
  rintro o v rfl rfl ⟨undue, record⟩
  exact State.kept_applyOutcome undue record

section
variable (agrees : u.agrees)
include agrees

omit agrees in
theorem State.holds_evaluateAll (tick : Bool) (kinds : Seat → PerKind Bool) {R : Option Record → Prop}
    (h : u.holds n k R) : (u.evaluateAll tick kinds).holds n k R := by
  obtain ⟨undue, record⟩ := h
  refine ⟨?_, ?_⟩
  · rw [State.isDue_evaluateAll, undue, Bool.false_and]
  · rwa [State.record_evaluateAll]

/-- What an evaluation leaves of a record. -/
theorem State.agrees.kept_evaluate (tick : Bool) (kinds : Seat → PerKind Bool) (record : u.record n k = some q) :
    (u.evaluate tick kinds).holds n k q.kept :=
  State.kept_applyOutcomes (agrees.evaluateAll tick kinds).owes (u.outcomes_pairwise tick kinds)
    (State.holds_evaluateAll tick kinds (agrees.holds record))

/-- The restart of fresh seats hands nothing on but its clearings (R74). -/
theorem State.agrees.kept_restartMonitors {who : Seat → Bool} (fresh : ∀ n, who n = true → (u.seat n).fresh)
    (limit : 0 < u.params.dropoutLimit) (record : u.record n k = some q) :
    (u.restartMonitors who).holds n k q.kept := by
  have owes := (agrees.restart (who := who) fun m hm => by simp [(fresh m hm).mute]).owes
  have none : (u.quieted who).outcomes false (restartedKinds who) = [] := by
    refine List.eq_nil_iff_forall_not_mem.2 fun o ho => ?_
    have own := ((u.quieted who).verdict_of_mem_outcomes false (restartedKinds who) ho).1
    have frame : u.onlyMonitorAndList (u.quieted who) := State.onlyMonitorAndList_mapMonitors ..
    by_cases picked : who o.seat = true
    · have fresh' : ((u.quieted who).seat o.seat).fresh := by
        rw [State.onlyMonitorAndList_seat frame]
        exact fresh _ picked
      have limit' : 0 < (u.quieted who).params.dropoutLimit := by rwa [State.onlyMonitorAndList_params frame]
      rw [State.verdict, State.monitor_quieted, if_pos picked, State.judgeKind_fresh fresh' limit', ite_self] at own
      cases own
    · rw [State.verdict_of_unasked (by simp [State.judges, restartedKinds, picked, PerKind.nothing])] at own
      cases own
  have undue := agrees.owes.undue n k (by rw [record]; rfl)
  rw [State.restartMonitors_eq]
  rw [none, List.append_nil] at owes ⊢
  refine State.kept_applyOutcomes owes (u.clearings_pairwise (u.quiets_quieted who).nodup)
    (State.holds_evaluateAll _ _ ⟨?_, ?_⟩)
  · by_cases hk : k ∈ restartKinds who n
    · exact ((u.quiets_quieted who).quiet n k hk).2
    · exact (((u.quiets_quieted who).others n k hk).2).trans undue
  · rw [State.record, (u.quiets_quieted who).records]
    exact record

end

end

end Sys2Proof.Machine
end

section
/-! A request leaves the severity and the ack roles of the records that stay (R95, R96). -/

namespace Sys2Proof.Machine

section
variable {u v : State} {n : Seat} {k : Kind} {r : Record}

/-! ## Records that change where they stand or leave -/

theorem State.record_mapRecords {f : Record → Record} (key : Record.keepsKey f) (records : v.records = u.records.map f) :
    v.record n k = (u.record n k).map f := by
  rw [State.record, State.record, records, List.find?_map]
  congr 2
  funext q
  exact Record.isFor_of_keepsKey key n k q

theorem Record.safe_map {f : Record → Record} (growing : Record.growing f) {o : Option Record} (h : r.safe o) :
    r.safe (o.map f) := by
  intro p hp
  obtain ⟨q, hq, rfl⟩ := Option.mem_map.1 hp
  exact Record.grows_trans (h q hq) (growing.grows q)

theorem Record.safe_some (r : Record) : r.safe (some r) := fun _ hq => Option.some.inj hq ▸ r.grows_refl

theorem State.holds.updateRecord {f : Record → Record} (h : u.holds n k r.safe) (growing : Record.growing f) (m : Seat)
    (j : Kind) : (u.updateRecord m j f).holds n k r.safe := by
  obtain ⟨undue, safe⟩ := h
  refine ⟨undue, ?_⟩
  rw [State.record_updateRecord _ _ _ _ _ growing.key]
  split
  · next here =>
    obtain ⟨rfl, rfl⟩ := here
    exact Record.safe_map growing safe
  · exact safe

theorem State.holds.removeRecord (h : u.holds n k r.safe) (m : Seat) (j : Kind) :
    (u.removeRecord m j).holds n k r.safe := by
  obtain ⟨undue, safe⟩ := h
  refine ⟨State.undue_removeRecord undue m j, ?_⟩
  rw [State.record_removeRecord]
  split
  · exact fun _ none => by simp at none
  · exact safe

theorem State.holds.acknowledgeAll (h : u.holds n k r.safe) (x : LinkId) (picked : List Record) :
    (u.acknowledgeAll x picked).holds n k r.safe := by
  have each : ∀ (ps : List Record) {w : State}, w.holds n k r.safe →
      (ps.foldl (fun t p => t.acknowledge x p) w).holds n k r.safe := by
    intro ps
    induction ps with
    | nil => exact fun hw => hw
    | cons p ps ih =>
      intro w hw
      refine ih ?_
      simp only [State.acknowledge]
      split
      · exact hw.updateRecord (Record.growing_acked ..) _ _
      · exact hw.updateRecord (Record.growing_ackedAgain _) _ _
      · exact hw.removeRecord _ _
  rw [State.acknowledgeAll]
  split
  · exact (State.lasting_holds n k r.safe).filled (each picked h)
  · exact each picked h

/-! ## The requests -/

section
variable (agrees : u.agrees) (record : u.record n k = some r)
include agrees record

theorem State.agrees.safe_evaluate (tick : Bool) (kinds : Seat → PerKind Bool) :
    r.safe ((u.evaluate tick kinds).record n k) := (agrees.kept_evaluate tick kinds record).2.1

theorem State.agrees.safe_writeParameter (number w : Nat) : r.safe ((u.writeParameter number w).record n k) := by
  let p : State := { u with
    params := u.params.write number w, setChanged := u.setChanged.after u.params (u.params.write number w) }
  change r.safe ((p.takeEffect number).record n k)
  have same : p.record n k = some r := record
  have agrees : p.agrees := agrees.of_sameWarnings (State.sameWarnings_of_eq rfl rfl)
  clear_value p
  have retimed (sev : Severity) : r.safe ((p.retimeRecords sev).record n k) := by
    rw [State.record_mapRecords (Record.growing_retime sev _).key rfl, same]
    exact Record.safe_map (Record.growing_retime ..) r.safe_some
  have still : r.safe (p.record n k) := same ▸ r.safe_some
  simp only [State.takeEffect]
  split
  · exact (State.holds.mapSeats (agrees.holds same) _).2 ▸ r.safe_some
  · exact still
  · exact retimed _
  · exact retimed _
  · exact retimed _
  · split
    · exact State.agrees.safe_evaluate (u := { p with floor := p.floor.drop (p.floor.length - p.params.floorLimit) })
        (agrees.of_sameWarnings (State.sameWarnings_of_eq rfl rfl)) same _ _
    · exact still
  · exact still

/-- RECESS hands nothing on but its clearings (R71). -/
theorem State.agrees.safe_recessMonitors : r.safe (u.recessMonitors.record n k) := by
  have quiets := u.quiets_recessSettled
  have undue := agrees.owes.undue n k (by rw [record]; rfl)
  rw [State.recessMonitors_eq]
  refine (State.kept_applyOutcomes (q := r) (quiets.handing agrees).owes (u.clearings_pairwise quiets.nodup)
    ⟨?_, ?_⟩).2.1
  · by_cases hk : k ∈ u.recessKinds n
    · exact (quiets.quiet n k hk).2
    · exact ((quiets.others n k hk).2).trans undue
  · rw [State.record, quiets.records]
    exact record

theorem State.agrees.kept_granted (m : Seat) : (u.granted m).holds n k r.kept := by
  rw [State.granted_eq]
  exact (State.agrees_openCounted agrees).kept_evaluate _ _ record

/-- The seat that leaves and the seat that joins are two, so that each of them is judged once (R73, R130). -/
theorem State.agrees.safe_replaced {m joined : Seat} (two : m ≠ joined) :
    r.safe ((u.replaced m joined).record n k) := by
  rw [State.replaced]
  have left : (u.withdrawn (· == m)).agrees := agrees.evaluate _ _
  by_cases here : n = joined
  · have unasked : u.judges (fun n => if n == m then floorKinds else .nothing) n k = false := by
      have off : (n == m) = false := by
        rw [here]
        simpa using two.symm
      simp [State.judges, off]
    have still : (u.withdrawn (· == m)).holds n k (· = some r) :=
      (State.lasting_holds n k (· = some r)).evaluate agrees unasked (agrees.holds record)
    exact (left.kept_granted still.2 joined).2.1
  · have kept : (u.withdrawn (· == m)).holds n k r.kept := agrees.kept_evaluate _ _ record
    exact ((State.lasting_holds n k r.kept).granted left here kept).2.1

end

/-- A request leaves every record in the list grown, or takes it out for good. -/
theorem State.safe_requested (g : u.Requested v) (laws : u.warningLaws) (limit : 0 < u.params.dropoutLimit)
    (record : u.record n k = some r) : r.safe (v.record n k) := by
  obtain ⟨agrees, setupLaw⟩ := laws
  have running : u.sitting ≠ .setup := fun setup => by
    obtain ⟨mem, -⟩ := State.mem_of_record record
    rw [(setupLaw setup).1] at mem
    cases mem
  have held := agrees.holds record
  have still : r.safe (u.record n k) := record ▸ r.safe_some
  have same {w : State} (records : w.records = u.records) (monitors : w.monitors = u.monitors) : w.agrees :=
    agrees.of_sameWarnings (State.sameWarnings_of_eq records monitors)
  cases g with
  | apart core intake links profile lines =>
    rw [core]
    exact still
  | bound m pack valid new =>
    have tables : (u.bindTables m pack (u.seatOfPack pack)).records = u.records
        ∧ (u.bindTables m pack (u.seatOfPack pack)).monitors = u.monitors
        ∧ (u.bindTables m pack (u.seatOfPack pack)).params = u.params := by
      rw [u.bindTables_eq]
      exact ⟨rfl, rfl, rfl⟩
    obtain ⟨records, monitors, params⟩ := tables
    refine (State.agrees.kept_restartMonitors (u := u.bindTables m pack (u.seatOfPack pack)) (same records monitors)
      (fun j hj => ?_) (params ▸ limit) (held.congr records monitors).2).2.1
    rw [State.seat_bindTables _ _ new]
    split
    · exact SeatRecord.fresh_restart _
    · next other =>
      have concerned : j = m ∨ u.seatOfPack pack = some j := by simpa using hj
      rw [if_pos (concerned.resolve_left other)]
      exact SeatRecord.fresh_release _
  | released m =>
    refine (State.agrees.kept_restartMonitors (u := u.releaseTables m) (same rfl rfl) (fun j hj => ?_) limit record).2.1
    obtain rfl : j = m := by simpa using hj
    rw [State.seat_releaseTables, if_pos rfl]
    exact SeatRecord.fresh_release _
  | grouped f group => exact (held.mapSeats f).2 ▸ r.safe_some
  | restarted setup => exact absurd setup running
  | curved c valid setup => exact absurd setup running
  | written number w range => exact agrees.safe_writeParameter record number w
  | seen x picked enabled =>
    have growing := Record.growing_ite (Record.growing_seen x) fun q => picked.any fun p => p.isFor q.seat q.kind
    rw [State.record_mapRecords growing.key rfl]
    exact Record.safe_map growing still
  | acked x picked mem enabled =>
    exact ((held.of_eq r.safe_some).acknowledgeAll x picked).2
  | started length range setup idle => exact absurd setup running
  | scheduled length range =>
    exact State.agrees.safe_evaluate (u := { u with scheduled := length }) (same rfl rfl) record _ _
  | recessed sitting =>
    exact State.agrees.safe_recessMonitors (u := { u with sitting := .recess, floor := [] }) (same rfl rfl) record
  | resumed recess =>
    exact State.agrees.safe_evaluate (u := { u with sitting := .sitting }) (same rfl rfl) record _ _
  | ended =>
    have records : (State.endMonitors { u with sitting := .setup, floor := [], records := [] }).records = [] :=
      State.mapMonitors_records ..
    intro q hq
    rw [State.record, records] at hq
    cases hq
  | granted m sitting bound off room =>
    exact (State.agrees.kept_granted (u := u.joinFloor m) (same rfl rfl) record m).2.1
  | replaced m oldest rest sitting bound off floor =>
    have two : oldest.seat ≠ m := fun here => by simp [State.onFloor, floor, here] at off
    have joined : ({ u with floor := rest }.joinFloor m).agrees := same rfl rfl
    exact joined.safe_replaced record two
  | withdrawn m sitting => exact State.agrees.safe_evaluate (u := u.leaveFloor m) (same rfl rfl) record _ _
  | cleared sitting => exact State.agrees.safe_evaluate (u := { u with floor := [] }) (same rfl rfl) record _ _

end

end Sys2Proof.Machine
end

section
/-! The commands whose work is one event, and the second tick, leave the severity and the ack roles of the records that
stay (R95, R96). -/

namespace Sys2Proof.Machine

section
variable {s t u v : State} {n : Seat} {k : Kind} {r : Record}

/-! ## One move -/

theorem State.warningLaws.nowhere_in_setup (laws : s.warningLaws) (record : s.record n k = some r) :
    s.sitting ≠ .setup := fun setup => by
  obtain ⟨mem, -⟩ := State.mem_of_record record
  rw [(laws.setup setup).1] at mem
  cases mem

theorem State.holds_takeSetValues {R : Option Record → Prop} (h : s.holds n k R) : s.takeSetValues.holds n k R := by
  obtain ⟨undue, held⟩ := h
  refine ⟨?_, ?_⟩
  · rw [State.isDue, State.monitor_takeSetValues]
    exact undue
  · rwa [State.record, State.takeSetValues_records]

theorem State.holds_tickClock {R : Option Record → Prop} (h : s.holds n k R) : s.tickClock.holds n k R := by
  rw [State.tickClock_eq]
  exact h.congr rfl rfl

/-- A change of every record where it stands leaves a fact that outlasts growth. -/
theorem State.holds_tickTimers {R : Option Record → Prop}
    (outlasts : ∀ {f : Record → Record} {o : Option Record}, Record.growing f → R o → R (o.map f))
    (h : s.holds n k R) : s.tickTimers.holds n k R := by
  by_cases setup : s.sitting = .setup
  · rwa [s.tickTimers_of_setup setup]
  · have growing := Record.growing_tick s.params s.clock
    have records : s.tickTimers.records = s.records.map (Record.tick s.params s.clock) := by
      simp only [State.tickTimers, if_neg setup]
    refine ⟨?_, ?_⟩
    · simp only [State.tickTimers, if_neg setup]
      exact h.1
    · rw [State.record_mapRecords growing.key records]
      exact outlasts growing h.2

/-- The end of the dropout window hands nothing on but its clearings (R64). -/
theorem State.agrees.kept_tickWindow (agrees : s.agrees) (record : s.record n k = some r) :
    s.tickWindow.holds n k r.kept := by
  have start : s.windowSettled.holds n k (· = some r) := by
    refine ⟨?_, ?_⟩
    · rw [State.isDue, State.monitor_windowSettled, SeatMonitor.due_endWindow]
      split
      · rfl
      · exact (agrees.holds record).1
    · simpa only [State.record, State.windowSettled, State.mapSeats_records, State.mapMonitors_records] using record
  simp only [State.tickWindow]
  split
  · rw [State.endDropoutWindow_eq]
    refine State.kept_applyOutcomes agrees.windowSettled.owes (s.clearings_pairwise fun m => ?_) start
    rw [State.windowKinds]
    split <;> decide
  · exact State.holds.of_eq ((agrees.holds record).congr rfl rfl) (Record.kept_some r.grows_refl)

/-- A move leaves every record in the list grown, or takes it out for good. -/
theorem State.safe_moves {whole : Prop} (g : State.Moves whole u v) (laws : u.warningLaws)
    (limit : 0 < u.params.dropoutLimit) (loads : u.profile.op = .loading → u.sitting = .setup)
    (record : u.record n k = some r) : r.safe (v.record n k) := by
  have running := laws.nowhere_in_setup record
  have held := laws.agrees.holds record
  have still : r.safe (u.record n k) := record ▸ r.safe_some
  have judged {w : State} (laws : w.warningLaws) (held : w.holds n k (· = some r)) (tick : Bool)
      (kinds : Seat → PerKind Bool) : r.safe ((w.evaluate tick kinds).record n k) :=
    laws.agrees.safe_evaluate held.2 tick kinds
  cases g with
  | requested g => exact State.safe_requested g laws limit record
  | outside core intake links profile store enabled =>
    rw [core]
    exact still
  | reset straps protect g => exact fun q hq => by cases hq
  | picked p rep rest fifo =>
    simp only [State.processReport]
    split
    · next m _ =>
      exact judged (w := ({ u.putPort p { u.port p with fifo := rest } with lastServed := p } : State).putSeat m _)
        (laws.of_eq rfl rfl rfl) (held.congr rfl rfl) _ _
    · exact still
  | tookValues => exact (State.holds_takeSetValues held).2 ▸ r.safe_some
  | advanced who => exact judged (laws.mapSeats _) (held.mapSeats _) _ _
  | counted kinds => exact judged laws held _ _
  | quarterPhase q range => exact still
  | clock => exact (State.holds_tickClock held).2 ▸ r.safe_some
  | window => exact (laws.agrees.kept_tickWindow record).2.1
  | timers => exact (State.holds_tickTimers (fun g h => Record.safe_map g h) (held.of_eq r.safe_some)).2
  | seconds => exact still
  | escalated m j q found runs =>
    exact ((held.of_eq r.safe_some).updateRecord (Record.growing_escalate ..) m j).2
  | aged who => exact judged (laws.mapSeats _) (held.mapSeats _) _ _
  | unseen x =>
    rw [State.record_mapRecords (Record.growing_unsee x).key rfl]
    exact Record.safe_map (Record.growing_unsee x) still
  | loaded img formed loading => exact absurd (loads loading) running

/-! ## Commands of one event -/

/-- The list, the qualifiers and what a move asks beside them are the same. -/
structure State.sameList (s u : State) : Prop where
  records : u.records = s.records
  monitors : u.monitors = s.monitors
  sitting : u.sitting = s.sitting
  params : u.params = s.params
  op : u.profile.op = s.profile.op

theorem State.sameList_refl (s : State) : s.sameList s := ⟨rfl, rfl, rfl, rfl, rfl⟩

theorem State.sameList_trans (h : s.sameList t) (g : t.sameList u) : s.sameList u :=
  ⟨g.records.trans h.records, g.monitors.trans h.monitors, g.sitting.trans h.sitting, g.params.trans h.params,
    g.op.trans h.op⟩

theorem State.sameList_putLink (s : State) (x : LinkId) (l : LinkState) : s.sameList (s.putLink x l) :=
  ⟨rfl, rfl, rfl, rfl, rfl⟩

/-- One move, and besides it nothing that the list sees. -/
def State.oneEvent (s t : State) : Prop := ∃ u v, s.sameList u ∧ State.Moves True u v ∧ t.records = v.records

theorem State.oneEvent_of_records (records : t.records = s.records) : s.oneEvent t :=
  ⟨s, s, s.sameList_refl, .requested (.nothing s), records⟩

theorem State.oneEvent_of_moves (h : State.Moves True s t) : s.oneEvent t := ⟨s, t, s.sameList_refl, h, rfl⟩

theorem State.oneEvent_ite {p : Prop} [Decidable p] (h : p → State.Moves True s t) : s.oneEvent (if p then t else s) := by
  split
  · next holds => exact State.oneEvent_of_moves (h holds)
  · exact State.oneEvent_of_records rfl

theorem State.sameList.oneEvent (h : s.sameList u) (g : u.oneEvent t) : s.oneEvent t := by
  obtain ⟨w, v, same, move, records⟩ := g
  exact ⟨w, v, State.sameList_trans h same, move, records⟩

theorem State.oneEvent.safe (h : s.oneEvent t) (lawful : s.lawful) (record : s.record n k = some r) :
    r.safe (t.record n k) := by
  obtain ⟨u, v, ⟨records, monitors, sitting, params, op⟩, move, after⟩ := h
  rw [State.record, after]
  refine State.safe_moves move (lawful.warningLaws.of_eq records monitors sitting) ?_ (fun loading => ?_) ?_
  · rw [params]
    exact lawful.params.dropoutLimit_pos
  · rw [sitting]
    exact lawful.profile.2.2.2 (op ▸ loading)
  · rwa [State.record, records]

/-! ## Requests -/

theorem State.oneEvent_takeRequest (s : State) (x : LinkId) (req : HeldRequest) : s.oneEvent (s.takeRequest x req) :=
  ⟨s, _, s.sameList_refl, .requested (s.judgeRequest_requested x req), rfl⟩

theorem State.oneEvent_goodRequest (s : State) (x : LinkId) (req : HeldRequest) : s.oneEvent (s.goodRequest x req) := by
  simp only [State.goodRequest]
  split
  · exact s.oneEvent_takeRequest x req
  · exact State.oneEvent_of_records rfl
  · exact State.oneEvent_of_records rfl

theorem State.oneEvent_requestReaches (s : State) (x : LinkId) (code : Byte) (payload : List Byte) :
    s.oneEvent (s.requestReaches x code payload) := by
  simp only [State.requestReaches]
  split
  · exact (s.sameList_putLink x _).oneEvent (State.oneEvent_goodRequest ..)
  · exact State.oneEvent_of_records rfl

theorem State.oneEvent_judgeFrame (s : State) (x : LinkId) (len : Nat) (frame : List Byte) :
    s.oneEvent (s.judgeFrame x len frame) := by
  simp only [State.judgeFrame]
  split
  · exact State.oneEvent_of_records rfl
  · split
    · exact State.oneEvent_goodRequest ..
    · exact State.oneEvent_of_records rfl

theorem State.oneEvent_receiveCharacter (s : State) (x : LinkId) (ch : Byte) (stop : Bool) :
    s.oneEvent (s.receiveCharacter x ch stop) := by
  simp only [State.receiveCharacter]
  split
  · exact State.oneEvent_of_records rfl
  · split
    · split
      · exact State.oneEvent_of_records rfl
      · exact State.oneEvent_of_records rfl
    · split
      · exact State.oneEvent_of_records rfl
      · split
        · exact State.oneEvent_of_records rfl
        · exact State.oneEvent_of_records rfl
    · split
      · exact (s.sameList_putLink x _).oneEvent (State.oneEvent_judgeFrame ..)
      · exact State.oneEvent_of_records rfl

/-! ## Every command but the ticks of several events -/

theorem State.sameList_samplePin (s : State) (protect : Bool) : s.sameList (s.samplePin protect) :=
  ⟨rfl, rfl, rfl, rfl, rfl⟩

theorem State.oneEvent_linkBreak {x : LinkId} (h : execLinkBreak x s = .next t) : s.oneEvent t := by
  simp only [execLinkBreak, Host.Outcome.next.injEq] at h
  subst h
  split
  · exact (s.sameList_putLink x _).oneEvent (State.oneEvent_of_moves (.unseen x))
  · exact State.oneEvent_of_records rfl

theorem State.oneEvent_replyEnd {x : LinkId} {protect : Bool} (h : execReplyEnd x protect s = .next t) :
    s.oneEvent t := by
  simp only [execReplyEnd, Host.Outcome.next.injEq] at h
  subst h
  refine (s.sameList_samplePin protect).oneEvent ?_
  split
  · exact State.oneEvent_of_records rfl
  · exact State.oneEvent_of_records rfl
  · exact ((s.samplePin protect).sameList_putLink x _).oneEvent (State.oneEvent_takeRequest ..)

theorem State.oneEvent_loadComplete (h : execLoadComplete s = .next t) : s.oneEvent t := by
  simp only [execLoadComplete, Host.Outcome.next.injEq] at h
  subst h
  split
  · next loading =>
    split
    · exact State.oneEvent_of_records rfl
    · split
      · exact State.oneEvent_of_records rfl
      · next formed =>
        let read : State := { s with profile := { s.profile with buffer := s.slotImage s.opSlot } }
        have same : s.sameList read := ⟨rfl, rfl, rfl, rfl, rfl⟩
        exact ⟨read, _, same, .loaded _ (by simpa using formed) loading, State.endProfile_records ..⟩
  · exact State.oneEvent_of_records rfl

theorem State.oneEvent_storeFault {g : Progress} (h : execStoreFault g s = .next t) : s.oneEvent t := by
  simp only [execStoreFault, Host.Outcome.next.injEq] at h
  subst h
  split <;> exact State.oneEvent_of_records rfl

/-- The two ticks that are several events in one command. -/
def ticksAgain : Instr → Bool
  | .quarterTick _ | .secondTick _ => true
  | _ => false

theorem exec_oneEvent {c : Instr} (h : exec c s = .next t) (once : ticksAgain c = false) : s.oneEvent t := by
  cases hc : asRequest c with
  | some req =>
    obtain ⟨x, code, payload⟩ := req
    obtain ⟨protect, hp⟩ := exec_of_asRequest hc s
    cases hp.symm.trans h
    exact (s.sameList_samplePin protect).oneEvent (State.oneEvent_requestReaches ..)
  | none =>
    cases c <;> simp only [asRequest, reduceCtorEq] at hc
    case resetPin straps protect g =>
      cases h
      exact State.oneEvent_of_moves (.reset ..)
    case portCharacter p ch stop =>
      cases h
      exact State.oneEvent_of_records rfl
    case intakePick =>
      simp only [exec, execIntakePick, Host.Outcome.next.injEq] at h
      subst h
      split
      · exact State.oneEvent_of_records rfl
      · split
        · exact State.oneEvent_of_records rfl
        · next fifo => exact State.oneEvent_of_moves (.picked _ _ _ fifo)
    case quarterTick order => cases once
    case enterFading m =>
      cases h
      exact State.oneEvent_ite fun _ => .advanced _
    case enterLost m =>
      cases h
      exact State.oneEvent_ite fun _ => .advanced _
    case qualifierExpiry m j =>
      cases h
      exact State.oneEvent_ite fun _ => .counted _
    case accumulationLimit m =>
      cases h
      exact State.oneEvent_ite fun _ => .counted _
    case secondTick order => cases once
    case dropoutWindowEnd =>
      cases h
      refine State.oneEvent_ite fun ends => ?_
      have tick : State.Moves True s s.tickWindow := .window
      rwa [State.tickWindow, if_pos ends] at tick
    case escalationExpiry m j =>
      simp only [exec, execEscalationExpiry, Host.Outcome.next.injEq] at h
      subst h
      split
      · exact State.oneEvent_of_records rfl
      · next q hq =>
        exact State.oneEvent_ite fun runs => .escalated m j q hq runs.2
    case minuteTick =>
      cases h
      exact State.oneEvent_of_moves (.aged _)
    case drainWindowComplete m =>
      cases h
      exact State.oneEvent_ite fun _ => .aged _
    case linkCharacter x ch stop protect =>
      simp only [exec, execLinkCharacter, Host.Outcome.next.injEq] at h
      subst h
      refine (s.sameList_samplePin protect).oneEvent ?_
      split
      · exact State.oneEvent_receiveCharacter ..
      · exact State.oneEvent_of_records rfl
    case replyEnd x protect => exact State.oneEvent_replyEnd h
    case linkBreak x => exact State.oneEvent_linkBreak h
    case saveComplete =>
      simp only [exec, execSaveComplete, Host.Outcome.next.injEq] at h
      subst h
      split <;> exact State.oneEvent_of_records rfl
    case loadComplete => exact State.oneEvent_loadComplete h
    case compareComplete =>
      simp only [exec, execCompareComplete, Host.Outcome.next.injEq] at h
      subst h
      refine State.oneEvent_of_records ?_
      repeat' split
      all_goals rfl
    case storeFault g => exact State.oneEvent_storeFault h
    case linkReturnToMark x =>
      cases h
      exact State.oneEvent_of_records rfl

end

end Sys2Proof.Machine
end

section
/-! The second tick and the quarter tick leave the severity and the ack roles of the records that stay, but for an
ACTIVE_ACKED record that a quarter tick replaces by a new one (R61, R88, R95, R96). -/

namespace Sys2Proof.Machine

section
variable {s t u : State} {n : Seat} {k : Kind} {r : Record} {c : Nat}

/-! ## The second tick -/

/-- The record stands in the list, grown. -/
def Record.heldUp (r : Record) (o : Option Record) : Prop := ∃ q, o = some q ∧ r.grows q

theorem Record.heldUp_some (r : Record) : r.heldUp (some r) := ⟨r, rfl, r.grows_refl⟩

theorem Record.heldUp_map {f : Record → Record} (growing : Record.growing f) {o : Option Record} (h : r.heldUp o) :
    r.heldUp (o.map f) := by
  obtain ⟨q, rfl, grows⟩ := h
  exact ⟨f q, rfl, Record.grows_trans grows (growing.grows q)⟩

theorem Record.kept_trans {q : Record} (grows : r.grows q) {o : Option Record} (h : q.kept o) : r.safe o :=
  fun p hp => Record.grows_trans grows (h.1 p hp)

theorem State.agrees.safe_tickWindow (agrees : s.agrees) (h : s.holds n k r.heldUp) : s.tickWindow.holds n k r.safe := by
  obtain ⟨undue, q, record, grows⟩ := h
  exact (agrees.kept_tickWindow record).mono fun o kept => Record.kept_trans grows kept

/-- The end of the window is the one event of a second tick that can take a record out (R64, R86). -/
theorem State.warningLaws.safe_secondWork (laws : s.warningLaws) (record : s.record n k = some r) (order : SecondOrder) :
    r.safe ((s.secondWork order).record n k) := by
  have start : s.holds n k r.heldUp := (laws.agrees.holds record).of_eq r.heldUp_some
  have clock {w : State} (h : w.warningLaws) : w.tickClock.warningLaws := State.warningLaws_moves (whole := True) .clock h
  have timers {w : State} (h : w.warningLaws) : w.tickTimers.warningLaws :=
    State.warningLaws_moves (whole := True) .timers h
  have held {w : State} (h : w.holds n k r.heldUp) : w.tickTimers.holds n k r.heldUp :=
    State.holds_tickTimers (fun growing ho => Record.heldUp_map growing ho) h
  have safe {w : State} (h : w.holds n k r.safe) : w.tickTimers.holds n k r.safe :=
    State.holds_tickTimers (fun growing ho => Record.safe_map growing ho) h
  cases order with
  | cwe => exact (safe ((clock laws).agrees.safe_tickWindow (State.holds_tickClock start))).2
  | cew => exact ((timers (clock laws)).agrees.safe_tickWindow (held (State.holds_tickClock start))).2
  | wce => exact (safe (State.holds_tickClock (laws.agrees.safe_tickWindow start))).2
  | wec => exact (State.holds_tickClock (safe (laws.agrees.safe_tickWindow start))).2
  | ecw => exact ((clock (timers laws)).agrees.safe_tickWindow (State.holds_tickClock (held start))).2
  | ewc => exact (State.holds_tickClock ((timers laws).agrees.safe_tickWindow (held start))).2

/-! ## A record raised anew -/

/-- A record as a raise or an admission at the clock `c` makes it (R83, R90). -/
def Record.newAt (c : Nat) (q : Record) : Prop :=
  q.state = .activeUnacked ∧ q.raisedAt = c ∧ q.repeats = 0 ∧ q.escalations = 0

theorem newRecord_newAt (p : Params) (c : Nat) (n : Seat) (k : Kind) (grade : Option Grade) (detail : Option Nat) :
    (newRecord p c n k grade detail).newAt c := ⟨rfl, rfl, rfl, rfl⟩

/-- The (seat, kind) waits as a due mark, or it has a record raised at the clock `c`. -/
def State.renewed (c : Nat) (n : Seat) (k : Kind) (t : State) : Prop :=
  t.clock = c ∧ (t.isDue n k = true ∧ t.record n k = none ∨ ∃ q ∈ t.record n k, q.newAt c)

/-- The (seat, kind) has neither a record nor a due mark, at the clock `c`. -/
def State.gone (c : Nat) (n : Seat) (k : Kind) (t : State) : Prop := t.clock = c ∧ t.holds n k (· = none)

theorem State.record_append_new (record : s.record n k = none) (p : Params) (c : Nat) (grade : Option Grade)
    (detail : Option Nat) : (s.appendRecord (newRecord p c n k grade detail)).record n k
      = some (newRecord p c n k grade detail) := by
  rw [State.record_appendRecord, record, Option.none_or, if_pos]
  simp [Record.isFor, newRecord]

theorem State.lasting_renewed (c : Nat) (n : Seat) (k : Kind) : State.lasting n k (State.renewed c n k) := by
  have other : ∀ {s t : State}, s.untouched t n k → s.renewed c n k → t.renewed c n k := fun g ⟨clock, warned⟩ =>
    ⟨(State.onlyMonitorAndList_clock g.frame).trans clock, by rw [g.due, g.record]; exact warned⟩
  refine State.lasting_of_admits other fun {s m j} due h => ?_
  by_cases here : n = m ∧ k = j
  · obtain ⟨rfl, rfl⟩ := here
    obtain ⟨clock, warned⟩ := h
    refine ⟨(State.onlyMonitorAndList_clock (s.onlyMonitorAndList_admitMark n k)).trans clock, .inr ?_⟩
    rcases warned with ⟨-, none⟩ | ⟨q, hq, new⟩
    · exact ⟨_, State.record_append_new (s := s.putDue n k false) none .., clock ▸ newRecord_newAt ..⟩
    · refine ⟨q, ?_, new⟩
      rw [State.admitMark, State.record_appendRecord, State.record_putDue, Option.mem_def.1 hq]
      rfl
  · exact other (State.untouched_admitMark here) h

theorem State.lasting_gone (c : Nat) (n : Seat) (k : Kind) : State.lasting n k (State.gone c n k) :=
  (State.lasting_clock n k c).and (State.lasting_holds n k _)

/-- Of a (seat, kind) without a record an outcome makes nothing, or a new record or a due mark of its own (R83). -/
theorem State.gone_applyOutcome {o : HandedOutcome} (h : u.gone c o.seat o.kind) :
    (u.applyOutcome o).gone c o.seat o.kind ∨ (u.applyOutcome o).renewed c o.seat o.kind := by
  obtain ⟨clock, undue, record⟩ := h
  cases verdict : o.verdict with
  | qualified =>
    have frame := u.onlyMonitorAndList_raise o
    rw [State.applyOutcome_raise verdict record]
    refine .inr ⟨(State.onlyMonitorAndList_clock frame).trans clock, ?_⟩
    rw [State.raise]
    split
    · exact .inr ⟨_, State.record_append_new record .., clock ▸ newRecord_newAt ..⟩
    · exact .inl ⟨by simp, by rw [State.record_setDue, record]⟩
  | gradeRise =>
    left
    simpa only [State.applyOutcome, verdict, record] using ⟨clock, undue, record⟩
  | cleared =>
    left
    rw [State.applyOutcome_cleared_none verdict record]
    exact ⟨clock, undue, record⟩

theorem State.agrees.gone_evaluate (agrees : u.agrees) (tick : Bool) (kinds : Seat → PerKind Bool) (h : u.gone c n k) :
    (u.evaluate tick kinds).gone c n k ∨ (u.evaluate tick kinds).renewed c n k := by
  refine (State.lasting_gone c n k).handed ((State.lasting_gone c n k).or (State.lasting_renewed c n k)) .inl ?_
    (agrees.evaluateAll tick kinds).owes (u.outcomes_pairwise tick kinds) ?_
  · rintro o v rfl rfl gone
    exact State.gone_applyOutcome gone
  · exact ⟨(State.onlyMonitorAndList_clock (State.evaluateAll_frame tick)).trans h.1,
      State.holds_evaluateAll tick kinds h.2⟩

/-! ## The quarter tick -/

/-- A (seat, kind) before any event of a quarter tick has judged it. -/
def State.unjudged (c : Nat) (r : Record) (t : State) : Prop := t.clock = c ∧ t.holds r.seat r.kind (· = some r)

/-- A (seat, kind) that one event of a quarter tick has judged. -/
def State.judgedOnce (c : Nat) (r : Record) (t : State) : Prop := t.clock = c ∧ t.holds r.seat r.kind r.kept

/-- A (seat, kind) that two events of a quarter tick have judged (R61). -/
def State.judgedTwice (c : Nat) (r : Record) (t : State) : Prop :=
  t.holds r.seat r.kind r.safe ∨ r.state = .activeAcked ∧ t.renewed c r.seat r.kind

theorem State.lasting_unjudged (c : Nat) (r : Record) : State.lasting r.seat r.kind (State.unjudged c r) :=
  (State.lasting_clock _ _ c).and (State.lasting_holds _ _ _)

theorem State.lasting_judgedTwice (c : Nat) (r : Record) : State.lasting r.seat r.kind (State.judgedTwice c r) := by
  refine (State.lasting_holds _ _ _).or ⟨fun g h => ⟨h.1, ?_⟩, fun h => ⟨h.1, ?_⟩⟩
  · exact (State.lasting_renewed c _ _).other g h.2
  · exact (State.lasting_renewed c _ _).filled h.2

section
variable (agrees : u.agrees) (tick : Bool) (kinds : Seat → PerKind Bool)
include agrees

theorem State.agrees.judgedOnce_evaluate (h : u.unjudged c r) : (u.evaluate tick kinds).judgedOnce c r :=
  ⟨(State.onlyMonitorAndList_clock (u.onlyMonitorAndList_evaluate ..)).trans h.1, agrees.kept_evaluate tick kinds h.2.2⟩

theorem State.agrees.judgedTwice_evaluate (h : u.judgedOnce c r) : (u.evaluate tick kinds).judgedTwice c r := by
  obtain ⟨clock, undue, safe, acked⟩ := h
  cases record : u.record r.seat r.kind with
  | some q =>
    exact .inl ((agrees.kept_evaluate tick kinds record).mono fun o kept => Record.kept_trans (safe q record) kept)
  | none =>
    rcases agrees.gone_evaluate tick kinds ⟨clock, undue, record⟩ with gone | renewed
    · exact .inl (gone.2.of_eq fun _ hq => by cases hq)
    · exact .inr ⟨acked record, renewed⟩

end

section
variable (laws : u.warningLaws)

theorem State.unjudged_mapSeats (h : u.unjudged c r) (f : Seat → SeatRecord → SeatRecord) :
    (u.mapSeats f).unjudged c r := ⟨(u.mapSeats_clock f).trans h.1, h.2.mapSeats f⟩

theorem State.judgedOnce_mapSeats (h : u.judgedOnce c r) (f : Seat → SeatRecord → SeatRecord) :
    (u.mapSeats f).judgedOnce c r := ⟨(u.mapSeats_clock f).trans h.1, h.2.mapSeats f⟩

theorem State.judgedTwice_mapSeats (h : u.judgedTwice c r) (f : Seat → SeatRecord → SeatRecord) :
    (u.mapSeats f).judgedTwice c r := by
  refine h.imp (fun h => h.mapSeats f) fun ⟨acked, clock, warned⟩ => ⟨acked, (u.mapSeats_clock f).trans clock, ?_⟩
  exact State.mapSeats_law (P := fun v => v.isDue _ _ = true ∧ v.record _ _ = none ∨ ∃ q ∈ v.record _ _, q.newAt c) f
    (fun _ _ hv => hv) warned

include laws

theorem State.warningLaws.judgedOnce_advanceSeats (who : Seat → Bool) (h : u.unjudged c r) :
    (u.advanceSeats who).judgedOnce c r :=
  (laws.mapSeats _).agrees.judgedOnce_evaluate _ _ (State.unjudged_mapSeats h _)

theorem State.warningLaws.judgedTwice_advanceSeats (who : Seat → Bool) (h : u.judgedOnce c r) :
    (u.advanceSeats who).judgedTwice c r :=
  (laws.mapSeats _).agrees.judgedTwice_evaluate _ _ (State.judgedOnce_mapSeats h _)

/-- The advance of other seats leaves a lasting fact about a seat's qualifier true. -/
theorem State.warningLaws.advanceSeats_others {P : State → Prop} (lasting : State.lasting n k P) {who : Seat → Bool}
    (off : who n = false) (seats : ∀ f, P (u.mapSeats f)) : P (u.advanceSeats who) := by
  refine lasting.evaluate (laws.mapSeats _).agrees ?_ (seats _)
  simp [State.judges, off, changedKinds_self, PerKind.nothing]

/-- Whatever the order, a seat's qualifiers are judged once where it advances and once where they count (R61). -/
theorem State.warningLaws.judgedTwice_quarterWork (h : u.unjudged c r) (order : TickOrder) :
    (u.quarterWork order).judgedTwice c r := by
  have advanced (who : Seat → Bool) {w : State} (h : w.warningLaws) : (w.advanceSeats who).warningLaws := h.changeSeats _
  have counted {w : State} (h : w.warningLaws) : w.countSeats.warningLaws := h.evaluate _ _
  cases order with
  | seatTableFirst =>
    exact (advanced _ laws).agrees.judgedTwice_evaluate _ _ (laws.judgedOnce_advanceSeats _ h)
  | monitorFirst =>
    exact (counted laws).judgedTwice_advanceSeats _ (laws.agrees.judgedOnce_evaluate _ _ h)
  | seatBySeat first =>
    have laws' := advanced (fun n => !first.getLsbD n.val) laws
    by_cases early : first.getLsbD r.seat.val = true
    · have still : (u.advanceSeats fun n => !first.getLsbD n.val).unjudged c r :=
        laws.advanceSeats_others (State.lasting_unjudged c r) (by simp [early]) (State.unjudged_mapSeats h)
      exact (counted laws').judgedTwice_advanceSeats _ (laws'.agrees.judgedOnce_evaluate _ _ still)
    · have twice := laws'.agrees.judgedTwice_evaluate true (everySeat quarterKinds) (laws.judgedOnce_advanceSeats _ h)
      exact (counted laws').advanceSeats_others (State.lasting_judgedTwice c r) (by simpa using early)
        (State.judgedTwice_mapSeats twice)

end

end

/-- Settles O60: one event leaves a record grown or takes it out for good, and a quarter tick judges each (seat, kind)
twice, so that what the first event took out the second may raise anew. -/
theorem severityNeverFalls : Obligations.SeverityNeverFalls := by
  unfold Obligations.SeverityNeverFalls
  intro c s t lawful ran r held r' held' seat kind
  have laws := lawful.warningLaws
  have record : s.record r.seat r.kind = some r := State.record_of_mem lawful.list held
  have list : t.listLaw := by
    have run := exec_runs ran
    have after : t.warningLaws := by
      clear ran held'
      induction run with
      | refl => exact laws
      | tail _ move ih => exact State.warningLaws_moves move ih
    exact after.agrees.owes.list
  have record' : t.record r.seat r.kind = some r' := by
    rw [← seat, ← kind]
    exact State.record_of_mem list held'
  have fromSafe (safe : r.safe (t.record r.seat r.kind)) : r.severity.code ≤ r'.severity.code
      ∧ (r.roles.presiding = true → r'.roles.presiding = true)
      ∧ (r.roles.technical = true → r'.roles.technical = true) := by
    obtain ⟨severity, presiding, technical⟩ := safe r' record'
    exact ⟨severity, presiding, technical⟩
  by_cases once : ticksAgain c = false
  · exact .inl (fromSafe ((exec_oneEvent ran once).safe lawful record))
  · cases c with
    | secondTick order =>
      cases ran
      exact .inl (fromSafe (laws.safe_secondWork record order))
    | quarterTick order =>
      cases ran
      have start : s.takeSetValues.unjudged s.clock r :=
        ⟨s.takeSetValues_clock, State.holds_takeSetValues (laws.agrees.holds record)⟩
      have ready : s.takeSetValues.warningLaws := State.warningLaws_moves (whole := True) .tookValues laws
      rcases ready.judgedTwice_quarterWork start order with safe | ⟨acked, -, warned⟩
      · exact .inl (fromSafe safe.2)
      · refine .inr ⟨⟨order, rfl⟩, acked, ?_⟩
        have found : (s.takeSetValues.quarterWork order).record r.seat r.kind = some r' := record'
        rcases warned with ⟨-, none⟩ | ⟨q, hq, new⟩
        · rw [none] at found
          cases found
        · obtain rfl : q = r' := Option.some.inj (hq.symm.trans found)
          exact new
    | _ => exact absurd rfl once

end Sys2Proof.Machine
end
